-- ==== Sys2Proof/Word.lean ====
section
/-! DEFINITION. The machine's words. Every scalar value of a stream is 64 bits (03 R68), an instruction word and an
accumulator word 32 bits (02 R31, 07 R217), memory is bytes (00 R8). -/

namespace Sys2Proof

/-- A scalar value: 64 bits. -/
abbrev Word := BitVec 64

/-- An instruction word, a lane, an accumulator word, a sequencer register: 32 bits. -/
abbrev W32 := BitVec 32

/-- One byte of memory. -/
abbrev Byte := BitVec 8

/-- A 6-bit operand specifier as an instruction word holds it (02 R49); REP adds its steps to it (03 R85). -/
abbrev Spec := BitVec 6

/-- The four token bits of an L, X or S word: bit 3 push-previous, 2 push-next, 1 pop-previous, 0 pop-next (02 R44). -/
abbrev Tok := BitVec 4

/-- Bits `hi` down to `lo` of a natural number read as a bit string (00 R7). -/
def bits (v hi lo : Nat) : Nat := v / 2 ^ lo % 2 ^ (hi + 1 - lo)

/-- One bit of a natural number. -/
def bit (v n : Nat) : Bool := v / 2 ^ n % 2 == 1

/-- The low `n` bits of `v` read as a two's complement integer (00 R13, `sext`). -/
def sextN (v n : Nat) : Int :=
  let m := v % 2 ^ n
  if n ≠ 0 ∧ m ≥ 2 ^ (n - 1) then (m : Int) - 2 ^ n else m

end Sys2Proof
end

