-- ==== Sys2Proof/Syntax/Names.lean ====
section
/-! DEFINITION. The names that instructions and steps carry: streams, pipes, counters, FIFOs, and the plain data that an
outside party hands the device in one step (a launch, a flit, an image, a mailbox request). -/

namespace Sys2Proof

/-- The four streams of a context (02 intro, R36). -/
inductive Strm where
  | c | l | x | s
  deriving DecidableEq, Repr, Inhabited

/-- The six pipes, in the order of 02 R50 and 20 R437. -/
inductive Pipe where
  | cl | cx | lx | xs | xc | sc
  deriving DecidableEq, Repr, Inhabited

/-- The four dependence-token counters (02 R43). -/
inductive Ctr where
  | lx | xl | xs | sx
  deriving DecidableEq, Repr, Inhabited

/-- The six result FIFOs, numbered 0 to 5 (03 R78). -/
inductive Ring where
  | ld | atom | co | mx | cr | tx
  deriving DecidableEq, Repr, Inhabited

/-- The three classes of bound operations (07 R230). -/
inductive UnitClass where
  | matrix | quantiser | cordic
  deriving DecidableEq, Repr, Inhabited

/-- How a hardware token is declared in the synchronisation table (09 R287, 20 R442). -/
inductive TokenDecl where
  | unused | ctxToSeq | seqToCtx
  deriving DecidableEq, Repr, Inhabited

/-- The kinds of a loop-table entry (20 R441). -/
inductive LoopKind where
  | temporal | cores | dies
  deriving DecidableEq, Repr, Inhabited

/-- A party outside the compute contexts that reads or writes device memory or registers (11 R328, 14 R397). -/
inductive Party where
  | host | kernel
  deriving DecidableEq, Repr, Inhabited

/-- An address of the host in one of its BARs (14 R396): the device memory window, or the contact sheet's page. -/
inductive HostAddr where
  | memory (off : Nat)
  | sheet (off : Nat)
  deriving DecidableEq, Repr, Inhabited

/-- What a debugger asks of a halted context through the management path (12 R374), of a stream where it belongs to one: a register read or
written, a word of an accumulator unit after completion, a queued lane, a pipe entry, a barrier's counts, an entry of a result FIFO. -/
inductive DbgItem where
  | reg (spec : Spec)
  | setReg (spec : Spec) (v : Word)
  | acc (unit index : Nat)
  | lane (n : Nat)
  | pipe (p : Pipe) (n : Nat)
  | barrier (n : Nat)
  | entry (r : Ring) (n : Nat)
  deriving DecidableEq, Repr, Inhabited

/-- What a mailbox request carries besides its command: its sequence number and whether its sender is at an authority that
may ask for that command (14 R401, status 3; which authority each command needs is the management controller's policy). -/
structure Mbx where
  seq  : BitVec 16
  auth : Bool
  deriving DecidableEq, Repr, Inhabited

/-- The kernel image held in a slot or staged by mailbox command 0x30 (14 R405, R410). -/
structure Image where
  body    : List Byte
  sig     : List Byte
  version : Nat
  deriving DecidableEq, Repr, Inhabited

/-- What the resident kernel allots one context before its first instruction issues: its place (01 R20), its shares (05 R144,
R155, 07 R215), its page-table root (11 R352), its context area (12 R369), its save budget, watchdog limit and recall word,
and the launch words o0 to o7 (03 R70). -/
structure Placement where
  ctx        : Nat
  spbase     : Word
  spsize     : Word
  accset     : Word
  tagown     : Word
  ptroot     : Word
  ctxarea    : Word
  savebudget : Word
  wdlimit    : Word
  recallWord : Word
  params     : List Word
  deriving DecidableEq, Repr, Inhabited

/-- A 64 KiB page of a section: where in device memory it lies, and the leaf entries that map it. -/
structure PageMap where
  entries : List Nat
  pa      : Nat
  deriving DecidableEq, Repr, Inhabited

/-- Where the loader puts a section of an image that it maps (20 R449): the device virtual address of its first byte, and its pages. -/
structure Site where
  va    : Nat
  pages : List PageMap
  deriving DecidableEq, Repr, Inhabited

/-- What CONTEXT_LAUNCH is given (20 R443-R446, 12 R373): the launch queue, slice, tenant, level and rank, whether the kernel is paired, the
bytes of its Pronal image, the sites of the sections that the loader maps, in the order of the section table, and the places of its
contexts and, for a paired kernel, of its second copy (13 R390). -/
structure LaunchRequest where
  queue     : Nat
  slice     : Nat
  tenant    : Nat
  kernelLvl : Bool
  paired    : Bool
  rank      : BitVec 3
  file      : List Byte
  sites     : List Site
  places    : List Placement
  twins     : List Placement
  deriving DecidableEq, Repr, Inhabited

/-- The header flit of a CSEND (10 R320): receiving package, far address, length, the value its running checksum starts from (10 R313),
its position in its chain (its seed field; open_: it goes on from the checksum that the receiving package has for the same source), and
the job whose page tables translate the far address; and the model's own number of the slot it left from, by which its data flits are
known [19]. -/
structure SendHeader where
  pkg   : Nat
  far   : Nat
  len   : Nat
  c0    : W32
  chain : Nat
  open_ : Bool
  job   : Nat
  src   : Nat
  deriving DecidableEq, Repr, Inhabited

/-- A fabric flit (14 R402, 10 R320); a data flit with the number of the slot it left from [19]; and the word that the sender has ended a
command with a fault, after which no data comes (R317) [60]. -/
inductive Flit where
  | header (h : SendHeader)
  | data (src : Nat) (bytes : List Byte)
  | stop (src code : Nat)
  deriving DecidableEq, Repr, Inhabited

/-- A place of a context's light state in which data can be marked (13 R384, R385): an entry of q, an o register or a predicate of a
stream, an entry of a pipe, oldest first, a spill slot, a line of the loop buffer, an 8-byte word of such a line by its address. -/
inductive RegPlace where
  | q (st : Strm) (n : Nat)
  | o (st : Strm) (n : Nat)
  | p (st : Strm) (n : Nat)
  | pipe (p : Pipe) (n : Nat)
  | spill (n : Nat)
  | line (addr : Nat)
  | word (addr : Nat)
  deriving DecidableEq, Repr, Inhabited

/-- A 64-byte (or smaller) place in which a soft error upsets a bit (13 R384, R385). Indices are those of the storage's own
chapter; the granule of poison is one aligned 8-byte word, one 32-bit accumulator word, or one register.
copy: a copy of the C stream's scalar datapath under a VOTE (04 R136). file: a place of a context's light state. fifo, lane, work, cmd, run: the
n-th entry, oldest first, of a result FIFO, of a stream's instruction queue, of an engine's queue, of the courier queue and of the sequencer's. residue: the
data at `at_` that a failing residue check of an engine or lane datapath affects. -/
inductive Loc where
  | dev (word : Nat)
  | sp (core word : Nat)
  | acc (core idx : Nat)
  | tile (ctx tl word : Nat)
  | sram (cluster word : Nat)
  | reg (ctx : Nat) (st : Strm) (g : Nat)
  | copy (ctx : Nat)
  | file (ctx : Nat) (r : RegPlace)
  | fifo (ctx : Nat) (r : Ring) (n : Nat)
  | lane (ctx : Nat) (st : Strm) (n : Nat)
  | work (ctx : Nat) (cls : UnitClass) (n : Nat)
  | cmd (ctx n : Nat)
  | run (ctx n : Nat)
  | residue (at_ : Loc)
  deriving DecidableEq, Repr, Inhabited

/-- SPDM 1.3 requests carry a nonce, a slot and a measurement index (14 R408). -/
structure SpdmArgs where
  nonce : Nat
  slot  : Nat
  index : Nat
  deriving DecidableEq, Repr, Inhabited

end Sys2Proof
end

