-- ==== Sys2Proof/Syntax.lean ====
section
/-! DEFINITION. The abstract syntax: one constructor for each row of spec/opcode_table.json: the words with fields, the words
without, then the steps that are no word, each group in the table's order. A word instruction carries the fields of its
encoding (02 R53-R55, R64); a step that is no instruction word carries the party or the data that the step names. The five
rows "Kernel write of ..." are such steps: the kernel's write of a context's register; a kernel-level context's own WRSYS word
of those registers is `wrsys`, which makes the same checks [21]. -/

namespace Sys2Proof

/-- The instructions and the other indivisible steps of the part. -/
inductive Instr where
  /-- ADD (R90): C-stream CALU addition d := a + b. -/
  | add (d a b : Spec)
  /-- SUB (R90): C-stream CALU subtraction d := a − b. -/
  | sub (d a b : Spec)
  /-- MUL (R90): C-stream low 64 bits of a × b, latency 3. -/
  | mul (d a b : Spec)
  /-- MULH (R90): C-stream high 64 bits of the signed product. -/
  | mulh (d a b : Spec)
  /-- MULHU (R90): C-stream high 64 bits of the unsigned product. -/
  | mulhu (d a b : Spec)
  /-- DIV (R91): C-stream signed division rounded towards zero, with fixed results for zero divisors. -/
  | div (d a b : Spec)
  /-- DIVU (R91): C-stream unsigned division. -/
  | divu (d a b : Spec)
  /-- REM (R91): C-stream signed remainder. -/
  | rem (d a b : Spec)
  /-- REMU (R91): C-stream unsigned remainder. -/
  | remu (d a b : Spec)
  /-- AND (R90): C-stream bitwise AND. -/
  | and (d a b : Spec)
  /-- OR (R90): C-stream bitwise OR. -/
  | or (d a b : Spec)
  /-- XOR (R90): C-stream bitwise XOR. -/
  | xor (d a b : Spec)
  /-- ANDN (R90): C-stream a AND NOT b. -/
  | andn (d a b : Spec)
  /-- SHL (R90): C-stream shift left by b[5:0]. -/
  | shl (d a b : Spec)
  /-- SHR (R90): C-stream logical shift right by b[5:0]. -/
  | shr (d a b : Spec)
  /-- SAR (R90): C-stream arithmetic shift right by b[5:0]. -/
  | sar (d a b : Spec)
  /-- ROL (R90): C-stream rotate left by b[5:0]. -/
  | rol (d a b : Spec)
  /-- ROR (R90): C-stream rotate right by b[5:0]. -/
  | ror (d a b : Spec)
  /-- MIN (R90): C-stream signed minimum. -/
  | min (d a b : Spec)
  /-- MAX (R90): C-stream signed maximum. -/
  | max (d a b : Spec)
  /-- MINU (R90): C-stream unsigned minimum. -/
  | minu (d a b : Spec)
  /-- MAXU (R90): C-stream unsigned maximum. -/
  | maxu (d a b : Spec)
  /-- CMPEQ (R90): C-stream compare equal giving 1 or 0. -/
  | cmpeq (d a b : Spec)
  /-- CMPNE (R90): C-stream compare not equal giving 1 or 0. -/
  | cmpne (d a b : Spec)
  /-- CMPLT (R90): C-stream signed less-than compare. -/
  | cmplt (d a b : Spec)
  /-- CMPLTU (R90): C-stream unsigned less-than compare. -/
  | cmpltu (d a b : Spec)
  /-- CMPLE (R90): C-stream signed less-or-equal compare. -/
  | cmple (d a b : Spec)
  /-- CMPLEU (R90): C-stream unsigned less-or-equal compare. -/
  | cmpleu (d a b : Spec)
  /-- MOV (R92): C-stream copy d := a. -/
  | mov (d a : Spec)
  /-- NOT (R92): C-stream bitwise complement. -/
  | not (d a : Spec)
  /-- NEG (R92): C-stream negation 0 − a. -/
  | neg (d a : Spec)
  /-- ABS (R92): C-stream signed magnitude. -/
  | abs (d a : Spec)
  /-- CLZ (R92): C-stream count of leading zeros. -/
  | clz (d a : Spec)
  /-- CTZ (R92): C-stream count of trailing zeros. -/
  | ctz (d a : Spec)
  /-- POPC (R92): C-stream population count. -/
  | popc (d a : Spec)
  /-- SEXTB (R92): C-stream sign extension from 8 bits. -/
  | sextb (d a : Spec)
  /-- SEXTH (R92): C-stream sign extension from 16 bits. -/
  | sexth (d a : Spec)
  /-- SEXTW (R92): C-stream sign extension from 32 bits. -/
  | sextw (d a : Spec)
  /-- ZEXTB (R92): C-stream zero extension from 8 bits. -/
  | zextb (d a : Spec)
  /-- ZEXTH (R92): C-stream zero extension from 16 bits. -/
  | zexth (d a : Spec)
  /-- ZEXTW (R92): C-stream zero extension from 32 bits. -/
  | zextw (d a : Spec)
  /-- BSWAP (R92): C-stream byte reversal. -/
  | bswap (d a : Spec)
  /-- ADDI (R93): C-stream add of a sign-extended 14-bit immediate. -/
  | addi (d a : Spec) (i : BitVec 14)
  /-- ANDI (R93): C-stream AND with a sign-extended immediate. -/
  | andi (d a : Spec) (i : BitVec 14)
  /-- ORI (R93): C-stream OR with a sign-extended immediate. -/
  | ori (d a : Spec) (i : BitVec 14)
  /-- XORI (R93): C-stream XOR with a sign-extended immediate. -/
  | xori (d a : Spec) (i : BitVec 14)
  /-- MULI (R93): C-stream multiply by a sign-extended immediate, latency 3. -/
  | muli (d a : Spec) (i : BitVec 14)
  /-- SHI_SHL (R94): C-stream shift left by an immediate amount. -/
  | shiShl (d a : Spec) (n : BitVec 6)
  /-- SHI_SHR (R94): C-stream logical shift right by an immediate amount. -/
  | shiShr (d a : Spec) (n : BitVec 6)
  /-- SHI_SAR (R94): C-stream arithmetic shift right by an immediate amount. -/
  | shiSar (d a : Spec) (n : BitVec 6)
  /-- SHI_ROL (R94): C-stream rotate left by an immediate amount. -/
  | shiRol (d a : Spec) (n : BitVec 6)
  /-- LI (R95): C-stream load of a sign-extended 20-bit immediate. -/
  | li (d : Spec) (i : BitVec 20)
  /-- LIH (R95): C-stream insertion of 20 bits at bits 39:20 of d. -/
  | lih (d : Spec) (i : BitVec 20)
  /-- LIX (R95): C-stream replacement of bits 63:40 of d by a sign-extended immediate. -/
  | lix (d : Spec) (i : BitVec 20)
  /-- BFX (R96): C-stream bit-field extract with optional sign extension. -/
  | bfx (d a : Spec) (s : BitVec 1) (l p : BitVec 6)
  /-- BFI (R96): C-stream bit-field insert into d. -/
  | bfi (d a : Spec) (l p : BitVec 6)
  /-- SEL (R97): C-stream selection of a or b by a predicate. -/
  | sel (d a b : Spec) (p : BitVec 3)
  /-- RGN (R98): C-stream packing of a region descriptor. -/
  | rgn (d a b : Spec) (y : BitVec 4)
  /-- PSET (R99): C-stream predicate set from a register comparison. -/
  | pset (n : BitVec 3) (a b : Spec) (c : BitVec 8)
  /-- PSETI (R99): C-stream predicate set from a comparison with an immediate. -/
  | pseti (n : BitVec 3) (a : Spec) (c : BitVec 4) (i : BitVec 10)
  /-- PAND (R100): Predicate AND. -/
  | pand (d : BitVec 3) (a b : BitVec 4)
  /-- POR (R100): Predicate OR. -/
  | por (d : BitVec 3) (a b : BitVec 4)
  /-- PXOR (R100): Predicate XOR. -/
  | pxor (d : BitVec 3) (a b : BitVec 4)
  /-- PNOT (R100): Predicate NOT. -/
  | pnot (d : BitVec 3) (a : BitVec 4)
  /-- BR (R129): Unconditional branch to a line. -/
  | br (o : BitVec 22)
  /-- BRP (R129): Branch taken when a predicate equals sense. -/
  | brp (p : BitVec 3) (s : BitVec 1) (o : BitVec 22)
  /-- CALL (R131): Call pushing the return line and opening a frame. -/
  | call (o : BitVec 22)
  /-- JMPI (R130): Jump to a line address held in a register. -/
  | jmpi (a : Spec)
  /-- CALLI (R131): Indirect call to a line address held in a register. -/
  | calli (a : Spec)
  /-- LOOP (R113): Declaration of a plain loop level. -/
  | loop (lv : BitVec 2) (a : Spec) (imm : BitVec 1) (len : BitVec 6) (icnt : BitVec 12)
  /-- LPIPE (R113): Declaration of a pipelined loop level with optional stage map. -/
  | lpipe (lv : BitVec 2) (a : Spec) (stages : BitVec 3) (imm m : BitVec 1) (len : BitVec 6) (moff icnt : BitVec 12)
  /-- LRD (R126): Read of a loop-control register. -/
  | lrd (d : Spec) (s : BitVec 6)
  /-- LWR (R126): Write of a loop-control register. -/
  | lwr (a : Spec) (s : BitVec 6)
  /-- LRD_RSBOT (R128): Removal of the oldest return-stack entry. -/
  | lrdRsbot (d : Spec)
  /-- LWR_RSBOT (R128): Insertion of a new oldest return-stack entry. -/
  | lwrRsbot (a : Spec)
  /-- REP (R85): C-stream prefix repeating the next instruction with stepped specifiers. -/
  | rep (b a d : BitVec 2) (c : BitVec 6)
  /-- LD (R341): Ordinary device-memory load posting to ret.ld. -/
  | ld (a : Spec) (w : BitVec 3) (o : BitVec 11)
  /-- ST (R341): Ordinary store into the context's store buffer. -/
  | st (d a : Spec) (w : BitVec 3) (o : BitVec 11)
  /-- LDS (R342): Scalar scratchpad load, latency 4. -/
  | lds (d a : Spec) (w : BitVec 3)
  /-- STS (R342): Scalar scratchpad store. -/
  | sts (d a : Spec) (w : BitVec 3)
  /-- SPLD (R84): Load from a spill slot. -/
  | spld (d : Spec) (n : BitVec 14)
  /-- SPST (R84): Store to a spill slot. -/
  | spst (a : Spec) (n : BitVec 14)
  /-- AADD (R343): Atomic add. -/
  | aadd (s : BitVec 3) (o : BitVec 2) (a b : Spec)
  /-- AAND (R343): Atomic AND. -/
  | aand (s : BitVec 3) (o : BitVec 2) (a b : Spec)
  /-- AOR (R343): Atomic OR. -/
  | aor (s : BitVec 3) (o : BitVec 2) (a b : Spec)
  /-- AXOR (R343): Atomic XOR. -/
  | axor (s : BitVec 3) (o : BitVec 2) (a b : Spec)
  /-- AMIN (R343): Atomic signed minimum. -/
  | amin (s : BitVec 3) (o : BitVec 2) (a b : Spec)
  /-- AMAX (R343): Atomic signed maximum. -/
  | amax (s : BitVec 3) (o : BitVec 2) (a b : Spec)
  /-- AMINU (R343): Atomic unsigned minimum. -/
  | aminu (s : BitVec 3) (o : BitVec 2) (a b : Spec)
  /-- AMAXU (R343): Atomic unsigned maximum. -/
  | amaxu (s : BitVec 3) (o : BitVec 2) (a b : Spec)
  /-- ASWAP (R343): Atomic swap. -/
  | aswap (s : BitVec 3) (o : BitVec 2) (a b : Spec)
  /-- ACAS (R343): Atomic compare and swap using b and the next register. -/
  | acas (s : BitVec 3) (o : BitVec 2) (a b : Spec)
  /-- ALD (R343): Atomic load. -/
  | ald (s : BitVec 3) (o : BitVec 2) (a : Spec)
  /-- AST (R343): Atomic store. -/
  | ast (s : BitVec 3) (o : BitVec 2) (a b : Spec)
  /-- SWAP (R347): FIX followed by inversion of cur of the named double buffers. -/
  | swap (a : Spec)
  /-- FENCE (R346): Ordering fence on atomics at a scope. -/
  | fence (o : BitVec 2) (s : BitVec 3)
  /-- BAR (R348): FIX and arrival at a slice barrier. -/
  | bar (a : Spec)
  /-- WAITC (R307): C-stream wait for a package cycle and the courier commands due by it. -/
  | waitc (a : Spec)
  /-- WAITK (R288): Wait for and take a sequencer-to-context hardware token. -/
  | waitk (n : BitVec 3)
  /-- SIGK (R288): Increment of a context-to-sequencer hardware token. -/
  | sigk (n : BitVec 3)
  /-- EPUSH (R321): Courier command built from a 32-byte block in the scratchpad. -/
  | epush (d a : Spec) (k : BitVec 2)
  /-- EPOP (R82): C-stream pop of a result FIFO, stalling or polling. -/
  | epop (d a : Spec) (m : BitVec 1) (p : BitVec 3)
  /-- CBSET (R236): Arming of a completion barrier with a count. -/
  | cbset (q : BitVec 3) (a : Spec)
  /-- CBWAIT (R238): C-stream wait for or poll of a completion barrier. -/
  | cbwait (d : Spec) (q : BitVec 3) (m : BitVec 1) (p : BitVec 3)
  /-- RDSYS (R363): Read of a system register. -/
  | rdsys (d : Spec) (n : BitVec 14)
  /-- WRSYS (R363): Write of a system register that has no row of its own. -/
  | wrsys (a : Spec) (n : BitVec 14)
  /-- TRAP (R362): Software trap to the tenant handler raising 0x1D. -/
  | trap (a : Spec) (n : BitVec 7)
  /-- TRAP_K_EXIT (R362): Kernel service 0: the context ends with an exit status. -/
  | trapKExit (d a : Spec)
  /-- TRAP_K_SAVED (R365): Kernel service 1 completing a cooperative save. -/
  | trapKSaved (d a : Spec)
  /-- TRAP_K_SERVICE (R362): Kernel-defined service call stopping C until the kernel replies. -/
  | trapKService (d a : Spec) (n : BitVec 7)
  /-- RDCYC (R364): Read of the package cycle counter. -/
  | rdcyc (d : Spec)
  /-- BKPT (R364): Breakpoint halting the context when a debugger is attached. -/
  | bkpt (n : BitVec 8)
  /-- SALU_ADD (R102): L/X/S scalar addition. -/
  | saluAdd (t : Tok) (d a b : Spec)
  /-- SALU_SUB (R102): L/X/S scalar subtraction. -/
  | saluSub (t : Tok) (d a b : Spec)
  /-- SALU_AND (R102): L/X/S scalar AND. -/
  | saluAnd (t : Tok) (d a b : Spec)
  /-- SALU_OR (R102): L/X/S scalar OR. -/
  | saluOr (t : Tok) (d a b : Spec)
  /-- SALU_XOR (R102): L/X/S scalar XOR. -/
  | saluXor (t : Tok) (d a b : Spec)
  /-- SALU_SHL (R102): L/X/S scalar shift left. -/
  | saluShl (t : Tok) (d a b : Spec)
  /-- SALU_SHR (R102): L/X/S scalar logical shift right. -/
  | saluShr (t : Tok) (d a b : Spec)
  /-- SALU_MIN (R102): L/X/S scalar signed minimum. -/
  | saluMin (t : Tok) (d a b : Spec)
  /-- SALU_MAX (R102): L/X/S scalar signed maximum. -/
  | saluMax (t : Tok) (d a b : Spec)
  /-- SALU_MUL (R102): L/X/S scalar multiply, latency 3. -/
  | saluMul (t : Tok) (d a b : Spec)
  /-- SALU_MOV (R102): L/X/S scalar copy. -/
  | saluMov (t : Tok) (d a : Spec)
  /-- LXS_ADDI (R103): L/X/S add of a 10-bit immediate. -/
  | lxsAddi (t : Tok) (d a : Spec) (i : BitVec 10)
  /-- LXS_LI (R103): L/X/S load of a sign-extended 16-bit immediate. -/
  | lxsLi (t : Tok) (d : Spec) (i : BitVec 16)
  /-- LXS_LIH (R103): L/X/S replacement of the upper bits of d from a 16-bit immediate. -/
  | lxsLih (t : Tok) (d : Spec) (i : BitVec 16)
  /-- LXS_RGN (R104): L/X/S packing of a region descriptor. -/
  | lxsRgn (t : Tok) (d a b : Spec) (y : BitVec 4)
  /-- LXS_BFX (R105): L/X/S bit-field extract with position and length from a register. -/
  | lxsBfx (t : Tok) (d a b : Spec) (s : BitVec 1)
  /-- LXS_PSET (R106): L/X/S predicate set from a comparison. -/
  | lxsPset (t : Tok) (n : BitVec 3) (a b : Spec) (c : BitVec 4)
  /-- LXS_WAITC (R307): L/X/S wait for a package cycle and the courier commands due by it. -/
  | lxsWaitc (t : Tok) (a : Spec)
  /-- LXS_EPOP (R82): L/X/S pop of a result FIFO. -/
  | lxsEpop (t : Tok) (d a : Spec) (m : BitVec 1) (p : BitVec 3)
  /-- LXS_CBWAIT (R238): L/X/S wait for or poll of a completion barrier. -/
  | lxsCbwait (t : Tok) (d : Spec) (q : BitVec 3) (m : BitVec 1) (p : BitVec 3)
  /-- LXS_NOP (R107): L/X/S no operation whose token bits still act. -/
  | lxsNop (t : Tok)
  /-- LXS_REP (R85): L/X/S prefix repeating the next instruction. -/
  | lxsRep (b a d : BitVec 2) (c : BitVec 6)
  /-- LDT (R221): Load of a tile register from a scratchpad region. -/
  | ldt (t : Tok) (n : BitVec 3) (a : Spec) (w : BitVec 1)
  /-- LDTC (R224): Load of a tile register from cluster SRAM. -/
  | ldtc (t : Tok) (n : BitVec 3) (a b : Spec) (w : BitVec 1)
  /-- CFETCH (R311): Courier fetch from device memory or cluster SRAM into the partition. -/
  | cfetch (t : Tok) (d a b : Spec) (slot : BitVec 6) (tag : BitVec 8) (seed : BitVec 2) (cmp : BitVec 1) (codec : BitVec 2) (size : BitVec 12) (nt : BitVec 1)
  /-- CQFETCH (R315): Courier fetch quantising FP32 or BF16 into a CB4 region. -/
  | cqfetch (t : Tok) (d a b : Spec) (slot : BitVec 6) (tag : BitVec 8) (seed : BitVec 2) (cmp bf16 : BitVec 1) (cbk : BitVec 2) (nt : BitVec 1)
  /-- STT (R222): Store of a tile register to a scratchpad region. -/
  | stt (t : Tok) (d : Spec) (f : BitVec 1) (n : BitVec 3)
  /-- STTC (R224): Store of a tile register to cluster SRAM. -/
  | sttc (t : Tok) (d : Spec) (f : BitVec 1) (n : BitVec 3) (b : Spec)
  /-- CSTORE (R311): Courier store from the partition to device memory or cluster SRAM. -/
  | cstore (t : Tok) (d a b : Spec) (slot : BitVec 6) (tag : BitVec 8) (seed : BitVec 2) (cmp : BitVec 1) (codec : BitVec 2) (size : BitVec 12) (nt : BitVec 1)
  /-- CSEND (R320): Courier send to another package's device memory over the fabric. -/
  | csend (t : Tok) (d a b : Spec) (slot : BitVec 6) (tag : BitVec 8) (seed : BitVec 2) (cmp nt : BitVec 1)
  /-- VADD (R164): Elementwise region addition. -/
  | vadd (t : Tok) (d a b : Spec)
  /-- VSUB (R164): Elementwise region subtraction. -/
  | vsub (t : Tok) (d a b : Spec)
  /-- VMUL (R164): Elementwise region multiplication. -/
  | vmul (t : Tok) (d a b : Spec)
  /-- VDIV (R164): Elementwise region division. -/
  | vdiv (t : Tok) (d a b : Spec)
  /-- VMIN (R164): Elementwise region minimum. -/
  | vmin (t : Tok) (d a b : Spec)
  /-- VMAX (R164): Elementwise region maximum. -/
  | vmax (t : Tok) (d a b : Spec)
  /-- VAND (R164): Elementwise region AND. -/
  | vand (t : Tok) (d a b : Spec)
  /-- VOR (R164): Elementwise region OR. -/
  | vor (t : Tok) (d a b : Spec)
  /-- VXOR (R164): Elementwise region XOR. -/
  | vxor (t : Tok) (d a b : Spec)
  /-- VSHL (R164): Elementwise region shift left. -/
  | vshl (t : Tok) (d a b : Spec)
  /-- VSHR (R164): Elementwise region logical shift right. -/
  | vshr (t : Tok) (d a b : Spec)
  /-- VSAR (R164): Elementwise region arithmetic shift right. -/
  | vsar (t : Tok) (d a b : Spec)
  /-- VADDS (R164): Elementwise saturating integer addition. -/
  | vadds (t : Tok) (d a b : Spec)
  /-- VSUBS (R164): Elementwise saturating integer subtraction. -/
  | vsubs (t : Tok) (d a b : Spec)
  /-- VAVG (R164): Elementwise average. -/
  | vavg (t : Tok) (d a b : Spec)
  /-- VFMA (R165): Elementwise fused multiply-add into d. -/
  | vfma (t : Tok) (d a b : Spec)
  /-- VABS (R166): Elementwise absolute value. -/
  | vabs (t : Tok) (d a : Spec)
  /-- VNEG (R166): Elementwise negation. -/
  | vneg (t : Tok) (d a : Spec)
  /-- VNOT (R166): Elementwise bitwise complement. -/
  | vnot (t : Tok) (d a : Spec)
  /-- VCPY (R166): Bit-for-bit region copy. -/
  | vcpy (t : Tok) (d a : Spec)
  /-- VFILL (R166): Fill of a region with a scalar value. -/
  | vfill (t : Tok) (d a : Spec)
  /-- VRSQ (R166): Elementwise reciprocal square root. -/
  | vrsq (t : Tok) (d a : Spec)
  /-- VRCP (R166): Elementwise reciprocal. -/
  | vrcp (t : Tok) (d a : Spec)
  /-- VCVT (R167): Elementwise format conversion with chosen rounding and saturation. -/
  | vcvt (t : Tok) (d a : Spec) (s : BitVec 1) (r : BitVec 3)
  /-- VRED_SUM (R168): Region sum by a fixed W48 tree. -/
  | vredSum (t : Tok) (d a : Spec)
  /-- VRED_MAX (R168): Region maximum reduction. -/
  | vredMax (t : Tok) (d a : Spec)
  /-- VRED_MIN (R168): Region minimum reduction. -/
  | vredMin (t : Tok) (d a : Spec)
  /-- VRED_ARGMAX (R168): Index of the largest region element. -/
  | vredArgmax (t : Tok) (d a : Spec)
  /-- VRED_ARGMIN (R168): Index of the smallest region element. -/
  | vredArgmin (t : Tok) (d a : Spec)
  /-- VSCAN_SUM (R169): Inclusive or exclusive prefix sum. -/
  | vscanSum (t : Tok) (d a : Spec) (e : BitVec 1)
  /-- VSCAN_MAX (R169): Inclusive or exclusive prefix maximum. -/
  | vscanMax (t : Tok) (d a : Spec) (e : BitVec 1)
  /-- VSCAN_MIN (R169): Inclusive or exclusive prefix minimum. -/
  | vscanMin (t : Tok) (d a : Spec) (e : BitVec 1)
  /-- VSEL (R170): Elementwise selection by a predicate region. -/
  | vsel (t : Tok) (d a b : Spec) (i : BitVec 1)
  /-- VCMP (R171): Elementwise comparison writing 1 or 0. -/
  | vcmp (t : Tok) (d a b : Spec) (u : BitVec 1) (c : BitVec 3)
  /-- PART (R172): Partition of element indices into true and false lists with a true count. -/
  | part (t : Tok) (d a b : Spec)
  /-- VGATH (R174): Indexed gather from a table region. -/
  | vgath (t : Tok) (d a b : Spec)
  /-- VSCAT (R174): Indexed scatter into a table region. -/
  | vscat (t : Tok) (d a b : Spec)
  /-- VQUANT (R176): Quantisation of a float region to CB4 against a codebook. -/
  | vquant (t : Tok) (d a : Spec) (c : BitVec 2) (g : BitVec 4)
  /-- VDEQ (R178): Dequantisation of a CB4 region to a float region. -/
  | vdeq (t : Tok) (d a : Spec) (c : BitVec 2)
  /-- VPERM_REV (R179): Reversal of a region. -/
  | vpermRev (t : Tok) (d a : Spec)
  /-- VPERM_TRN (R179): Transpose of a region viewed with 2^b columns. -/
  | vpermTrn (t : Tok) (d a : Spec) (b : BitVec 6)
  /-- VPERM_ZIP (R179): Interleave of the two halves of a region. -/
  | vpermZip (t : Tok) (d a : Spec)
  /-- VPERM_UNZIP (R179): De-interleave of a region into two halves. -/
  | vpermUnzip (t : Tok) (d a : Spec)
  /-- VPERM_ROT (R179): Rotation of a region by b elements. -/
  | vpermRot (t : Tok) (d a : Spec) (b : BitVec 6)
  /-- MMA (R228): Matrix multiply of two tile registers into an accumulator. -/
  | mma (t : Tok) (n ta : BitVec 3) (fa : BitVec 1) (tb : BitVec 3) (fb : BitVec 1) (fsel : BitVec 4) (mode : BitVec 2) (cm : BitVec 1) (mk : BitVec 2) (cb : BitVec 3) (tag : BitVec 8)
  /-- MMAT (R228): Ternary by INT8 matrix multiply with K = 256. -/
  | mmat (t : Tok) (n ta : BitVec 3) (fa : BitVec 1) (tb : BitVec 3) (fb : BitVec 1) (fsel : BitVec 4) (mode : BitVec 2) (cm : BitVec 1) (mk : BitVec 2) (cb : BitVec 3) (tag : BitVec 8)
  /-- MMAC (R228): Matrix multiply with B read from cluster SRAM. -/
  | mmac (t : Tok) (n ta : BitVec 3) (fa : BitVec 1) (b : Spec) (fsel : BitVec 4) (mode : BitVec 2) (cm : BitVec 1) (mk : BitVec 2) (cb : BitVec 3) (tag : BitVec 8) (tsrc : BitVec 2)
  /-- ACCRD (R239): Read of an accumulator into a region after its units are full. -/
  | accrd (t : Tok) (d : Spec) (m : BitVec 2) (c : BitVec 1) (n : BitVec 3) (i s v : BitVec 1)
  /-- ACCWR (R241): Write of an accumulator from a region. -/
  | accwr (t : Tok) (m : BitVec 2) (c : BitVec 1) (n : BitVec 3) (a : Spec) (i v : BitVec 1)
  /-- ACCZ (R242): Zeroing of the unmasked elements of an accumulator. -/
  | accz (t : Tok) (m : BitVec 2) (c : BitVec 1) (n : BitVec 3)
  /-- APEEK (R240): Non-waiting read of an accumulator in flight. -/
  | apeek (t : Tok) (d : Spec) (m : BitVec 2) (c : BitVec 1) (n : BitVec 3) (i s v : BitVec 1)
  /-- MSTAT (R244): Pop of ret.mx writing a selected status field. -/
  | mstat (t : Tok) (d : Spec) (m : BitVec 1) (p : BitVec 3) (s : BitVec 2)
  /-- MASK_RANGE (R220): Setting of a row or column mask from a range. -/
  | maskRange (t : Tok) (p : BitVec 2) (a : Spec) (c : BitVec 1)
  /-- MASK_REGION (R220): Setting of a row or column mask from a 16-byte region. -/
  | maskRegion (t : Tok) (p : BitVec 2) (a : Spec) (c : BitVec 1)
  /-- FTSEL (R245): Linking or unlinking of the format table to a loop level. -/
  | ftsel (t : Tok) (a : Spec)
  /-- BDSET (R267): Write of a bond register. -/
  | bdset (t : Tok) (n : BitVec 4) (a : Spec)
  /-- BDSET_LD (R268): Load of the boundary from an FP32 or BF16 region. -/
  | bdsetLd (t : Tok) (d a : Spec)
  /-- BDSET_LDW (R268): Load of the boundary words bit for bit. -/
  | bdsetLdw (t : Tok) (d a : Spec)
  /-- BDSET_ST (R268): Store of the boundary values to a region. -/
  | bdsetSt (t : Tok) (d : Spec)
  /-- BDSET_STW (R268): Store of the boundary words bit for bit. -/
  | bdsetStw (t : Tok) (d : Spec)
  /-- BDSET_ACK (R267): Acknowledgement clearing err and ecode. -/
  | bdsetAck (t : Tok)
  /-- BDSET_CLR (R267): Clearing of the boundary and its error. -/
  | bdsetClr (t : Tok)
  /-- TCON (R261): One strip contraction step of the boundary with a frame. -/
  | tcon (t : Tok) (d a : Spec) (l r nb : BitVec 4) (fold mode : BitVec 1) (fmt : BitVec 4) (cbk : BitVec 2) (cb : BitVec 3) (tag : BitVec 8)
  /-- CPLAN (R264): Run of a contraction plan's steps from start to end. -/
  | cplan (t : Tok) (d a : Spec) (q : BitVec 3)
  /-- CRD_ROT (R274): CORDIC circular rotation over regions. -/
  | crdRot (t : Tok) (d a b : Spec)
  /-- CRD_VEC (R274): CORDIC magnitude and angle. -/
  | crdVec (t : Tok) (d a b : Spec)
  /-- CRD_HROT (R274): CORDIC hyperbolic rotation. -/
  | crdHrot (t : Tok) (d a b : Spec)
  /-- CRD_HVEC (R274): CORDIC hyperbolic magnitude and atanh. -/
  | crdHvec (t : Tok) (d a b : Spec)
  /-- CRD_LIN (R274): CORDIC linear quotient y / x. -/
  | crdLin (t : Tok) (d a b : Spec)
  /-- CBLD (R281): Load of a codebook from a BF16 region. -/
  | cbld (t : Tok) (k : BitVec 2) (a : Spec)
  /-- CBLD_CLR (R281): Clearing of a codebook's loaded flag. -/
  | cbldClr (t : Tok) (k : BitVec 2)
  /-- XFGO (R284): Queuing of a transform sequencer run. -/
  | xfgo (t : Tok) (a b : Spec)
  /-- TXLOOP (R291): Sequencer loop level declaration. -/
  | txloop (d a : BitVec 4) (l : BitVec 12)
  /-- TXLD (R292): Sequencer strided load into a work register as FP32. -/
  | txld (d : BitVec 2) (a b : BitVec 4) (c : BitVec 7) (ty : BitVec 4)
  /-- TXST (R292): Sequencer strided store of a work register with conversion. -/
  | txst (d : BitVec 2) (a b : BitVec 4) (s : BitVec 1) (c : BitVec 7) (ty : BitVec 4)
  /-- TXOP_ADD (R293): Sequencer FP32 addition of work registers. -/
  | txopAdd (d a b : BitVec 2)
  /-- TXOP_SUB (R293): Sequencer FP32 subtraction. -/
  | txopSub (d a b : BitVec 2)
  /-- TXOP_MUL (R293): Sequencer FP32 multiplication. -/
  | txopMul (d a b : BitVec 2)
  /-- TXOP_FMA (R293): Sequencer FP32 fused multiply-add. -/
  | txopFma (d a b : BitVec 2)
  /-- TXOP_MAX (R293): Sequencer elementwise maximum. -/
  | txopMax (d a b : BitVec 2)
  /-- TXOP_MIN (R293): Sequencer elementwise minimum. -/
  | txopMin (d a b : BitVec 2)
  /-- TXOP_RELU (R293): Sequencer ReLU. -/
  | txopRelu (d a : BitVec 2)
  /-- TXOP_ABS (R293): Sequencer absolute value. -/
  | txopAbs (d a : BitVec 2)
  /-- TXOP_SPLAT (R293): Sequencer broadcast of a scalar register into a work register. -/
  | txopSplat (d : BitVec 2) (a : BitVec 4)
  /-- TXPERM_REV (R294): Sequencer reversal of a work register. -/
  | txpermRev (d a : BitVec 2)
  /-- TXPERM_ROT (R294): Sequencer rotation of a work register. -/
  | txpermRot (d a : BitVec 2) (b : BitVec 4)
  /-- TXPERM_ZIP (R294): Sequencer interleave of a work register. -/
  | txpermZip (d a : BitVec 2)
  /-- TXPERM_UNZIP (R294): Sequencer de-interleave of a work register. -/
  | txpermUnzip (d a : BitVec 2)
  /-- TXCB_ENLARGE (R298): Codec enlarge from cluster SRAM into the partition. -/
  | txcbEnlarge (a b : BitVec 4) (s : BitVec 12)
  /-- TXCB_REDUCE (R298): Codec reduce from the partition into cluster SRAM. -/
  | txcbReduce (a b : BitVec 4) (s : BitVec 12)
  /-- TXSIG (R289): Sequencer increment of a sequencer-to-context token. -/
  | txsig (n : BitVec 3)
  /-- TXWAIT (R289): Sequencer wait for a context-to-sequencer token. -/
  | txwait (n : BitVec 3)
  /-- TXADDI (R290): Sequencer add of an 18-bit immediate. -/
  | txaddi (d a : BitVec 4) (i : BitVec 18)
  /-- TXLI (R290): Sequencer load of a 22-bit immediate. -/
  | txli (d : BitVec 4) (i : BitVec 22)
  /-- WRSYS_TAG (R157): Write of sys.tagN waiting for admitted accesses and checking the range. -/
  | wrsysTag (n : BitVec 5) (a : Spec)
  /-- WRSYS_BNDCAP (R253): Write of sys.bndcap waiting for strip work and starting the boundary move. -/
  | wrsysBndcap (a : Spec)
  /-- WRSYS_TLBINV (R352): Write of sys.tlbinv stalling C until the range's translations are dropped. -/
  | wrsysTlbinv (a : Spec)
  /-- WRSYS_DBUF (R347): Write of a double-buffer declaration resetting cur. -/
  | wrsysDbuf (n : BitVec 2) (a : Spec)
  /-- WRSYS_BD (R249): Write of a bond register checking its range. -/
  | wrsysBd (n : BitVec 4) (a : Spec)
  /-- WRSYS_EVCNT (R210): Write of an event count opening or closing its window. -/
  | wrsysEvcnt (n : BitVec 3) (a : Spec)
  /-- WRSYS_EVSTAT (R209): Write-one-to-clear of event class crossing bits. -/
  | wrsysEvstat (a : Spec)
  /-- RET (R131): Return to the newest return-stack entry. -/
  | ret
  /-- LEXIT (R122): Early exit of the innermost loop level of the frame. -/
  | lexit
  /-- VOTE (R135): Triple issue and bitwise vote of the next C instruction. -/
  | vote
  /-- FIX (R345): Publication of the store buffer, ending the exposure. -/
  | fix
  /-- YIELD (R138): Watchdog reset and yielding of the next watched acquisition. -/
  | yield
  /-- ERET (R361): Return from the tenant handler at the faulting instruction. -/
  | eret
  /-- ERET_SKIP (R361): Return from the tenant handler after the faulting instruction. -/
  | eretSkip
  /-- NOP (R364): C-stream no operation. -/
  | nop
  /-- TXHALT (R285): End of a sequencer run posting to ret.tx. -/
  | txhalt
  /-- WRSYS_SPBASE (R144): Kernel write of sys.spbase or sys.spsize checking extent and overlap. -/
  | wrsysSpbase (ctx : Nat) (size : BitVec 1) (v : Word)
  /-- WRSYS_ACCSET (R215): Kernel write of sys.accset checking extent and overlap. -/
  | wrsysAccset (ctx : Nat) (v : Word)
  /-- WRSYS_SLOT (R302): Kernel write of a slot register checking its fields. -/
  | wrsysSlot (ctx : Nat) (n : BitVec 6) (v : Word)
  /-- WRSYS_RECALL (R372): Kernel write of sys.recall checking dl against sys.fsbound. -/
  | wrsysRecall (ctx : Nat) (v : Word)
  /-- WRSYS_CTXAREA (R369): Kernel write of sys.ctxarea checking sbw of at least 64. -/
  | wrsysCtxarea (ctx : Nat) (v : Word)
  /-- LINE_FETCH (R41): Fetch of a code line ahead of C, without architectural effect. -/
  | lineFetch (ctx addr : Nat)
  /-- LINE_DELIVERY (R38): Delivery of the next path line's lanes to the streams when room allows. -/
  | lineDelivery (ctx : Nat)
  /-- RESULT_LANDING (R71): A register, predicate, pipe or spill result lands at its latency. -/
  | resultLanding (ctx : Nat)
  /-- REGION_COMPLETE (R151): Completion of a region instruction's writes and event counts. -/
  | regionComplete (ctx k : Nat)
  /-- EVENT_WINDOW_CLOSE (R210): An event window reaches its length and its count resets. -/
  | eventWindowClose (ctx cls : Nat)
  /-- TILE_LOAD_COMPLETE (R213): A tile load completes and the register becomes FULL. -/
  | tileLoadComplete (ctx tl : Nat)
  /-- TILE_READ_END (R213): A reader's last read of a tile ends, releasing or emptying the register. -/
  | tileReadEnd (ctx tl : Nat)
  /-- LD_ENTRY_POST (R341): A load's value arrives in ret.ld. -/
  | ldEntryPost (ctx : Nat)
  /-- ATOMIC_EFFECT (R343): An atomic takes its place in the coherence order and posts its entry. -/
  | atomicEffect (ctx k : Nat)
  /-- FIX_PUBLICATION (R345): Publication cycle of a FIX making its stores visible and starting a new exposure. -/
  | fixPublication (ctx : Nat)
  /-- BAR_RELEASE (R348): Release of all arrivals of a barrier generation. -/
  | barRelease (slice barrier : Nat)
  /-- PAGE_WALK (R351): A page-table walk by a walker of the die. -/
  | pageWalk (ctx va : Nat)
  /-- PAGE_SCRUB (R353): Zeroing of a scrub-pending page before a waiting access proceeds. -/
  | pageScrub (ctx va : Nat)
  /-- MATRIX_DISPATCH (R230): Dispatch of the head matrix-class operation and its binding decision. -/
  | matrixDispatch (ctx : Nat) (cls : UnitClass)
  /-- ARRAY_FREE (R232): The dedicated array frees and is reserved for the best operation on lanes. -/
  | arrayFree (core : Nat) (cls : UnitClass)
  /-- BLOCK_BOUNDARY (R448): A k-block ends and the next starts on the array or lanes. -/
  | blockBoundary (ctx : Nat) (cls : UnitClass)
  /-- MATRIX_COMPLETE (R230): Completion of a matrix-class operation posting status and counting its barrier. -/
  | matrixComplete (ctx : Nat)
  /-- STRIP_STEP (R259): One step of a strip operation: checks, frame read and swap of halves. -/
  | stripStep (ctx : Nat)
  /-- BOUNDARY_MOVE_END (R253): End of a boundary move giving sys.bndcap its new value. -/
  | boundaryMoveEnd (ctx : Nat)
  /-- CORDIC_BATCH (R277): One 128-element batch of a CORDIC operation. -/
  | cordicBatch (ctx : Nat)
  /-- CORDIC_COMPLETE (R278): Completion of a CORDIC operation posting to ret.cr. -/
  | cordicComplete (ctx : Nat)
  /-- QUANTISER_COMPLETE (R177): Completion of a quantiser-class operation. -/
  | quantiserComplete (ctx : Nat)
  /-- XF_RUN_START (R283): Start of a queued sequencer run when the sequencer is free. -/
  | xfRunStart (ctx : Nat)
  /-- COURIER_CHUNK (R317): Movement of one chunk of a courier command in its slot cycles. -/
  | courierChunk (ctx k : Nat)
  /-- COURIER_COMPLETE (R316): A courier command reaches its promised event or fault and posts its record. -/
  | courierComplete (ctx k : Nat)
  /-- CSEND_RECEIVE (R320): A receiving package translates and publishes a CSEND's writes. -/
  | csendReceive (port : Nat)
  /-- CSEND_ACKNOWLEDGEMENT (R316): Arrival of the receiver's acknowledgement completing a CSEND. -/
  | csendAcknowledgement (ctx k : Nat) (c : W32) (code : Nat)
  /-- PROMISE_MISSED (R306): The counter reaches a postmark before the promised event. -/
  | promiseMissed (ctx k : Nat)
  /-- TRAP_ENTRY (R358): Entry of a pending fault to the tenant handler or the kernel. -/
  | trapEntry (ctx : Nat)
  /-- KERNEL_REPLY (R362): The kernel answers a trap.k and C resumes with the reply. -/
  | kernelReply (ctx : Nat) (reply : Word)
  /-- WATCHDOG (R140): Watchdog count reaches its limit while a peer waits. -/
  | watchdog (ctx : Nat)
  /-- SLICE_END_NOTICE (R365): The kernel posts a slice-end notice raising 0x1C. -/
  | sliceEndNotice (ctx : Nat)
  /-- SAVE_BUDGET_EXPIRY (R365): The save budget expires without a finished light save. -/
  | saveBudgetExpiry (ctx : Nat)
  /-- LIGHT_SAVE (R366): Light save once the context's engine work has drained. -/
  | lightSave (ctx : Nat)
  /-- RESTORE (R368): Restore of a saved context onto a core. -/
  | restore (ctx place spbase accbase : Nat)
  /-- RECALL (R372): Recall of a lent slice starting forced saves. -/
  | recallSlice (slice : Nat)
  /-- RECALL_DEADLINE (R372): Recall deadline expiry abandoning unsaved contexts. -/
  | recallDeadline (slice : Nat)
  /-- CONTEXT_LAUNCH (R24): The sorting office places contexts of a launched kernel. -/
  | contextLaunch (cluster : Nat) (q : LaunchRequest)
  /-- LAUNCH_NOTIFY (R373): A launch notify arrives for a queue. -/
  | launchNotify (cluster queue : Nat) (rank : BitVec 3) (preempt : Bool)
  /-- SLOT_RELEASE (R373): A sorting-office slot is released and held notifies are served. -/
  | slotRelease (cluster slot : Nat)
  /-- CHECKER_CHECK (R377): Checker re-execution and comparison four cycles after issue. -/
  | checkerCheck (ctx : Nat) (agree : Bool) (pc : Nat)
  /-- PATROL_SCRUB (R387): Periodic read and correction of a memory block. -/
  | patrolScrub (block : Nat)
  /-- KERNEL_RESTART (R393): Monitor restart of the resident kernel after its error. -/
  | kernelRestart (ok : Bool)
  /-- PAIRED_COMPARE (R391): Comparison of paired-kernel signatures and printing or rerun. -/
  | pairedCompare (a b : Nat)
  /-- CONTEXT_DROWSY (R376): A context idle for 4096 cycles enters retention. -/
  | contextDrowsy (ctx : Nat)
  /-- STATE_WAKE (R376): A drowsy or gated context leaves retention. -/
  | stateWake (ctx : Nat)
  /-- DEBUGGER_READ (R375): Debugger read of a context register, waking it if needed. -/
  | debuggerRead (ctx : Nat) (st : Strm) (item : DbgItem)
  /-- SLICE_DRAINED (R415): A draining slice or package becomes drained. -/
  | sliceDrained (slice : Nat)
  /-- CONTACT_SHEET_SAMPLE (R413): Millisecond sample written to the spare buffer and generation increment. -/
  | contactSheetSample
  /-- POWER_LIMIT (R417): Package power exceeds the cap and L, X, S issue is held. -/
  | powerLimit (milliwatts : Nat)
  /-- THERMAL_DRAIN (R417): Junction at 105 °C drains the package and raises vector 7. -/
  | thermalDrain (celsius : Nat)
  /-- THERMAL_POWER_OFF (R417): Junction at 115 °C removes power without a save. -/
  | thermalPowerOff (celsius : Nat)
  /-- POWER_ON_RESET (R405): Boot ROM verifies firmware and images and starts the kernel. -/
  | powerOnReset (cold strap selfTest training : Bool)
  /-- KERNEL_HEARTBEAT (R405): The kernel's first heartbeat makes the start succeed. -/
  | kernelHeartbeat
  /-- HEARTBEAT_TIMEOUT (R405): No first heartbeat within 2 s fails the start. -/
  | heartbeatTimeout
  /-- UPDATE_COMMIT (R410): New kernel heartbeat within 100 ms commits a live update. -/
  | updateCommit
  /-- UPDATE_ROLLBACK (R410): Live update fails or times out and the old kernel restarts. -/
  | updateRollback
  /-- IMAGE_STAGE_DONE (R401): Staging of a kernel image ends and vector 5 signals it. -/
  | imageStageDone
  /-- LANE_FAILURE (R404): One lane of a fabric link fails; it runs at half rate. -/
  | laneFailure (port : Nat)
  /-- PORT_DOWN (R404): Both lanes fail; commands on the port complete with 0x13. -/
  | portDown (port : Nat)
  /-- FLIT_ARRIVAL (R402): A fabric flit arrives, is CRC-checked and replayed on failure. -/
  | flitArrival (port cls : Nat) (crcOk : Bool) (f : Flit)
  /-- HOST_MEMORY_READ (R396): Host read through the device memory window. -/
  | hostMemoryRead (addr : HostAddr) (len : Nat)
  /-- HOST_MEMORY_WRITE (R396): Host posted write through the device memory window. -/
  | hostMemoryWrite (addr : HostAddr) (bytes : List Byte)
  /-- ROOT_PORT_DMA (R398): Translated DMA from a device behind a root port. -/
  | rootPortDma (port addr : Nat) (write : Bool) (bytes : List Byte)
  /-- CONTEXT_WINDOW_READ (R397): Read through the context control window acting as kernel RDSYS. -/
  | contextWindowRead (p : Party) (page off : Nat)
  /-- CONTEXT_WINDOW_WRITE (R397): Write through the context control window acting as kernel WRSYS. -/
  | contextWindowWrite (p : Party) (page off : Nat) (v : Word)
  /-- INTERRUPT_CAUSE_CLEAR (R400): Write-one-to-clear of interrupt cause bits. -/
  | interruptCauseClear (mask : BitVec 8)
  /-- READ_GENERATION (R401): Mailbox 0x01 returning a contact-sheet generation. -/
  | readGeneration (q : Mbx)
  /-- DRAIN_SLICE (R415): Mailbox 0x10 moving a slice to draining. -/
  | drainSlice (q : Mbx) (slice : Nat)
  /-- DRAIN_PACKAGE (R415): Mailbox 0x11 draining every slice. -/
  | drainPackage (q : Mbx)
  /-- REOPEN_SLICE (R415): Mailbox 0x12 reopening a slice. -/
  | reopenSlice (q : Mbx) (slice : Nat)
  /-- REOPEN_PACKAGE (R415): Mailbox 0x13 reopening the package. -/
  | reopenPackage (q : Mbx)
  /-- HALT_CONTEXT (R374): Mailbox 0x20 debugger halt of a context. -/
  | haltContext (q : Mbx) (ctx : Nat)
  /-- RESUME_CONTEXT (R374): Mailbox 0x21 restarting all four streams of a halted context. -/
  | resumeContext (q : Mbx) (ctx : Nat)
  /-- GRANT_WINDOW (R397): Mailbox 0x22 granting or withdrawing host access to the context control window. -/
  | grantWindow (q : Mbx) (grant : Bool)
  /-- STAGE_IMAGE (R401): Mailbox 0x30 staging a kernel image into the inactive slot. -/
  | stageImage (q : Mbx) (image : Image)
  /-- LIVE_UPDATE (R410): Mailbox 0x31 starting a live update from the staged slot. -/
  | liveUpdate (q : Mbx)
  /-- SET_POWER_CAP (R417): Mailbox 0x32 setting the module power cap. -/
  | setPowerCap (q : Mbx) (milliwatts : Nat)
  /-- RESET_PACKAGE (R401): Mailbox 0x3F resetting the package. -/
  | resetPackage (q : Mbx)
  /-- ARM_INJECTOR (R430): Mailbox 0x40 arming the fabric test injector of a port. -/
  | armInjector (q : Mbx) (port n b : Nat)
  /-- GET_VERSION (R408): SPDM GET_VERSION request. -/
  | getVersion
  /-- GET_CAPABILITIES (R408): SPDM GET_CAPABILITIES request. -/
  | getCapabilities
  /-- NEGOTIATE_ALGORITHMS (R408): SPDM NEGOTIATE_ALGORITHMS request. -/
  | negotiateAlgorithms (offered : Bool)
  /-- GET_DIGESTS (R408): SPDM GET_DIGESTS request. -/
  | getDigests
  /-- GET_CERTIFICATE (R408): SPDM GET_CERTIFICATE request for slot 0. -/
  | getCertificate (slot : Nat)
  /-- CHALLENGE (R408): SPDM CHALLENGE request. -/
  | challenge (q : SpdmArgs)
  /-- GET_MEASUREMENTS (R409): SPDM GET_MEASUREMENTS request over the six blocks. -/
  | getMeasurements (q : SpdmArgs)
  /-- ILLEGAL_INSTRUCTION (R66): Issue of a word in any stream or the sequencer that decodes to no instruction (all-zero, reserved major or func, reserved specifier), raising 0x02 with no other effect. -/
  | illegalInstruction (word : W32)
  /-- SOFT_ERROR (R385): A soft error upsets a bit in a memory, queue or datapath, to be corrected or marked poisoned. -/
  | softError (loc : Loc) (corrected : Bool)
  /-- CORE_SELF_TEST_PASSED (R388): A core withheld after three rollbacks passes its self-test and may again receive contexts. -/
  | coreSelfTestPassed (core : Nat)
  /-- ALLOTTED_SHARE_ZEROED (R26): Zeroing of an allotted share passing to another tenant ends, and stalled accesses proceed and see zeros. -/
  | allottedShareZeroed (ctx : Nat)
  /-- KERNEL_ENDS_CONTEXT (R159): The resident kernel ends a context that is not at a fault or exit, under R27. -/
  | kernelEndsContext (ctx : Nat)
  /-- APPLICATION_CORE_ACCESS (R399): An application core reads or writes device memory as a system-scope party. -/
  | applicationCoreAccess (addr : Nat) (write : Bool) (bytes : List Byte)
  deriving DecidableEq, Repr, Inhabited

end Sys2Proof
end

