-- ==== Sys2Proof/Config.lean ====
section
/-! DEFINITION. What the implementation fixes, and the free values: constants without a body, of which no proof can see a
value. -/

namespace Sys2Proof

/-- A choice the spec leaves open, one for each number drawn (the number is State.free, or is formed from operands where the
choice belongs to them) [2][7][8]. -/
opaque Config.freeNat : Nat → Nat

/-- The step that happens next when the agenda is empty and nothing falls due [2]. -/
opaque Config.freeInstr : Nat → Instr

/-- The index that VQUANT and CQFETCH write for an element when every entry of the codebook is a NaN or an infinity, so that none
is nearest (05 R176, 06 R188), by the number of the element [24]. -/
opaque Config.freeIndex : Nat → Nat

/-- Which of the internal quotients within the bound of 09 R276 CRD LIN gives for 39 and 40 iterations, by the quotient's numerator and
denominator: R274 subtracts 2^(37-s) from an integer, which for a shift s above 37 is none [25]. -/
opaque Config.linPick : Nat → Int → Nat → Nat

/-- Where a device puts the fields of a part of the context area for which 12 R370 gives no offsets: by the part's offset, a choice for each
place in turn [17]. -/
opaque Config.areaPick : Nat → Nat → Nat

/-- A result the spec leaves open (12 R370's unspecified bytes) [17]. -/
opaque Config.freeByte : Nat → Byte

/-- The SHA-384 digest of a byte string (14 R405, R409): a published function the spec does not define [15]. -/
opaque Config.sha384 : List Byte → BitVec 384

/-- Whether an image's ECDSA signature on the 384-bit Brainpool curve verifies against the fused key digest (14 R405) [15]. -/
opaque Config.sigOk : Image → Bool

/-- The device's SPDM signature over a nonce and a measurement summary (14 R408) [15]. -/
opaque Config.spdmSign : Nat → BitVec 384 → List Byte

/-- The certificate chain of slot 0, fused at manufacture (14 R408) [15]. -/
opaque Config.certChain : List Byte

/-- The digests of the boot ROM and of the monitor, management-controller and fabric firmware (14 R409, blocks 1 to 4) [15]. -/
opaque Config.firmware : Nat → BitVec 384

/-- The reply of the running resident kernel to a service it defines, and whether it defines it (12 R362) [14]. -/
opaque Config.kernelDefines : Nat → Bool

/-- The running checksum of a CQFETCH after the last half-word of its CB4 bytes, where their number leaves one over: R313's words are
32 bits (10 R313, R315) [26]. -/
opaque Config.ckTail : BitVec 32 → Nat → BitVec 32

/-- Whether the fabric firmware's route from a port reaches a package (10 R320). -/
opaque Config.route : Nat → Nat → Bool

/-- The port by which the fabric firmware's route takes what arrives at a port for another package on; none where there is none (10
R320). -/
opaque Config.nextHop : Nat → Nat → Option Nat

/-- The page-table root of a job on a package where no context of it is resident, which the resident kernel holds (10 R320). -/
opaque Config.jobRoot : Nat → BitVec 64

/-- The package and port at the other end of a port's cable (14 R412): how packages are cabled is not in the spec [18]. -/
opaque Config.neighbour : Nat → Nat → Nat × Nat

/-- Byte `j` of a record of the contact sheet whose fields R412 names without giving their places: by the record's kind and fields [18]. -/
opaque Config.sheetByte : Nat → List Nat → Nat → Byte

/-- Whether the firmware with a measurement index (2 monitor, 3 management controller, 4 fabric) has a valid signature, and its version
(14 R405, R409) [15]. -/
opaque Config.firmwareOk : Nat → Bool

/-- The version of that firmware. -/
opaque Config.firmwareVersion : Nat → Nat

/-- Whether a party may ask for a mailbox command (14 R401, status 3): the management controller's policy [15]. -/
opaque Config.mayAsk : Party → Nat → Bool

/-- The kernel image that the arguments of mailbox command 0x30 name (14 R401) [15]. -/
opaque Config.imageAt : List (BitVec 64) → Image

/-- Word 0 of the handover structure that a kernel image writes, and whether an image knows a version (14 R410) [15]. -/
opaque Config.handover : Image → Nat

/-- Whether a kernel image knows a version of the handover structure. -/
opaque Config.knows : Image → Nat → Bool

/-- Cycles from a live update's command to the start of the new kernel (14 R410), by the cycle of the command: its time is open [2]. -/
opaque Config.updateDelay : Nat → Nat

/-- The HBM4E stack that holds a word of device memory, 0 to 7 (14 R412): the interleaving is not in the spec [18]. -/
opaque Config.hbmStack : Nat → Nat

/-- Bytes that a path resource moves in a cycle (10 R303), by path (R302) and by port or cluster: the spec gives no figure [57]. -/
opaque Config.pathCapacity : Nat → Nat → Nat

/-- The size of device memory (01 R18, R28): 512 GiB. -/
def Config.deviceBytes : Nat := 2 ^ 39

/-- Cycles of the package counter in one second (00 R6). -/
def Config.second : Nat := 1000000000

/-- The postmark latency of a path (10 R304). -/
def Config.pathLat (path : Nat) : Nat :=
  match path with
  | 1 => 12
  | 2 => 40
  | 3 => 160
  | 4 => 400
  | 5 => 60
  | _ => 0

end Sys2Proof
end

