-- ==== Sys2Proof/Machine/State.lean ====
section
/-! DEFINITION. The state of one OLN-7 package as plain data: everything the spec names (INVENTORY.md, State), and the
model's own fields (agenda, sel, free, pubs, rels, decided; of a context past, rollAt, bkptHalt, of its parts saw, shown, early, owed). -/

namespace Sys2Proof.Machine

/-- A memory: (address, byte) pairs, addresses strictly rising, no entry equal to what an unlisted address reads as [5]. -/
abbrev Memory := List Host.Cell

/-- Sparse data by number, in the same canonical form. -/
abbrev Sparse (α : Type) := List (Nat × α)

/-- The code that runs between a call and its return, or in a trap handler (04 R109): call depth, and whether a handler. -/
structure Frame where
  depth : Nat
  hnd   : Bool
  deriving DecidableEq, Repr, Inhabited

/-- A stream's own view of an active loop level (04 R110, R113, R118). -/
structure Lvl where
  piped  : Bool
  stages : Nat
  count  : Nat
  first  : Nat
  last   : Nat
  frame  : Frame
  exit   : Bool
  map    : Option (List (List Byte))
  idx    : Nat
  base   : BitVec 4
  ord    : Nat
  deriving DecidableEq, Repr, Inhabited

/-- What a stream meets on its path between lanes: a declaration, a back edge with the total it carries (04 R123), the end of
a level, a change of frame (04 R119). -/
inductive Mark where
  | decl (lv : Nat) (r : Lvl)
  | back (lv : Nat) (count : Nat)
  | leave (lv : Nat)
  | frame (f : Frame)
  deriving DecidableEq, Repr, Inhabited

/-- A delivered lane (02 R36): its address, its word, its continuation, whether a later lane of its line routes to the same
stream, its gate in a pipelined body (04 R120), and whether an uncorrectable error has marked it (13 R385). -/
structure Lane where
  addr  : Nat
  word  : W32
  cont  : Option W32
  later : Bool
  gate  : Option (BitVec 8)
  bad   : Bool
  deriving DecidableEq, Repr, Inhabited

/-- An item of a stream's instruction queue. -/
inductive QItem where
  | lane (l : Lane)
  | mark (m : Mark)
  deriving DecidableEq, Repr, Inhabited

/-- A REP in progress (03 R85-R89): repetitions, steps, the next repetition's index, and whether the path left the loop body's
last line between the REP and its target (R87); lvls: the levels in whose bodies the REP stands. -/
structure RepState where
  count : Nat
  ds    : Nat
  as    : Nat
  bs    : Nat
  k     : Nat
  brk   : Bool
  lvls  : List Nat
  deriving DecidableEq, Repr, Inhabited

/-- An instruction that its stream has issued and the checker has yet to match (13 R377): its address and words, the cycle of its issue,
and whether the checker's copy will differ. -/
structure Issued where
  pc    : Nat
  word  : W32
  cont  : Option W32
  cycle : Nat
  bad   : Bool
  deriving DecidableEq, Repr, Inhabited

/-- The files and the position of one stream (03 R68). g is in physical order: names g16 to g31 go through rot (04 R118).
vote is the lane of a VOTE whose target has not issued (04 R135); wait: the cycle that a WAITC at the head of the queue waits for, once
it has read its operand (10 R307); recent: what it has issued in the last four cycles. -/
structure StreamState where
  q     : Vector Word 16
  o     : Vector Word 8
  g     : Vector Word 32
  p     : Vector Bool 8
  rot   : BitVec 4
  queue : List QItem
  rep   : Option RepState
  vote  : Option Lane
  wait  : Option Nat
  ready : Nat
  views : Vector (Option Lvl) 3
  frame : Frame
  lastIssue : Nat
  recent : List Issued
  deriving DecidableEq, Repr

/-- Where a result in flight lands (03 R76): register names are already physical. The later constructors are the writes that
the spec lets take effect one cycle after issue. -/
inductive Target where
  | qOnly
  | o (n : Nat)
  | g (phys : Nat)
  | pred (n : Nat)
  | pipe (p : Pipe)
  | spill (n : Nat)
  | sys (n : Nat)
  | rsbot
  | cbar (q : Nat)
  | ftlink
  | mask (pair : Nat) (col : Bool) (v : BitVec 128)
  | bond (n : Nat)
  | book (k : Nat) (loaded : Bool) (v : List (BitVec 16))
  | token (n : Nat)
  deriving DecidableEq, Repr, Inhabited

/-- A result in flight (03 R71, 12 R368): the cycle it lands, its issue order, its target and value, whether it enters q, and
the pushes of dependence tokens that become visible when it lands (02 R46). -/
structure Flight where
  strm : Strm
  land : Nat
  ord  : Nat
  tgt  : Target
  val  : Word
  q    : Bool
  push : List Ctr
  deriving DecidableEq, Repr, Inhabited

/-- A dependence-token counter: visible tokens and reserved pushes (02 R43, R45). -/
structure TokCtr where
  vis : Nat
  res : Nat
  deriving DecidableEq, Repr, Inhabited

/-- A word of the store buffer (11 R323): virtual and physical address of the aligned 8-byte word, nibble mask, data. -/
structure StoreWord where
  va   : Nat
  pa   : Nat
  mask : BitVec 16
  data : Word
  deriving DecidableEq, Repr, Inhabited

/-- An entry of a result FIFO: its word, the places whose uncorrectable errors mark it (11 R341, 13 R385), and the writes that popping it
acquires (11 R337). -/
structure Entry where
  val    : Word
  bad    : List Loc
  acq    : List StoreWord
  deriving DecidableEq, Repr, Inhabited

/-- A result FIFO: entries present, oldest first, and reserved places (03 R79). -/
structure Fifo where
  entries : List Entry
  res     : Nat
  deriving DecidableEq, Repr, Inhabited

/-- The phase of a completion barrier (07 R238). -/
inductive CbPhase where
  | idle | armed | complete | error
  deriving DecidableEq, Repr, Inhabited

/-- A completion barrier (07 R236, R237): members named so far, completions, and the first failing member's record. -/
structure CBar where
  phase   : CbPhase
  count   : Nat
  members : Nat
  done    : Nat
  failed  : Bool
  fault   : Nat
  index   : Nat
  ftag    : Nat
  acq     : List StoreWord
  deriving DecidableEq, Repr, Inhabited

/-- A codebook (06 R188). -/
structure Book where
  loaded : Bool
  v      : List (BitVec 16)
  deriving DecidableEq, Repr, Inhabited

/-- A tile tag, sys.tagN (05 R156), with the accesses admitted and not yet complete (R158). -/
structure Tag where
  base : Nat
  size : Nat
  wcnt : Nat
  rcnt : Nat
  en   : Bool
  full : Bool
  wadm : Nat
  radm : Nat
  wdone : Nat
  rdone : Nat
  deriving DecidableEq, Repr, Inhabited

/-- The system registers of a context that are stored as such (12 R363); the others are read from the fields they describe. evtrap: the
cycle of the last threshold trap raised (06 R211). -/
structure SysRegs where
  fpctl      : Word
  decay      : Word
  ftlink     : Word
  bndcap     : Word
  bndshape   : Word
  wdlimit    : Word
  ft         : Vector Word 16
  bd         : Vector Word 16
  evcnt      : Vector W32 8
  evopen     : Vector (Option Nat) 8
  evtrap     : Option Nat
  evthr      : Vector Word 8
  evwin      : Vector Word 8
  evctl      : Word
  evstat     : Word
  dbuf       : Vector Word 4
  tvec       : Word
  tcause     : Word
  tpc        : Word
  tinfo0     : Word
  tinfo1     : Word
  savebudget : Word
  recallWord : Word
  ctxarea    : Word
  spbase     : Word
  spsize     : Word
  accset     : Word
  tagown     : Word
  ptroot     : Word
  tlbinv     : Word
  dbgctl     : Word
  tags       : Vector Tag 32
  slots      : Vector Word 64
  deriving DecidableEq, Repr

/-- A fault raised and not yet taken (12 R356, R359), with the cycle in which it was raised. skip: the instruction that raised
it has taken its effect (TRAP, R362; the pop of a marked entry, 11 R341), or there is none (the entry of a line), so that ERET's skip
is disregarded. rep: the repetition that raised it, where it is a REP target (03 R89). locs: the marked places that were consumed
(13 R386). ord: of a missed promise the issue order of its command (10 R306). -/
structure PendFault where
  strm : Strm
  code : Nat
  sync : Bool
  skip : Bool
  pc   : Nat
  info : Word
  tag  : Nat
  slot : Nat
  lvl  : Nat
  wk   : Bool
  k    : Nat
  at_  : Nat
  rep  : Option Nat
  locs : List Loc
  ord  : Nat
  deriving DecidableEq, Repr, Inhabited

/-- What trap entry saves (12 R358 step 3), the depth at entry that ERET compares (R361), and the issue order that
parts the pushes reserved before entry from the handler's own, the marks of what is saved, and each stream's views of the loop levels, which a
handler may declare anew while a stream lags in them (04 R125). -/
structure TrapFrame where
  q      : Vector (Vector Word 16) 4
  p      : Vector (Vector Bool 8) 4
  queues : Vector (List QItem) 4
  reps   : Vector (Option RepState) 4
  votes  : Vector (Option Lane) 4
  waits  : Vector (Option Nat) 4
  frames : Vector Frame 4
  views  : Vector (Vector (Option Lvl) 3) 4
  pipes  : Vector (List Word) 6
  ctrs   : Vector TokCtr 4
  line   : Nat
  next   : Option Nat
  depth  : Nat
  strm   : Strm
  sync   : Bool
  byInstr : Bool
  ord    : Nat
  bad    : List RegPlace
  deriving DecidableEq, Repr

/-- Why C issues nothing further: a FIX, SWAP or BAR not yet published, a barrier wait, a boundary move, a kernel service, a
cooperative save, an ERET whose wait is not over (11 R345-R348, 08 R253, 12 R361, R362, R365). -/
inductive Hold where
  | none
  | fix
  | swap (mask : Nat)
  | barFix (b n : Nat)
  | bar (b : Nat)
  | move (till : Nat) (v : Word)
  | kernel (n : Nat) (arg : Word) (tgt : Target)
  | eret (skip : Bool)
  | saving
  deriving DecidableEq, Repr, Inhabited

/-- The light state of a context (12 R366): what a light save, and the shadow of an exposure (13 R380), keep. lbuf: the captured lines of
the loop buffer, each with its address and the declaration of the outermost body that it was captured for (04 R116). bad: the places of
the files, pipes, spill slots and loop buffer whose data is marked (13 R385). owed: by hardware token, the tokens that a rollback has left
taken and a SIGK done again pays back (13 R394). -/
structure Light where
  c      : StreamState
  l      : StreamState
  x      : StreamState
  s      : StreamState
  flights : List Flight
  ord    : Nat
  line   : Nat
  next   : Option Nat
  lbuf   : List (Nat × Nat × List W32)
  rstack : List Nat
  depth  : Nat
  spill  : Sparse Word
  pipes  : Vector (List Word) 6
  ctrs   : Vector TokCtr 4
  fifos  : Vector Fifo 6
  cbars  : Vector CBar 8
  rowmask : Vector (BitVec 128) 4
  colmask : Vector (BitVec 128) 4
  books  : Vector Book 4
  tk     : Vector Nat 8
  owed   : Vector Nat 8
  stores : List StoreWord
  sys    : SysRegs
  faults : List PendFault
  frame  : Option TrapFrame
  hold   : Hold
  chain  : Vector (Option (W32 × Nat)) 64
  bad    : List RegPlace
  deriving DecidableEq, Repr

/-- The state of a tile register (07 R213). -/
inductive TileSt where
  | empty | loading | full | draining
  deriving DecidableEq, Repr, Inhabited

/-- A tile register: 16384 bytes, state, pending readers (07 R212, R213). -/
structure Tile where
  st      : TileSt
  readers : Nat
  data    : Memory
  deriving DecidableEq, Repr, Inhabited

/-- Events counted by class (06 R207). -/
abbrev Events := Vector Nat 8

/-- Where an access under way stands that has read the scratchpad (05 R154): the core's bytes as they were when it read them, how many of
the completed writes that its context notes came before, and the cycle [7]. -/
structure Saw where
  mem   : Memory
  past  : Nat
  cycle : Nat
  deriving DecidableEq, Repr, Inhabited

/-- A region access issued and not yet complete (05 R151-R158): its stream, element size, the masked byte writes in
partition offsets, the cycle of its completion where the spec fixes one (STS), the tags that admitted it as writer, reader or
update, its events, the tile registers it reads or loads, the
accumulator units it names, the accumulator words it writes, the codebook it loads, the token pushes it has reserved, and the marked
places that a load of a tile register has consumed; for an access that reads a region, the light state that its word issued from and what
it has read (R154). -/
structure Pend where
  strm   : Strm
  ord    : Nat
  esz    : Nat
  writes : List (Nat × Byte × Byte)
  due    : Option Nat
  wtags  : List Nat
  rtags  : List Nat
  utags  : List Nat
  events : Events
  load   : Option (Nat × Memory)
  reads  : List (Nat × Bool)
  units  : List Nat
  accw   : List (Nat × W32)
  sram   : List (Nat × Nat × Byte)
  bnd    : Option (Option (List (W32 × W32)) × Word)
  book   : Option (Nat × Bool × List (BitVec 16))
  boundary : Bool
  quant  : Bool
  push   : List Ctr
  bad    : List Loc
  pc     : Nat
  again  : Option Light
  saw    : Option Saw
  deriving DecidableEq, Repr, Inhabited

/-- The kinds of a matrix-class operation (07 R230). -/
inductive MatKind where
  | mma | mmat | mmac | tcon | cplan
  deriving DecidableEq, Repr, Inhabited

/-- Binding and progress of a bound operation (07 R230-R235, R448): whether it has dispatched, waits for the array it has
reserved, runs a block, on lanes; whether its next blocks can be run (a step of a strip is loaded), whether it has ended; the
start of the block under way and the end of the last one; the fields of the status word; and whether a rollback has cancelled the
operation, which then stops with its block (13 R383). -/
structure Bind where
  dispatched : Bool
  waiting : Bool
  running : Bool
  onLanes : Bool
  loaded  : Bool
  isOver  : Bool
  placed  : Bool
  since   : Nat
  ended   : Nat
  blk     : Nat
  nblk    : Nat
  first   : Nat
  last    : Nat
  changes : Nat
  kded    : Nat
  klan    : Nat
  cancelled : Bool
  deriving DecidableEq, Repr, Inhabited

/-- A matrix-class operation, queued or running (07 R225-R231, 08 R261-R265), with what it captured at issue; for a strip, the
step under way (saw: the scratchpad at issue, for a plan's mode vectors): its frame's values, its mode vector, the old boundary's shape and
the new elements folded so far; the number of its blocks whose operands an APEEK has read, and the rows of cluster SRAM read then, by block
and row (07 R240). -/
structure MatOp where
  kind   : MatKind
  ord    : Nat
  issued : Nat
  tag    : Nat
  cb     : Nat
  afmt   : Nat
  bfmt   : Nat
  abook  : Book
  bbook  : Book
  acc    : Nat
  cm     : Bool
  mode   : Nat
  ta     : Nat
  tb     : Nat
  rowm   : BitVec 128
  colm   : BitVec 128
  gamma  : W32
  g0     : Word
  g1     : Word
  t      : Nat
  reads  : List (Nat × Bool)
  -- strip operations
  word   : Word
  form   : W32
  vec    : List Nat
  bonds  : List Nat
  books  : List Book
  dcur   : Nat
  seen   : List StoreWord
  saw    : Option Saw
  step   : Nat
  last   : Nat
  frame  : List Nat
  rows   : Nat
  trail  : Nat
  -- progress
  work   : List (W32 × W32)
  evs    : List (BitVec 8)
  counted : Events
  flags  : BitVec 4
  fault  : Nat
  findex : Nat
  shown  : Nat
  early  : List (Nat × Nat × List Byte)
  bind   : Bind
  deriving DecidableEq, Repr, Inhabited

/-- A quantiser-class operation (05 R176-R178); its results are those of its pending region access `ord`. Its descriptors and codebook;
post: VQUANT, which posts a status word; waits: its access is not admitted by its tile tags yet (R159). -/
structure QuantOp where
  issued : Nat
  ord    : Nat
  src    : Word
  dst    : Word
  book   : Book
  waits  : Bool
  post   : Bool
  tag    : Nat
  flags  : BitVec 4
  fault  : Nat
  bind   : Bind
  deriving DecidableEq, Repr, Inhabited

/-- A batch that a CORDIC operation has read and is writing (09 R277): its masked writes in partition offsets, its events, the events
of all its elements together, and whether it has consumed poisoned data. -/
structure Batch where
  writes : List (Nat × Byte × Byte)
  counted : Events
  all    : BitVec 8
  bad    : Bool
  saw    : Saw
  deriving DecidableEq, Repr, Inhabited

/-- A CORDIC operation (09 R270-R279): descriptors captured, iteration count, batches done, the tile tags it is admitted under as
writer, reader or update, and the batch under way once it is read. -/
structure CrdOp where
  issued : Nat
  ord    : Nat
  func   : Nat
  d0     : Word
  d1     : Word
  s0     : Word
  s1     : Word
  s2     : Word
  iters  : Nat
  tag    : Nat
  fpctl  : Word
  flags  : BitVec 4
  range  : Bool
  counted : Events
  fault  : Nat
  admitted : Bool
  wtags  : List Nat
  rtags  : List Nat
  utags  : List Nat
  ahead  : Option Batch
  bind   : Bind
  deriving DecidableEq, Repr, Inhabited

/-- A queued sequencer run (09 R284), with the cycle in which it arrived, and whether an uncorrectable error has marked it (13 R385). -/
structure XfReq where
  cycle : Nat
  start : Nat
  tag   : Nat
  sa0   : W32
  ord   : Nat
  bad   : Bool
  deriving DecidableEq, Repr, Inhabited

/-- A loop level of the transform sequencer (09 R291). -/
structure SeqLoop where
  first : Nat
  last  : Nat
  left  : Nat
  deriving DecidableEq, Repr, Inhabited

/-- A run in progress (09 R282-R286), with the cycle in which it began to wait for the sequencer (01 R30), and whether its context has
ended by the watchdog, so that it gives way to every context that waits (04 R139); till: the last cycle of the codec's occupancy by the
word under way (09 R298), 0 where none is; out: what it has written to cluster SRAM, by address in the slice, and publishes at its end (11
R337). -/
structure SeqRun where
  ctx   : Nat
  tag   : Nat
  ord   : Nat
  pc    : Nat
  sa    : Vector W32 16
  w     : Vector (List W32) 4
  loops : List SeqLoop
  since : Nat
  gives : Bool
  till  : Nat
  out   : Sparse Byte
  deriving DecidableEq, Repr

/-- The kinds of a courier command (10 R299). -/
inductive CmdKind where
  | fetch | qfetch | store | send
  deriving DecidableEq, Repr, Inhabited

/-- The chunk under way of a courier command, begun (10 R317): what a fetch has read, as masked writes of the near side in partition
offsets; where it stands that reads the near side of a store or send (05 R154); and the command's running value, outputs and events after it. -/
structure Chunk where
  writes : List (Nat × Byte × Byte)
  saw    : Saw
  sum    : W32
  out    : List (Nat × Nat × Nat × List Byte)
  counted : Events
  deriving DecidableEq, Repr, Inhabited

/-- A courier command (10 R308-R318): what it captured, its schedule (R305: the cycle from which it moves and the near-side bytes
and the wire bytes of the chunk under way done by then, the last moving cycle, postmark), and its progress: whether it moves, near-side
bytes done, whether all have moved, the running checksum, writes not yet published (space, address, physical address, bytes); admitted: it has started to move data; doomed: the
code with which it ends instead of starting; src: the number under which a CSEND's flits have left; tagged: it has been admitted by tile
tags, at the first chunk that touches one's range; ahead: the chunk under way. -/
structure Cmd where
  kind   : CmdKind
  strm   : Strm
  ord    : Nat
  slot   : Nat
  tag    : Nat
  seed   : Nat
  c0     : W32
  expect : W32
  cmp    : Bool
  issued : Nat
  codec  : Bool
  size   : Nat
  dsize  : Nat
  bf16   : Bool
  book   : Book
  nt     : Bool
  space  : Nat
  far    : Nat
  near   : Nat
  len    : Nat
  pkg    : Nat
  dcur   : Nat
  seen   : List StoreWord
  first  : Nat
  final  : Nat
  postmark : Nat
  resched : Bool
  begun  : Bool
  mark   : Nat
  part   : Nat
  moved  : Nat
  sum    : W32
  through : Bool
  paused : Bool
  raised : Bool
  late   : Bool
  fault  : Nat
  doomed : Nat
  event  : Bool
  src    : Nat
  out    : List (Nat × Nat × Nat × List Byte)
  counted : Events
  admitted : Bool
  tagged : Bool
  wtags  : List Nat
  rtags  : List Nat
  ahead  : Option Chunk
  deriving DecidableEq, Repr, Inhabited

/-- A load whose entry has not arrived: its word and mark (11 R341), and its issue order. -/
structure PendLoad where
  val    : Word
  bad    : List Loc
  ord    : Nat
  deriving DecidableEq, Repr, Inhabited

/-- An atomic that has issued (11 R343): operation, order, scope, operands, physical address, its result once it has taken
effect, the FENCEs issued before it (R332), the cycle and the issue order up to which it releases what the context did where only a
FENCE makes it a release, and its issue order; Ctx.fences counts them, Ctx.afence is that count after the last one with acquire,
Ctx.rfence the cycle and the issue order of the last one with release. -/
structure PendAtom where
  op    : Nat
  order : Nat
  scope : Nat
  pa    : Nat
  b     : Word
  new   : Word
  done  : Option Entry
  fence : Nat
  rel   : Option (Nat × Nat)
  ord   : Nat
  deriving DecidableEq, Repr, Inhabited

/-- Where a context is (12 R360, R365-R374): saving: a forced save is under way. -/
inductive Residence where
  | resident | saving | savedLight | savedForced | ended | lost
  deriving DecidableEq, Repr, Inhabited

/-- A word of an exposure's snapshot (11 R325). -/
structure Snap where
  pa  : Nat
  val : Word
  deriving DecidableEq, Repr, Inhabited

/-- A context (01, R20-R25; place: where it stands, or stood last; free, lastMove: a slot's next free cycle and the cycle after its last move; arrived: the writes of
completed courier stores, by postmark, that a WAITC of a stream has yet to acquire; frags, acqs: what C has acquired, and what other
streams have by WAITC; seen, heard: up to which cycle each other context's publications are ordered before its later accesses, and would
be after a FENCE with acquire (11 R331, R332); rankNext: a rank that the kernel has written and that stands from the next cycle on (01
R22); ahead: the lines fetched, each with the marked words it was read from (13 R385); past: the scratchpad writes completed while an access
is under way [7]; rollAt: the last rollback of the exposure (13 R386); shTiles, shFrags, shAcqs, shArrived, shRank, shWd, shadowAt: what the shadow of 13 R380 holds
beside the light state, and its cycle; preBad: the marks on what the pre-images hold (13 R385); bkptHalt: a BKPT of the exposure has halted the
context; saveAt, saveBy: the start of a save and the cycle by which it completes; savedSp, savedAcc: heavy state while off its core): place and shares, light state, tile registers, boundary, engine work, exposure, recovery. -/
structure Ctx where
  res     : Residence
  place   : Nat
  queue   : Nat
  slice   : Nat
  tenant  : Nat
  kernelLvl : Bool
  rank    : BitVec 3
  rankNext : Option (BitVec 3)
  coord   : Word
  paired  : Bool
  sig     : Word
  codeLo  : Nat
  codeHi  : Nat
  nspill  : Nat
  dpipes  : List Pipe
  dctrs   : List Ctr
  dtokens : Sparse TokenDecl
  transform : List W32
  lt      : Light
  ahead   : List (Nat × List W32 × List Nat)
  tiles   : Vector Tile 8
  bnd     : List (W32 × W32)
  pends   : List Pend
  past    : List (Option (Strm × Nat) × Nat × List (Nat × Byte × Byte))
  mats    : List MatOp
  quants  : List QuantOp
  crds    : List CrdOp
  xf      : List XfReq
  xfFault : Bool
  xfRun   : Option SeqRun
  cmds    : List Cmd
  free    : Vector Nat 64
  lastMove : Vector Nat 64
  arrived : List (Strm × Nat × List StoreWord)
  loads   : List PendLoad
  atoms   : List PendAtom
  fences  : Nat
  afence  : Nat
  rfence  : Option (Nat × Nat)
  seen    : Sparse Nat
  heard   : Sparse Nat
  start   : Nat
  snaps   : List Snap
  frags   : List StoreWord
  acqs    : List (Strm × StoreWord)
  unrecov : Bool
  shadow  : Option Light
  shTiles : Vector Tile 8
  shFrags : List StoreWord
  shAcqs  : List (Strm × StoreWord)
  shArrived : List (Strm × Nat × List StoreWord)
  shRank  : BitVec 3
  shWd    : Nat
  shadowAt : Nat
  preAcc  : List (Nat × List (Nat × W32))
  preBnd  : Option (List (W32 × W32))
  preSp   : List (Nat × List (Nat × Byte))
  preTile : List (Nat × Tile)
  preBad  : List Loc
  expOrd  : Nat
  rollAt  : Option Nat
  rolls   : Nat
  notice  : Option Nat
  wd      : Nat
  drowsy  : Bool
  halted  : Bool
  bkptHalt : Bool
  stopped : List Strm
  zeroing : Bool
  saveAt  : Nat
  saveBy  : Nat
  savedSp : Memory
  savedAcc : Sparse W32
  peek    : Sparse Nat
  deriving DecidableEq, Repr

/-- The holder and the reservation of one bound unit of a core (07 R232). -/
structure Arb where
  holder  : Option Nat
  reserve : Option Nat
  deriving DecidableEq, Repr, Inhabited

/-- The transform sequencer of a core: its user, instruction memory and run, and the contexts that have executed YIELD and give way at
the next acquisition that they would win (04 R138). -/
structure Seq where
  user   : Option Nat
  imem   : List W32
  run    : Option SeqRun
  yielded : List Nat
  deriving DecidableEq, Repr

/-- The reliability record of a core (13 R389). -/
structure RelRec where
  rb  : Nat
  vt  : Nat
  ce  : Nat
  nr  : Nat
  pr  : Nat
  off : Bool
  deriving DecidableEq, Repr, Inhabited

/-- A core (01 R18). spTenant and accTenant: the tenant that last held each 4 KiB of the scratchpad and each accumulator unit
(R26). -/
structure Core where
  sp      : Memory
  acc     : Sparse W32
  mat     : Arb
  quant   : Arb
  cordic  : Arb
  seq     : Seq
  rel     : RelRec
  retired : Bool
  spTenant  : Sparse Nat
  accTenant : Sparse Nat
  deriving DecidableEq, Repr

/-- A hardware slot of a sorting office (12 R373). -/
structure QSlot where
  queue   : Nat
  rank    : BitVec 3
  preempt : Bool
  deriving DecidableEq, Repr, Inhabited

/-- A notify waiting in the held-post list. -/
structure Notify where
  queue   : Nat
  rank    : BitVec 3
  preempt : Bool
  deriving DecidableEq, Repr, Inhabited

/-- A cluster: SRAM and sorting office (10 R301, 12 R373). -/
structure Cluster where
  sram     : Memory
  slice    : Option Nat
  slots    : Sparse QSlot
  held     : List Notify
  overflow : List Notify
  notified : List Nat
  frozen   : Bool
  tenant   : Option Nat
  deriving DecidableEq, Repr, Inhabited

/-- A slice barrier (11 R348): the contexts that have arrived in this generation, its n, the release due, generations. -/
structure Barrier where
  n       : Nat
  arrived : List Nat
  release : Option Nat
  gen     : Nat
  deriving DecidableEq, Repr, Inhabited

/-- The drain state of a slice (14 R415). -/
inductive Drain where
  | open_ | draining | drained
  deriving DecidableEq, Repr, Inhabited

/-- A slice (01 R23); borrower: the tenant that it is lent to (12 R372). -/
structure Slice where
  tenant   : Nat
  barriers : Vector Barrier 16
  drain    : Drain
  lent     : Bool
  borrower : Nat
  recall_  : Option (Nat × Nat)
  deriving DecidableEq, Repr

/-- A cached translation (11 R351): root, aligned virtual range, the leaf entry and its physical base. -/
structure TlbEntry where
  root : Nat
  va   : Nat
  size : Nat
  pa   : Nat
  rd   : Bool
  wr   : Bool
  ex   : Bool
  deriving DecidableEq, Repr, Inhabited

/-- A walk of the page tables (11 R351), under way or waiting for a walker: for whom and what address, under which root, the cycle of its
request and that of its last step, the level and the table that it reads next. -/
structure PageWalk where
  ctx   : Nat
  va    : Nat
  root  : Word
  since : Nat
  at_   : Nat
  lvl   : Nat
  table : Nat
  deriving DecidableEq, Repr, Inhabited

/-- A publication of one 8-byte word: its cycle, the context that makes it (768 for other parties, a number of its own for
each stream of CSENDs), the word, and the word's value before it (for the choice of 11 R325) [8]. -/
structure Pub where
  cycle : Nat
  writer : Nat
  pa    : Nat
  old   : Word
  deriving DecidableEq, Repr, Inhabited

/-- A release (11 R331): the location it wrote, the context that made it and its place then, its scope, the cycle up to which it orders that context's
publications, and what was ordered before it in turn. -/
structure Release where
  pa     : Nat
  writer : Nat
  place  : Nat
  scope  : Nat
  upto   : Nat
  seen   : Sparse Nat
  deriving DecidableEq, Repr, Inhabited

/-- A report of the resident kernel: the end of a context (12 R355, R360, R362), or an event it logs with grade N. -/
structure Report where
  ctx    : Nat
  code   : Nat
  grade  : Option Char
  status : Option W32
  cycle  : Nat
  tcause : Word
  tpc    : Word
  tinfo0 : Word
  tinfo1 : Word
  deriving DecidableEq, Repr, Inhabited

/-- A CSEND that arrives (10 R320): the slot it left from, its header, the data of the chunk under way, bytes done, the running
checksum, the fault that ended it, and the bytes of the chunks done, by physical address, which its end publishes (11 R339). -/
structure Recv where
  src   : Nat
  h     : SendHeader
  got   : List Byte
  moved : Nat
  sum   : W32
  fault : Nat
  out   : List (Nat × List Byte)
  deriving DecidableEq, Repr, Inhabited

/-- An armed test injector (19 R430): the data flits to go, the bit, the cycle of the response that armed it. -/
structure Injector where
  n     : Nat
  b     : Nat
  since : Nat
  deriving DecidableEq, Repr, Inhabited

/-- A fabric port (14 R402-R404, 19 R430), with what arrives on it, the last final checksum and fault of each slot that sends to
it (10 R313), and the port by which the flits of a slot go on to another package (10 R320). -/
structure Port where
  lanes    : Nat
  replays  : Nat
  rx       : List Flit
  recvs    : List Recv
  chains   : Sparse (W32 × Nat)
  transit  : Sparse Nat
  injector : Option Injector
  deriving DecidableEq, Repr, Inhabited

/-- The states of the boot status register (14 R406). -/
inductive Boot where
  | rom | verifying | monitor | kernel | safelight
  deriving DecidableEq, Repr, Inhabited

/-- A live update (14 R410): the cycle of its command, the cycle in which the new kernel has started, and the version in word 0 of the
handover structure. -/
structure Update where
  started  : Nat
  kernelAt : Option Nat
  handover : Nat
  deriving DecidableEq, Repr, Inhabited

/-- A sample of the contact sheet (14 R412-R414). -/
structure Sheet where
  cycle    : Nat
  pkg      : Nat
  pkgState : Nat
  slot     : Bool
  cores    : List Word
  clusters : List (Nat × Nat × Nat × Nat)
  ports    : List (List Nat)
  power    : Nat
  cap      : Nat
  temp     : Nat
  limiting : Bool
  retired  : List Nat
  hbm      : List (Nat × Nat × Nat)
  deriving DecidableEq, Repr, Inhabited

/-- A buffer of the contact sheet at reset: every core record holds its reset value (14 R414), slice 0x3F and else 0. -/
def Sheet.reset : Sheet :=
  { (default : Sheet) with
    cores := List.replicate 192 (BitVec.ofNat 64 (0x3F * 2 ^ 10))
    clusters := List.replicate 24 (0x3F, 0, 0, 0), ports := List.replicate 64 [], hbm := List.replicate 8 (0, 0, 0) }

/-- What the device has sent to a party outside: a host read completion or abort, a window response, a mailbox response, an
SPDM response, an MSI-X vector, a flit on a port, an acknowledgement, a register read by the debugger, the answer to a launch (14 R407,
R415), a discarded write (14 R396), a buffer of the contact sheet (R412). -/
inductive Reply where
  | data (bytes : List Byte)
  | abort
  | window (v : Word) (err : Bool)
  | mailbox (seq : BitVec 16) (status : Nat) (v : Word)
  | spdm (name : String) (body : List Byte)
  | vector (n : Nat)
  | flit (port : Nat) (f : Flit)
  | ack (src : Nat) (c : W32) (code : Nat)
  | regval (v : Word)
  | launch (status : Nat)
  | linkError
  | sheet (body : Sheet)
  deriving DecidableEq, Repr, Inhabited

/-- An access of a party outside the compute contexts that waits on a scrub-pending page (14 R396, R398, 11 R353): the party's table, the
address, whether it writes, its bytes. -/
structure OutAccess where
  table : Nat
  addr  : Nat
  write : Bool
  bytes : List Byte
  deriving DecidableEq, Repr, Inhabited

/-- The application die and the I/O die (14); failed: the last start failed (R405); roots: the root of each outside party's table (R396, R398, R399); held: accesses that wait; mbox,
asked, answer: the mailbox's request words, the requests submitted and not yet served, the response (R401); sheetMap: where the kernel
maps the contact sheet for the application cores (R412). -/
structure Mgmt where
  boot      : Boot
  bootSlot  : Bool
  failcnt   : Nat
  failed    : Bool
  reason    : Nat
  arb       : Nat
  waiting   : Option Nat
  imageA    : Option Image
  imageB    : Option Image
  active    : Bool
  staged    : Bool
  staging   : Option Image
  update    : Option Update
  restarting : Bool
  restarts  : Nat
  cause     : BitVec 8
  granted   : Bool
  errors    : Nat
  gen       : Nat
  buf0      : Sheet
  buf1      : Sheet
  cap       : Nat
  power     : Nat
  temp      : Nat
  limiting  : Bool
  powered   : Bool
  draining  : Bool
  drained   : Bool
  hbmCe     : Sparse Nat
  measure5  : BitVec 384
  version   : Bool
  algorithms : Bool
  retired   : List Nat
  uncorrected : List (Loc × Nat)
  disagreed : Sparse Nat
  restartBy : Nat
  roots     : Sparse Word
  held      : List OutAccess
  mbox      : Vector Word 8
  asked     : List (Party × Vector Word 8 × BitVec 16)
  answer    : Word × Word
  sheetMap  : Option Nat
  deriving DecidableEq, Repr, Inhabited

/-- Which party takes the next turn [2]. -/
inductive Turn where
  | issue (ctx : Nat) (st : Strm)
  | seq (core : Nat)
  | event (i : Instr)
  | again (ctx n : Nat)
  | tick
  deriving DecidableEq, Repr, Inhabited

/-- The context, stream and unit whose word is being issued [2]. -/
structure Sel where
  ctx : Nat
  st  : Strm
  seq : Bool
  deriving DecidableEq, Repr, Inhabited

/-- One package. decided: the arbiters of the engines have decided in this cycle (07 R448) [2]. -/
structure State where
  cycle    : Nat
  pkg      : Nat
  mem      : Memory
  ctxs     : Sparse Ctx
  cores    : Sparse Core
  clusters : Sparse Cluster
  slices   : Sparse Slice
  poison   : List Loc
  tlb      : List TlbEntry
  walks    : List PageWalk
  pubs     : List Pub
  rels     : List Release
  ports    : Sparse Port
  reports  : List Report
  mgmt     : Mgmt
  out      : List Reply
  agenda   : List Turn
  decided  : Bool
  sel      : Sel
  free     : Nat
  deriving DecidableEq, Repr

/-- The machine as a whole stops. -/
inductive Fault where
  /-- Raised by step: power is removed (14 R417, at 115 degrees C) and no power-on stands in the agenda. Safe: the spec gives
  no step of a device without power. -/
  | powerRemoved
  deriving DecidableEq, Repr, Inhabited

/-- A step that has no meaning. -/
inductive Refusal where
  /-- Raised by a refused arm of exec for a mnemonic that has no meaning in this model. Safe. -/
  | notModelled (mnemonic : String)
  /-- Raised by the meaning of an instruction word when no context is placed that could issue it: the spec gives no effect to
  a word that no stream issues. step never reaches it. Safe. -/
  | noContext
  deriving DecidableEq, Repr, Inhabited

def Frame.start : Frame := ⟨0, false⟩

def StreamState.reset : StreamState where
  q := Vector.replicate 16 0
  o := Vector.replicate 8 0
  g := Vector.replicate 32 0
  p := Vector.replicate 8 false
  rot := 0
  queue := []
  rep := none
  vote := none
  wait := none
  ready := 0
  views := Vector.replicate 3 none
  frame := Frame.start
  lastIssue := 0
  recent := []

def Tag.reset : Tag := ⟨0, 0, 0, 0, false, false, 0, 0, 0, 0⟩

/-- The system registers of a context at their stated reset values; sys.tagown and sys.dbgctl have none [4]. -/
def SysRegs.reset : SysRegs where
  fpctl := 0
  decay := 0x3F800000
  ftlink := 3
  bndcap := 0
  bndshape := 0
  wdlimit := 0
  ft := Vector.replicate 16 0
  bd := Vector.replicate 16 1
  evcnt := Vector.replicate 8 0
  evopen := Vector.replicate 8 none
  evtrap := none
  evthr := Vector.replicate 8 0xFFFFFFFF
  evwin := Vector.replicate 8 0
  evctl := 0
  evstat := 0
  dbuf := Vector.replicate 4 0
  tvec := 0
  tcause := 0
  tpc := 0
  tinfo0 := 0
  tinfo1 := 0
  savebudget := 0
  recallWord := 0
  ctxarea := 0
  spbase := 0
  spsize := 0
  accset := 0
  tagown := 0
  ptroot := 0
  tlbinv := 0
  dbgctl := 0
  tags := Vector.replicate 32 Tag.reset
  slots := Vector.replicate 64 0

def CBar.reset : CBar := ⟨.idle, 0, 0, 0, false, 0, 0, 0, []⟩

/-- The light state of a context at launch (03 R70, 02 R43, R50, 04 R108, R118, R131, 07 R219, R236). -/
def Light.reset : Light where
  c := StreamState.reset
  l := StreamState.reset
  x := StreamState.reset
  s := StreamState.reset
  flights := []
  ord := 0
  line := 0
  next := none
  lbuf := []
  rstack := []
  depth := 0
  spill := []
  pipes := Vector.replicate 6 []
  ctrs := Vector.replicate 4 ⟨0, 0⟩
  fifos := Vector.replicate 6 ⟨[], 0⟩
  cbars := Vector.replicate 8 CBar.reset
  rowmask := Vector.replicate 4 (BitVec.allOnes 128)
  colmask := Vector.replicate 4 (BitVec.allOnes 128)
  books := Vector.replicate 4 ⟨false, List.replicate 16 0⟩
  tk := Vector.replicate 8 0
  owed := Vector.replicate 8 0
  stores := []
  sys := SysRegs.reset
  faults := []
  frame := none
  hold := .none
  chain := Vector.replicate 64 none
  bad := []

def Tile.reset : Tile := ⟨.empty, 0, []⟩

/-- A context as it stands at launch before its image's values are written (12 R370's fields included). -/
def Ctx.reset : Ctx where
  res := .resident
  place := 0
  queue := 0
  slice := 0
  tenant := 0
  kernelLvl := false
  rank := 0
  rankNext := none
  coord := 0
  paired := false
  sig := 0
  codeLo := 0
  codeHi := 0
  nspill := 0
  dpipes := []
  dctrs := []
  dtokens := []
  transform := []
  lt := Light.reset
  ahead := []
  tiles := Vector.replicate 8 Tile.reset
  bnd := []
  pends := []
  past := []
  mats := []
  quants := []
  crds := []
  xf := []
  xfFault := false
  xfRun := none
  cmds := []
  free := Vector.replicate 64 0
  lastMove := Vector.replicate 64 0
  arrived := []
  loads := []
  atoms := []
  fences := 0
  afence := 0
  rfence := none
  seen := []
  heard := []
  start := 0
  snaps := []
  frags := []
  acqs := []
  unrecov := false
  shadow := none
  shTiles := Vector.replicate 8 Tile.reset
  shFrags := []
  shAcqs := []
  shArrived := []
  shRank := 0
  shWd := 0
  shadowAt := 0
  preAcc := []
  preBnd := none
  preSp := []
  preTile := []
  preBad := []
  expOrd := 0
  rollAt := none
  rolls := 0
  notice := none
  wd := 0
  drowsy := false
  halted := false
  bkptHalt := false
  stopped := []
  zeroing := false
  saveAt := 0
  saveBy := 0
  savedSp := []
  savedAcc := []
  peek := []

def Arb.reset : Arb := ⟨none, none⟩

def Core.reset : Core where
  sp := []
  acc := []
  mat := Arb.reset
  quant := Arb.reset
  cordic := Arb.reset
  seq := ⟨none, [], none, []⟩
  rel := ⟨0, 0, 0, 0, 0, false⟩
  retired := false
  spTenant := []
  accTenant := []

def Cluster.reset : Cluster := ⟨[], none, [], [], [], [], false, none⟩

def Slice.reset : Slice := ⟨0, Vector.replicate 16 ⟨0, [], none, 0⟩, .open_, false, 0, none⟩

def Port.reset : Port := ⟨2, 0, [], [], [], [], none⟩

/-- The application die and I/O die after power-on: state boot ROM (14 R406); the fields the spec gives no value hold the
values of [4]. -/
def Mgmt.reset : Mgmt where
  boot := .rom
  bootSlot := false
  failcnt := 0
  failed := false
  reason := 0
  arb := 0
  waiting := none
  imageA := none
  imageB := none
  active := false
  staged := false
  staging := none
  update := none
  restarting := false
  restarts := 0
  cause := 0
  granted := false
  errors := 0
  gen := 0
  buf0 := Sheet.reset
  buf1 := Sheet.reset
  cap := 2200000
  power := 0
  temp := 0
  limiting := false
  powered := true
  draining := false
  drained := false
  hbmCe := []
  measure5 := 0
  version := false
  algorithms := false
  retired := []
  uncorrected := []
  disagreed := []
  restartBy := 0
  roots := []
  held := []
  mbox := Vector.replicate 8 0
  asked := []
  answer := (0, 0)
  sheetMap := none

/-- The package right after reset: no context placed, nothing listed in any memory, the boot ROM about to run [3]. -/
def State.reset : State where
  cycle := 0
  pkg := 0
  mem := []
  ctxs := []
  cores := []
  clusters := []
  slices := []
  poison := []
  tlb := []
  walks := []
  pubs := []
  rels := []
  ports := []
  reports := []
  mgmt := Mgmt.reset
  out := []
  agenda := []
  decided := false
  sel := ⟨0, .c, false⟩
  free := 0

end Sys2Proof.Machine
end

