-- ==== Sys2Proof/Machine/Memory.lean ====
section
/-! DEFINITION. Sparse data and byte memories in canonical form: the named operations over them. A memory lists no byte equal
to what an unlisted address reads as, which is 0 [5]. -/

namespace Sys2Proof.Machine

/-- What number `k` holds, if anything. -/
def Sparse.get {α : Type} : Sparse α → Nat → Option α
  | [], _ => none
  | (n, a) :: rest, k => if k = n then some a else Sparse.get rest k

/-- `m` with `a` at number `k`, in rising order of numbers. -/
def Sparse.set {α : Type} : Sparse α → Nat → α → Sparse α
  | [], k, a => [(k, a)]
  | (n, b) :: rest, k, a =>
    if k < n then (k, a) :: (n, b) :: rest
    else if k = n then (k, a) :: rest
    else (n, b) :: Sparse.set rest k a

/-- `m` with nothing at number `k`. -/
def Sparse.erase {α : Type} (m : Sparse α) (k : Nat) : Sparse α := m.filter fun p => p.1 != k

/-- The numbers strictly rise. -/
def Sparse.wf {α : Type} : Sparse α → Bool
  | [] => true
  | (n, _) :: rest => rest.all (fun p => n < p.1) && Sparse.wf rest

/-- The byte at an address (00 R8). -/
def Memory.get (m : Memory) (a : Nat) : Byte := (Sparse.get m a).getD 0

/-- The canonical form of a memory: addresses strictly rising, no byte equal to what an unlisted address reads as. -/
def Memory.wf (m : Memory) : Bool := Sparse.wf m && m.all fun p => p.2 != 0

/-- One byte written, in canonical form. -/
def Memory.put (m : Memory) (a : Nat) (b : Byte) : Memory :=
  if b = 0 then Sparse.erase m a else Sparse.set m a b

/-- `n` bytes from an address on, when every cell of `m` lies at that address or above. -/
def Memory.readFrom : Nat → Nat → Memory → List Byte
  | 0, _, _ => []
  | n + 1, a, m =>
    match m with
    | [] => List.replicate (n + 1) 0
    | (x, b) :: rest => if x = a then b :: readFrom n (a + 1) rest else 0 :: readFrom n (a + 1) m

/-- `n` bytes from an address on. -/
def Memory.read (m : Memory) (a n : Nat) : List Byte := Memory.readFrom n a (m.dropWhile fun p => p.1 < a)

/-- The cells of a byte string at an address. -/
def cellsAt : Nat → List Byte → Memory
  | _, [] => []
  | a, b :: rest => if b = 0 then cellsAt (a + 1) rest else (a, b) :: cellsAt (a + 1) rest

/-- A byte string written at an address. -/
def Memory.write (m : Memory) (a : Nat) (bs : List Byte) : Memory :=
  m.filter (fun p => p.1 < a) ++ cellsAt a bs ++ m.filter (fun p => a + bs.length ≤ p.1)

/-- The number that a byte string holds, little-endian (00 R8). -/
def leNat : List Byte → Nat
  | [] => 0
  | b :: rest => b.toNat + 256 * leNat rest

/-- The `n` little-endian bytes of a number. -/
def leBytes : Nat → Nat → List Byte
  | 0, _ => []
  | n + 1, v => BitVec.ofNat 8 v :: leBytes n (v / 256)

/-- An `n`-byte little-endian number read from memory. -/
def Memory.readNat (m : Memory) (a n : Nat) : Nat := leNat (m.read a n)

/-- An `n`-byte little-endian number written to memory. -/
def Memory.writeNat (m : Memory) (a n v : Nat) : Memory := m.write a (leBytes n v)

/-- A byte whose bits set in `mask` come from `new` and whose others stay. -/
def mergeByte (old new mask : Byte) : Byte := (new &&& mask) ||| (old &&& ~~~mask)

/-- One masked byte written. -/
def Memory.putMasked (m : Memory) (a : Nat) (b mask : Byte) : Memory :=
  m.put a (if mask = 0xFF then b else mergeByte (m.get a) b mask)

/-- Masked byte writes applied in order. -/
def Memory.putAll (m : Memory) (ws : List (Nat × Byte × Byte)) : Memory :=
  ws.foldl (fun m w => m.putMasked w.1 w.2.1 w.2.2) m

/-- The byte mask of a nibble mask's bit pair (11 R323): bit 2j is nibble 0 and bit 2j+1 nibble 1 of byte j. -/
def nibbleByte (mask : BitVec 16) (j : Nat) : Byte :=
  (if mask.getLsbD (2 * j) then 0x0F else 0) ||| (if mask.getLsbD (2 * j + 1) then 0xF0 else 0)

/-- The 64-bit word whose bits under a nibble mask come from `new` and whose others from `old`. -/
def mergeWord (old new : Word) (mask : BitVec 16) : Word :=
  BitVec.ofNat 64 (leNat ((List.range 8).map fun j =>
    mergeByte (BitVec.ofNat 8 (old.toNat / 2 ^ (8 * j))) (BitVec.ofNat 8 (new.toNat / 2 ^ (8 * j))) (nibbleByte mask j)))

/-- The aligned 8-byte word at an address. -/
def Memory.word (m : Memory) (a : Nat) : Word := BitVec.ofNat 64 (m.readNat a 8)

/-- The nibbles under a mask of the aligned 8-byte word at an address, published (11 R324). -/
def Memory.publish (m : Memory) (a : Nat) (data : Word) (mask : BitVec 16) : Memory :=
  m.writeNat a 8 (mergeWord (m.word a) data mask).toNat

end Sys2Proof.Machine
end

