-- ==== Sys2Proof/Machine/Ops.lean ====
section
/-! DEFINITION. The named operations over contexts, streams, pipes, tokens, events and faults that every meaning uses. -/

namespace Sys2Proof

/-- The streams in the order in which one cycle serves them (03 R80, 12 R356). -/
def Strm.all : List Strm := [.c, .l, .x, .s]

/-- The place of a stream in that order: also its number in sys.tcause (12 R359) and in LCTL's selectors (04 R126). -/
def Strm.num : Strm → Nat
  | .c => 0
  | .l => 1
  | .x => 2
  | .s => 3

/-- The place of a pipe in the order of 02 R50. -/
def Pipe.num : Pipe → Nat
  | .cl => 0
  | .cx => 1
  | .lx => 2
  | .xs => 3
  | .xc => 4
  | .sc => 5

/-- The place of a token counter in the order of 02 R43. -/
def Ctr.num : Ctr → Nat
  | .lx => 0
  | .xl => 1
  | .xs => 2
  | .sx => 3

/-- The number of a result FIFO (03 R78). -/
def Ring.num : Ring → Nat
  | .ld => 0
  | .atom => 1
  | .co => 2
  | .mx => 3
  | .cr => 4
  | .tx => 5

/-- The depth of a result FIFO (03 R78). -/
def Ring.depth : Ring → Nat
  | .ld => 32
  | .atom => 16
  | .co => 32
  | .mx => 16
  | .cr => 16
  | .tx => 8

/-- The result FIFO that a number names (03 R78). -/
def Ring.byNumber : Nat → Ring
  | 0 => .ld
  | 1 => .atom
  | 2 => .co
  | 3 => .mx
  | 4 => .cr
  | _ => .tx

/-- Two places of which one datum can have moved from the one to the other: entries of one q, and of one pipe. -/
def RegPlace.kin : RegPlace → RegPlace → Bool
  | .q a _, .q b _ => a == b
  | .pipe a _, .pipe b _ => a == b
  | a, b => a == b

/-- Whether a place is one that a trap frame saves (12 R358). -/
def RegPlace.framed : RegPlace → Bool
  | .q .. | .p .. | .pipe .. => true
  | _ => false

end Sys2Proof

namespace Sys2Proof.Machine

open Sys2Proof

/-- What an attempt to issue, or to take one step of an engine, ends in: done, not now (it is tried again; nothing changes, but that a request
for a page walk joins those that wait, 01 R30), or a fault raised. -/
inductive Att (α : Type) where
  | ok (a : α)
  | wait (ask : Option PageWalk)
  | trap (code : Nat) (info : Word) (lvl : Nat) (wk : Bool) (k : Nat) (locs : List Loc)
  deriving DecidableEq, Repr

/-- `f` on the result, when there is one. -/
def Att.bind {α β : Type} (x : Att α) (f : α → Att β) : Att β :=
  match x with
  | .ok a => f a
  | .wait q => .wait q
  | .trap c i l w k ls => .trap c i l w k ls

/-- Whether the attempt changes anything: it is not left for later, or asks for a page walk. -/
def Att.moves {α : Type} : Att α → Bool
  | .wait q => q.isSome
  | _ => true

/-- A fault with no record beside its code. -/
def Att.fault {α : Type} (code : Nat) : Att α := .trap code 0 0 false 0 []

/-- A fault whose record is the faulting address (12 R359, sys.tinfo0). -/
def Att.faultAt {α : Type} (code : Nat) (addr : Nat) : Att α := .trap code (BitVec.ofNat 64 addr) 0 false 0 []

/-- The fault of data consumed at marked places (13 R385). -/
def Att.consumed {α : Type} (locs : List Loc) : Att α := .trap 0x13 0 0 false 0 locs

/-- Go on when the condition holds; otherwise raise a fault. -/
def Att.need (c : Bool) (code : Nat) : Att Unit := if c then .ok () else .fault code

/-- Go on when the condition holds; otherwise try again later. -/
def Att.when_ (c : Bool) : Att Unit := if c then .ok () else .wait none

/-- `f` on each element in turn, threading a state. -/
def Att.foldl {α β : Type} (f : β → α → Att β) : β → List α → Att β
  | b, [] => .ok b
  | b, a :: rest => (f b a).bind fun b' => Att.foldl f b' rest

/-! Places (01 R20) -/

/-- The core of a context. -/
def coreOf (id : Nat) : Nat := id / 4

/-- The cluster of a context. -/
def clusterOf (id : Nat) : Nat := id / 32

/-- The die of a context. -/
def dieOf (id : Nat) : Nat := id / 192

/-- A number for all parties outside the contexts, where one is named [8]. -/
def outsider : Nat := 768

/-- The value of sys.place (01 R21). -/
def placeWord (id : Nat) : Word :=
  BitVec.ofNat 64 (id % 4 + (id / 4 % 8) * 2 ^ 2 + (id / 32 % 6) * 2 ^ 5 + id / 192 * 2 ^ 8)

/-! Parts of the state -/

/-- The context placed or saved under an index. -/
def State.ctx (s : State) (id : Nat) : Option Ctx := Sparse.get s.ctxs id

/-- `s` with a context's record replaced. -/
def State.setCtx (s : State) (id : Nat) (k : Ctx) : State := { s with ctxs := Sparse.set s.ctxs id k }

/-- A core, at its reset values when nothing has touched it. -/
def State.core (s : State) (n : Nat) : Core := (Sparse.get s.cores n).getD Core.reset

/-- `s` with a core's record replaced. -/
def State.setCore (s : State) (n : Nat) (c : Core) : State := { s with cores := Sparse.set s.cores n c }

/-- A cluster, at its reset values when nothing has touched it. -/
def State.cluster (s : State) (n : Nat) : Cluster := (Sparse.get s.clusters n).getD Cluster.reset

/-- `s` with a cluster's record replaced. -/
def State.setCluster (s : State) (n : Nat) (c : Cluster) : State := { s with clusters := Sparse.set s.clusters n c }

/-- The clusters of a slice, in ascending index. -/
def State.sliceClusters (s : State) (slice : Nat) : List Nat :=
  (s.clusters.filter fun c => c.2.slice == some slice).map (·.1)

/-- A slice, at its reset values when nothing has touched it. -/
def State.slice (s : State) (n : Nat) : Slice := (Sparse.get s.slices n).getD Slice.reset

/-- `s` with a slice's record replaced. -/
def State.setSlice (s : State) (n : Nat) (c : Slice) : State := { s with slices := Sparse.set s.slices n c }

/-- A fabric port. -/
def State.port (s : State) (n : Nat) : Port := (Sparse.get s.ports n).getD Port.reset

/-- `s` with a port's record replaced. -/
def State.setPort (s : State) (n : Nat) (p : Port) : State := { s with ports := Sparse.set s.ports n p }

/-- The state of one stream. -/
def Light.strm (l : Light) : Strm → StreamState
  | .c => l.c
  | .l => l.l
  | .x => l.x
  | .s => l.s

/-- The light state with one stream's state replaced. -/
def Light.setStrm (l : Light) (st : Strm) (v : StreamState) : Light :=
  match st with
  | .c => { l with c := v }
  | .l => { l with l := v }
  | .x => { l with x := v }
  | .s => { l with s := v }

/-- The state of one stream of a context. -/
def Ctx.strm (k : Ctx) (st : Strm) : StreamState := k.lt.strm st

/-- A context with one stream's state replaced. -/
def Ctx.setStrm (k : Ctx) (st : Strm) (v : StreamState) : Ctx := { k with lt := k.lt.setStrm st v }

/-- A context with its system registers replaced. -/
def Ctx.setSys (k : Ctx) (r : SysRegs) : Ctx := { k with lt := { k.lt with sys := r } }

/-- The in-pipe that a specifier names (02 R50). -/
def inPipe (st : Strm) (v : Spec) : Option Pipe :=
  match st, v.toNat with
  | .c, 28 => some .sc
  | .c, 29 => some .xc
  | .l, 28 => some .cl
  | .x, 28 => some .cx
  | .x, 29 => some .lx
  | .s, 28 => some .xs
  | _, _ => none

/-- The out-pipe that a specifier names (02 R50). -/
def outPipe (st : Strm) (v : Spec) : Option Pipe :=
  match st, v.toNat with
  | .c, 28 => some .cl
  | .c, 29 => some .cx
  | .l, 28 => some .lx
  | .x, 28 => some .xs
  | .x, 29 => some .xc
  | .s, 28 => some .sc
  | _, _ => none

/-- The counters that a word's token bits pop (02 R43, R44). -/
def popsOf (st : Strm) (t : Tok) : List Ctr :=
  match st with
  | .c => []
  | .l => if t.getLsbD 0 then [.xl] else []
  | .x => (if t.getLsbD 1 then [.lx] else []) ++ (if t.getLsbD 0 then [.sx] else [])
  | .s => if t.getLsbD 1 then [.xs] else []

/-- The counters that a word's token bits push (02 R43, R44). -/
def pushesOf (st : Strm) (t : Tok) : List Ctr :=
  match st with
  | .c => []
  | .l => if t.getLsbD 2 then [.lx] else []
  | .x => (if t.getLsbD 3 then [.xl] else []) ++ (if t.getLsbD 2 then [.xs] else [])
  | .s => if t.getLsbD 3 then [.sx] else []

/-! Pipes, counters and FIFOs of a context -/

/-- The entries of a pipe, oldest first. -/
def Light.pipe (l : Light) (p : Pipe) : List Word := l.pipes[p.num]?.getD []

/-- A pipe's entries replaced. -/
def Light.setPipe (l : Light) (p : Pipe) (v : List Word) : Light := { l with pipes := l.pipes.setIfInBounds p.num v }

/-- A token counter. -/
def Light.ctr (l : Light) (c : Ctr) : TokCtr := l.ctrs[c.num]?.getD ⟨0, 0⟩

/-- A token counter replaced. -/
def Light.setCtr (l : Light) (c : Ctr) (v : TokCtr) : Light := { l with ctrs := l.ctrs.setIfInBounds c.num v }

/-- A result FIFO. -/
def Light.fifo (l : Light) (r : Ring) : Fifo := l.fifos[r.num]?.getD ⟨[], 0⟩

/-- A result FIFO replaced. -/
def Light.setFifo (l : Light) (r : Ring) (v : Fifo) : Light := { l with fifos := l.fifos.setIfInBounds r.num v }

/-- A completion barrier. -/
def Light.cbar (l : Light) (q : Nat) : CBar := l.cbars[q]?.getD CBar.reset

/-- A completion barrier replaced. -/
def Light.setCbar (l : Light) (q : Nat) (v : CBar) : Light := { l with cbars := l.cbars.setIfInBounds q v }

/-- A context with its light state replaced. -/
def Ctx.setLt (k : Ctx) (l : Light) : Ctx := { k with lt := l }

/-- A place in a result FIFO reserved (03 R79): engine FIFO overflow when entries and places reach the depth. -/
def Ctx.reserve (k : Ctx) (r : Ring) : Att Ctx :=
  let f := k.lt.fifo r
  if f.entries.length + f.res < r.depth then .ok (k.setLt (k.lt.setFifo r { f with res := f.res + 1 })) else .fault 0x0F

/-- What the kernel, or work issued before the exposure began, does to the context: the shadow changes in the same way, so that a
rollback leaves it as it is (13 R383 steps 2 and 5). -/
def Ctx.both (k : Ctx) (f : Ctx → Ctx) : Ctx :=
  match k.shadow with
  | some l =>
    let m := f { k with lt := l, tiles := k.shTiles, acqs := k.shAcqs, arrived := k.shArrived, rank := k.shRank, wd := k.shWd }
    { f k with shadow := some m.lt, shTiles := m.tiles, shAcqs := m.acqs, shArrived := m.arrived, shRank := m.rank, shWd := m.wd }
  | none => f k

/-- What work of issue order `ord` does to the context. -/
def Ctx.upd (k : Ctx) (ord : Nat) (f : Ctx → Ctx) : Ctx := if ord < k.expOrd then k.both f else f k

/-- An entry posted to the place reserved for it (03 R79) by work of issue order `ord`. -/
def Ctx.post (k : Ctx) (ord : Nat) (r : Ring) (v : Word) (bad : List Loc) (acq : List StoreWord) : Ctx :=
  k.upd ord fun k =>
    let f := k.lt.fifo r
    k.setLt (k.lt.setFifo r ⟨f.entries ++ [⟨v, bad, acq⟩], f.res - 1⟩)

/-- A reserved push becomes a visible token (02 R45 step 3). A push reserved before the entry of a handler goes to the saved
counter (12 R358). -/
def Light.pushDone (l : Light) (ord : Nat) (c : Ctr) : Light :=
  let now (l : Light) : Light := let v := l.ctr c; l.setCtr c ⟨v.vis + 1, v.res - 1⟩
  match l.frame with
  | none => now l
  | some f =>
    if ord < f.ord then
      let v := f.ctrs[c.num]?.getD ⟨0, 0⟩
      { l with frame := some { f with ctrs := f.ctrs.setIfInBounds c.num ⟨v.vis + 1, v.res - 1⟩ } }
    else now l

/-- The pushes of an instruction of issue order `ord`, made when its effect is complete. -/
def Ctx.pushAll (k : Ctx) (ord : Nat) (cs : List Ctr) : Ctx :=
  k.upd ord fun k => k.setLt (cs.foldl (fun l c => l.pushDone ord c) k.lt)

/-- A store word laid over earlier ones (11 R323): the nibbles it names replace theirs; words keep the order of their first
store. -/
def overlay (ws : List StoreWord) (w : StoreWord) : List StoreWord :=
  if ws.any (fun x => x.pa == w.pa && x.va == w.va) then
    ws.map fun x => if x.pa == w.pa && x.va == w.va then
      { x with mask := x.mask ||| w.mask, data := mergeWord x.data w.data w.mask } else x
  else ws ++ [w]

/-- Nibbles taken out of store words: those of `w`, from words of the same place that stand under another address, or from all. -/
def dropNibbles (all : Bool) (w : StoreWord) (ws : List StoreWord) : List StoreWord :=
  (ws.map fun x => if x.pa = w.pa ∧ (all ∨ x.va ≠ w.va) then
    { x with mask := x.mask &&& ~~~w.mask, data := mergeWord 0 x.data (x.mask &&& ~~~w.mask) } else x).filter fun x => x.mask != 0

/-- A store word made the newest of its nibbles (11 R323, R326): words of the same place under another address lose them. -/
def overNewest (ws : List StoreWord) (w : StoreWord) : List StoreWord := overlay (dropNibbles false w ws) w

/-- The writes that an entry or barrier reports, acquired (11 R337): C's loads see them as the context's own newest writes. -/
def Ctx.acquire (k : Ctx) (ws : List StoreWord) : Ctx := { k with frags := ws.foldl overNewest k.frags }

/-- The signature of a paired copy's context after one more word of a publication (13 R391). -/
def signWord (sig : Word) (w : StoreWord) : Word :=
  sig.rotateLeft 7 + (BitVec.ofNat 64 (w.va / 8 % 2 ^ 45) ^^^ (w.mask.setWidth 64 <<< 48)) + w.data.rotateLeft 13

/-- The 8-byte words that bytes by ascending address make, in that order. -/
def wordsOfBytes (m : Sparse Byte) : List StoreWord :=
  ((m.map fun b => b.1 / 8).dedup).map fun w =>
    let bs := m.filter fun b => b.1 / 8 == w
    ⟨8 * w, 8 * w, bs.foldl (fun v b => v ||| BitVec.ofNat 16 (3 * 4 ^ (b.1 % 8))) 0,
      bs.foldl (fun v b => v ||| BitVec.ofNat 64 (b.2.toNat * 256 ^ (b.1 % 8))) 0⟩

/-- The signature of a paired context after one publication of bytes of cluster SRAM (13 R391). -/
def Ctx.signBytes (k : Ctx) (m : Sparse Byte) : Ctx :=
  if k.paired then { k with sig := (wordsOfBytes m).foldl signWord k.sig } else k

/-! Register files -/

/-- The marks that remain when a value goes into a place (13 R385). -/
def Light.good (l : Light) (r : RegPlace) : Light := if l.bad.isEmpty then l else { l with bad := l.bad.filter (· != r) }

/-- The marks of a stream's q entries move with them as a result enters q (03 R74). -/
def Light.shiftMarks (l : Light) (st : Strm) : Light :=
  if l.bad.isEmpty then l else
  { l with bad := l.bad.filterMap fun r =>
      match r with
      | .q x n => if x = st then (if n < 15 then some (.q x (n + 1)) else none) else some r
      | r => some r }

/-- The marks of a pipe's entries move with them as the oldest is popped. -/
def Light.popMarks (l : Light) (p : Pipe) : Light :=
  if l.bad.isEmpty then l else
  { l with bad := l.bad.filterMap fun r =>
      match r with
      | .pipe x n => if x = p then (match n with
        | 0 => none
        | m + 1 => some (.pipe x m)) else some r
      | r => some r }


/-- The physical register that a main-file name g0 to g31 denotes now (04 R118). -/
def gPhys (rot : BitVec 4) (n : Nat) : Nat := if n < 16 then n else 16 + (n - 16 + rot.toNat) % 16

/-- The index that a stream sees of a level; a level that is not active reads 0 (02 R49). -/
def StreamState.index (ss : StreamState) (lv : Nat) : Nat :=
  match ss.views[lv]?.getD none with
  | some r => r.idx
  | none => 0

/-- A level as a stream sees it. -/
def StreamState.view (ss : StreamState) (lv : Nat) : Option Lvl := ss.views[lv]?.getD none

/-- A level's view replaced. -/
def StreamState.setView (ss : StreamState) (lv : Nat) (r : Option Lvl) : StreamState :=
  { ss with views := ss.views.setIfInBounds lv r }

/-- A result enters q0 and the older entries move down (03 R74). -/
def StreamState.enterQ (ss : StreamState) (v : Word) : StreamState :=
  { ss with q := Vector.ofFn fun i => if i.val = 0 then v else ss.q[i.val - 1]?.getD 0 }

/-- The innermost active level of the stream's current frame: the one declared most recently (04 R108, R119). -/
def StreamState.innermost (ss : StreamState) : Option (Nat × Lvl) :=
  [0, 1, 2].foldl (fun best lv =>
    match ss.view lv with
    | some r =>
      if r.frame = ss.frame then
        match best with
        | some (_, b) => if b.ord < r.ord then some (lv, r) else best
        | none => some (lv, r)
      else best
    | none => best) none

/-- Stage predicate j of a stream (04 R119); none where it is undefined. -/
def StreamState.stg (ss : StreamState) (j : Nat) : Option Bool :=
  match ss.innermost with
  | some (_, r) => if r.piped then some (j < r.stages && j ≤ r.idx && r.idx < r.count + j) else none
  | none => none

/-- Bits of a 64-bit value by position. -/
def wbits (w : Word) (hi lo : Nat) : Nat := bits w.toNat hi lo

/-! Events (06 R207-R211) -/

/-- No event. -/
def Events.zero : Events := Vector.replicate 8 0

/-- The count of a class. -/
def Events.at_ (e : Events) (c : Nat) : Nat := e[c]?.getD 0

/-- One element's events, a bit for each class, added (06 R208). -/
def Events.addBits (e : Events) (b : BitVec 8) : Events :=
  Vector.ofFn fun i => e.at_ i.val + (if b.getLsbD i.val then 1 else 0)

/-- Two sums of events. -/
def Events.add (e f : Events) : Events := Vector.ofFn fun i => e.at_ i.val + f.at_ i.val

/-- A cause of an MSI-X vector (14 R400): the vector is signalled when its bit goes from 0 to 1. -/
def State.cause (s : State) (n : Nat) : State :=
  if s.mgmt.cause.getLsbD n then s
  else { s with mgmt := { s.mgmt with cause := s.mgmt.cause ||| BitVec.twoPow 8 n }, out := s.out ++ [.vector n] }

/-- A kernel restart or a live update is under way (13 R393, 14 R410). -/
def State.kernelBusy (s : State) : Bool := s.mgmt.restarting || s.mgmt.update.isSome

/-- The resident kernel answers nothing now: it restarts, or a live update is under way (14 R411), or it does not run in safelight mode
(R407). -/
def State.kernelDown (s : State) : Bool := s.kernelBusy || s.mgmt.boot == .safelight

/-- A fault recorded as raised, to be taken at an instruction boundary (12 R356). -/
def Ctx.raise (k : Ctx) (f : PendFault) : Ctx := k.setLt { k.lt with faults := k.lt.faults ++ [f] }

/-- A missed promise recorded (10 R306): those of one stream are taken in the issue order of their commands. -/
def Ctx.raiseMiss (k : Ctx) (f : PendFault) : Ctx :=
  let later (g : PendFault) : Bool := g.code == 0x0D && g.strm == f.strm && decide (f.ord < g.ord)
  k.setLt { k.lt with faults := k.lt.faults.takeWhile (fun g => !(later g)) ++ f :: k.lt.faults.dropWhile fun g => !(later g) }

/-- The record of an asynchronous fault. -/
def asyncFault (st : Strm) (code : Nat) (info : Word) (tag slot : Nat) (cycle : Nat) : PendFault :=
  ⟨st, code, false, true, 0, info, tag, slot, 0, false, 0, cycle, none, [], 0⟩

/-- Class `c` of events added in this cycle (06 R210 steps 3 and 4): the context, whether a trap and whether the host's
interrupt follow. -/
def SysRegs.addEvents (r : SysRegs) (cycle c n : Nat) : SysRegs × Bool × Bool :=
  if n = 0 then (r, false, false) else
  let old := (r.evcnt[c]?.getD 0).toNat
  let new := Nat.min (old + n) (2 ^ 32 - 1)
  let thr := (r.evthr[c]?.getD 0).toNat
  let open_ := match r.evopen[c]?.getD none with
    | some t => some t
    | none => some cycle
  let r := { r with evcnt := r.evcnt.setIfInBounds c (BitVec.ofNat 32 new), evopen := r.evopen.setIfInBounds c open_ }
  let crosses := decide (old ≤ thr) && decide (thr < new) && !(r.evstat.getLsbD c)
  if crosses then
    let act := wbits r.evctl (2 * c + 1) (2 * c)
    ({ r with evstat := r.evstat ||| BitVec.twoPow 64 c }, act % 2 == 1, 2 ≤ act)
  else (r, false, false)

/-- Events added to the system registers in one cycle: the registers, whether a trap and whether the host's interrupt follow. -/
def SysRegs.addAll (r : SysRegs) (cycle : Nat) (e : Events) : SysRegs × Bool × Bool :=
  (List.range 8).foldl (fun acc c =>
    let (r, t, h) := acc.1.addEvents cycle c (e.at_ c)
    (r, acc.2.1 || t, acc.2.2 || h)) (r, false, false)

/-- Events added to a context: several classes that cross in one cycle raise one trap (06 R211). -/
def Ctx.addEvents (k : Ctx) (cycle : Nat) (e : Events) : Ctx :=
  let (r, t, _) := k.lt.sys.addAll cycle e
  if t && r.evtrap != some cycle then (k.setSys { r with evtrap := some cycle }).raise (asyncFault .x 0x10 0 0 0 cycle) else k.setSys r

/-- The events of a completed instruction or operation of issue order `ord` added to a context (06 R208-R211). -/
def State.addEvents (s : State) (id : Nat) (ord : Nat) (e : Events) : State :=
  match s.ctx id with
  | none => s
  | some k =>
    if e = Events.zero then s else
    let s' := s.setCtx id (k.upd ord fun k => k.addEvents s.cycle e)
    if (k.lt.sys.addAll s.cycle e).2.2 then s'.cause 2 else s'

/-- Step 1 of 06 R210 for class `c`: the window has been open for win cycles or more. -/
def SysRegs.windowDue (r : SysRegs) (cycle c : Nat) : Bool :=
  let win := (r.evwin[c]?.getD 0).toNat
  match r.evopen[c]?.getD none with
  | some t => win != 0 && t + win ≤ cycle
  | none => false

/-- A free value drawn: it, and the state with the next number to draw. -/
def State.draw (s : State) : Nat × State := (Config.freeNat s.free, { s with free := s.free + 1 })

/-! Partitions -/

/-- The size in bytes of a context's partition (05 R144). -/
def Ctx.spSize (k : Ctx) : Nat := wbits k.lt.sys.spsize 21 12 * 4096

/-- The physical base of a context's partition (05 R144). -/
def Ctx.spBase (k : Ctx) : Nat := wbits k.lt.sys.spbase 20 12 * 4096

/-- The first physical unit and the number of units of a context's accumulator run (07 R215). -/
def Ctx.accBase (k : Ctx) : Nat := wbits k.lt.sys.accset 2 0

/-- The number of units of a context's accumulator run (07 R215). -/
def Ctx.accCnt (k : Ctx) : Nat := wbits k.lt.sys.accset 6 3

/-- The units of the boundary buffer (08 R251). -/
def Ctx.bndUnits (k : Ctx) : Nat := wbits k.lt.sys.bndcap 3 0

/-- The forced-save bound (12 R369, R370). -/
def Ctx.fsBound (k : Ctx) : Nat :=
  let b := 0x29000 + k.accCnt * 0x10000 + k.spSize + wbits k.lt.sys.ctxarea 15 0 * 16
  4608 + 1048576 + (b + 127) / 128

/-! Taking an exception and returning from one (12 R356-R361) -/

/-- The queue without its first lane. -/
def dropLane : List QItem → List QItem
  | [] => []
  | .mark m :: rest => .mark m :: dropLane rest
  | .lane _ :: rest => rest

/-- The first lane of a queue. -/
def headLane : List QItem → Option Lane
  | [] => none
  | .mark _ :: rest => headLane rest
  | .lane l :: _ => some l

/-- The lanes a queue holds, a continuation counting as one lane (02 R38). -/
def laneCount : List QItem → Nat
  | [] => 0
  | .mark _ :: rest => laneCount rest
  | .lane l :: rest => (if l.cont.isSome then 2 else 1) + laneCount rest

/-- The byte address of the next word of a stream (12 R356): its next lane, or the next line of C's path when none has been
delivered. -/
def Ctx.nextWord (k : Ctx) (st : Strm) : Nat :=
  match headLane (k.strm st).queue with
  | some l => l.addr
  | none => k.lt.next.getD (k.lt.line + 32)

/-- The codes a tenant handler may take (12 R355). -/
def tenantCode (code : Nat) : Bool :=
  code == 0x09 || code == 0x0B || code == 0x0D || code == 0x10 || code == 0x19 || code == 0x1C || code == 0x1D

/-- Whether the tenant handler takes a fault of this code (12 R357). -/
def Ctx.handlerTakes (k : Ctx) (code : Nat) : Bool :=
  tenantCode code && k.lt.sys.tvec.getLsbD 0 && k.lt.frame.isNone

/-- Whether a pending fault may be taken now: a synchronous fault always is; an asynchronous fault of a context in its handler
stays pending until ERET, except for 0x11 (12 R357). -/
def Ctx.takeable (k : Ctx) (f : PendFault) : Bool :=
  f.sync || k.lt.frame.isNone || f.code == 0x11

/-- The fault that is taken: C's first, then L's, X's and S's, in posting order within a stream (12 R356). -/
def Ctx.nextFault (k : Ctx) : Option PendFault :=
  Strm.all.findSome? fun st => k.lt.faults.find? fun f => f.strm == st && k.takeable f

/-- sys.tcause, sys.tpc, sys.tinfo0 and sys.tinfo1 as a fault sets them (12 R359): of a synchronous fault the repetition that raised it,
of an asynchronous one the repetition that the stream's next word is (03 R89). `tin`: whether the tenant handler runs then. -/
def Ctx.trapRegs (k : Ctx) (f : PendFault) (tin : Bool) : SysRegs :=
  let rep := if f.sync then f.rep else (k.strm f.strm).rep.map (·.k)
  let ri := rep.getD 0
  { k.lt.sys with
    tcause := BitVec.ofNat 64 (f.code % 256 + f.strm.num * 2 ^ 8 + (if f.sync then 2 ^ 10 else 0) + (if tin then 2 ^ 11 else 0) +
      (if rep.isSome then 2 ^ 12 else 0) + ri * 2 ^ 13)
    tpc := BitVec.ofNat 64 ((if f.sync then f.pc else k.nextWord f.strm) % 2 ^ 48)
    tinfo0 := f.info
    tinfo1 := BitVec.ofNat 64 (f.tag % 2 ^ 8 + f.slot % 2 ^ 6 * 2 ^ 8 + f.lvl % 4 * 2 ^ 14 + (if f.wk then 2 ^ 16 else 0) +
      f.k % 2 ^ 32 * 2 ^ 32) }

/-- A VOTE whose target has not issued goes back to the head of C's queue: a trap or pre-emption never falls between them
(04 R137). Not where the line that holds the target faults at its entry, after the VOTE has issued: the VOTE then stays issued, in the trap
frame [64]. -/
def StreamState.unvote (ss : StreamState) : StreamState :=
  match ss.vote with
  | some l => { ss with vote := none, queue := .lane l :: ss.queue }
  | none => ss

/-- Trap entry to the tenant handler (12 R358 steps 3 to 5), once every result has landed: the frame is saved, the pipes,
counters and queues are emptied, the trap registers written with tin set, and C's path continues at the handler's line in a
new frame. Faults that were raised by an instruction and are not taken are dropped: the instruction raises them again; but the fault of
a marked entry stays, since the entry has been popped (11 R341). A VOTE whose target itself faults stays issued, and the target is issued
again under it: the model's choice [64]. -/
def Ctx.enterHandler (k : Ctx) (f : PendFault) : Ctx :=
  let k := if f.sync && f.strm == .c then k else k.setStrm .c (k.strm .c).unvote
  let l := k.lt
  let r := k.trapRegs f true
  let per {α : Type} (g : StreamState → α) : Vector α 4 := #v[g l.c, g l.l, g l.x, g l.s]
  let frame : TrapFrame := {
    q := per (·.q), p := per (·.p), queues := per (·.queue), reps := per (·.rep), votes := per (·.vote), waits := per (·.wait),
    frames := per (·.frame), views := per (·.views), pipes := l.pipes, ctrs := l.ctrs, line := l.line, next := l.next, depth := l.depth,
    strm := f.strm, sync := f.sync, byInstr := !f.skip, ord := l.ord
    bad := l.bad.filter (·.framed) }
  let into (ss : StreamState) : StreamState :=
    { ss with queue := [], rep := none, vote := none, wait := none, frame := ⟨l.depth, true⟩ }
  k.setLt { l with
    c := into l.c, l := into l.l, x := into l.x, s := into l.s
    pipes := Vector.replicate 6 []
    ctrs := Vector.replicate 4 ⟨0, 0⟩
    next := some (wbits l.sys.tvec 47 5 * 32)
    sys := r
    bad := l.bad.filter fun p => match p with
      | .pipe .. => false
      | _ => true
    frame := some frame
    faults := l.faults.filter fun g => (!g.sync || g.code == 0x12 || (g.skip && g.code == 0x13)) && g != f }

/-- The courier commands that paused at a missing translation, once the trap that each raised has been taken (10 R317): they go on. -/
def Ctx.resumeCmds (k : Ctx) : Ctx :=
  { k with cmds := k.cmds.map fun c =>
      if c.paused && !(k.lt.faults.any fun f => f.code == 0x09 && !f.sync && f.strm == c.strm && f.tag == c.tag && f.slot == c.slot)
      then { c with paused := false } else c }

/-- What a stream has of a loop level after a handler (04 R125): the level that it was in as the handler was entered, where the handler has
declared the number anew; else the level as it stands. -/
def levelBack (saved now : Option Lvl) : Option Lvl :=
  match saved, now with
  | some a, some b => some (if a.ord = b.ord then b else a)
  | a, _ => a

/-- The effect of ERET once every result has landed (12 R361): the frame comes back, with the tokens completed into it, tin
is cleared, and with skip a fault that an instruction raised resumes after that instruction: R361 and 03 R89 do not say whether a skipped
repetition of a REP leaves the others, and the model skips them all [63]. What comes back is what was saved, also where software has since
written the trap frame's bytes in memory: R361 does not say which [17]. -/
def Ctx.leaveHandler (k : Ctx) (skip : Bool) : Ctx :=
  let l := k.lt
  match l.frame with
  | none => k
  | some f =>
    let back (st : Strm) (ss : StreamState) : StreamState :=
      let n := st.num
      let ss := { ss with
        q := f.q[n]?.getD ss.q, p := f.p[n]?.getD ss.p, queue := f.queues[n]?.getD [], rep := f.reps[n]?.getD none,
        vote := f.votes[n]?.getD none, wait := f.waits[n]?.getD none, frame := f.frames[n]?.getD Frame.start
        views := (f.views[n]?.getD ss.views).zipWith levelBack ss.views }
      if skip && f.sync && f.byInstr && f.strm == st then { ss with queue := dropLane ss.queue, rep := none, vote := none } else ss
    (k.setLt { l with
      c := back .c l.c, l := back .l l.l, x := back .x l.x, s := back .s l.s
      pipes := f.pipes
      ctrs := f.ctrs
      line := f.line
      next := f.next
      sys := { l.sys with tcause := l.sys.tcause &&& ~~~(BitVec.twoPow 64 11) }
      bad := l.bad.filter (fun p => !p.framed) ++ f.bad
      frame := none }).resumeCmds

/-- The grade that the resident kernel reports with a code (12 R355); 0x12 and 0x13 carry S where nothing else is said
(R360). -/
def gradeOf (code : Nat) : Option Char :=
  if code = 0x12 ∨ code = 0x13 ∨ code = 0x1B then some 'S'
  else if code = 0x18 then some 'E'
  else if code = 0x17 ∨ code = 0x1C then none
  else some 'P'

/-- The place that hardware reports of a context name (01 R20): where it stands, or stood last. -/
def Ctx.placeOf (k : Ctx) (id : Nat) : Nat := if id < 768 then id else k.place

/-- The end of a context (01 R27, 12 R360): it issues nothing more, its operations in flight run on, its courier commands among them, paused
ones too (10 R318), and the kernel reports the code, grade, place and trap registers. -/
def State.endCtx (s : State) (id : Nat) (k : Ctx) (code : Nat) (grade : Option Char) (status : Option W32) : State :=
  let r := k.lt.sys
  let rep : Report := ⟨k.placeOf id, code, grade, status, s.cycle, r.tcause, r.tpc, r.tinfo0, r.tinfo1⟩
  let s := { s.setCtx id { k with res := .ended, notice := none, cmds := k.cmds.map fun c => { c with paused := false } } with reports := s.reports ++ [rep] }
  if grade = some 'S' ∨ grade = some 'E' then s.cause 6 else s

end Sys2Proof.Machine
end

