-- ==== Sys2Proof/Machine/Flags.lean ====
section
/-! DEFINITION. Number formats, exact values, rounding, and every event (flag) computation (06): one rounding operation for all
float formats and modes, the W48 format, and the exact arithmetic under them. -/

namespace Sys2Proof.Machine

open Sys2Proof

/-- An exact value: NaN, an infinity, or (-1)^neg × m × 2^e, whose zero has a sign. -/
inductive Ex where
  | nan
  | inf (neg : Bool)
  | fin (neg : Bool) (m : Nat) (e : Int)
  deriving DecidableEq, Repr, Inhabited

/-- A float format (06 R182): exponent and fraction width, bias, and whether it holds infinities. -/
structure Fmt where
  ew   : Nat
  fw   : Nat
  bias : Nat
  hasInf : Bool
  deriving DecidableEq, Repr

/-- FP32. -/
def fp32 : Fmt := ⟨8, 23, 127, true⟩

/-- BF16. -/
def bf16 : Fmt := ⟨8, 7, 127, true⟩

/-- FP16. -/
def fp16 : Fmt := ⟨5, 10, 15, true⟩

/-- E4M3, which has no infinity (06 R184). -/
def e4m3 : Fmt := ⟨4, 3, 7, false⟩

/-- E5M2. -/
def e5m2 : Fmt := ⟨5, 2, 15, true⟩

/-- The float format of a type code (06 R182). -/
def fmtOf : Nat → Option Fmt
  | 0 => some fp32
  | 1 => some bf16
  | 2 => some fp16
  | 3 => some e4m3
  | 4 => some e5m2
  | _ => none

/-- The width of a format's encodings. -/
def Fmt.width (f : Fmt) : Nat := 1 + f.ew + f.fw

/-- The canonical NaN (06 R182). -/
def Fmt.nan (f : Fmt) : Nat :=
  if f.hasInf then (2 ^ f.ew - 1) * 2 ^ f.fw + 2 ^ (f.fw - 1) else 2 ^ (f.ew + f.fw) - 1

/-- The exponent of the smallest normal value. -/
def Fmt.emin (f : Fmt) : Int := 1 - (f.bias : Int)

/-- The largest finite encoding without its sign. -/
def Fmt.maxEnc (f : Fmt) : Nat := if f.hasInf then (2 ^ f.ew - 1) * 2 ^ f.fw - 1 else 2 ^ (f.ew + f.fw) - 2

/-- The value of an encoding (06 R183, R184). -/
def Fmt.decode (f : Fmt) (enc : Nat) : Ex :=
  let neg := bit enc (f.ew + f.fw)
  let x := enc / 2 ^ f.fw % 2 ^ f.ew
  let fr := enc % 2 ^ f.fw
  if f.hasInf && x == 2 ^ f.ew - 1 then (if fr = 0 then .inf neg else .nan)
  else if !f.hasInf && enc % 2 ^ (f.ew + f.fw) == 2 ^ (f.ew + f.fw) - 1 then .nan
  else if x = 0 then .fin neg fr (f.emin - f.fw)
  else .fin neg (2 ^ f.fw + fr) ((x : Int) - f.bias - f.fw)

/-- Whether an exact value is a subnormal of the format. -/
def Fmt.subnormal (f : Fmt) (enc : Nat) : Bool := enc / 2 ^ f.fw % 2 ^ f.ew == 0 && enc % 2 ^ f.fw != 0

/-- The rounding modes (06 R189). -/
inductive RM where
  | rne | rtz | rup | rdn
  deriving DecidableEq, Repr

/-- The mode that sys.fpctl's rm field names (06 R193). -/
def RM.byNumber : Nat → RM
  | 0 => .rne
  | 1 => .rtz
  | 2 => .rup
  | _ => .rdn

/-- Bits a number has. -/
def bitLen (m : Nat) : Nat := if m = 0 then 0 else Nat.log2 m + 1

/-- The multiple of 2^q to which a mode rounds m × 2^e plus a nonzero rest below it where `sticky` is set, and whether anything
was lost (06 R189). -/
def roundAt (mode : RM) (neg : Bool) (m : Nat) (e : Int) (sticky : Bool) (q : Int) : Nat × Bool :=
  let (k, r, half) : Nat × Nat × Nat :=
    if q ≤ e then (m * 2 ^ (e - q).toNat, 0, 1)
    else
      let d := (q - e).toNat
      (m / 2 ^ d, 2 * (m % 2 ^ d), 2 ^ d)
  let lost := r != 0 || sticky
  let up := match mode with
    | .rne => decide (half < r) || (r == half && (sticky || k % 2 == 1))
    | .rtz => false
    | .rup => !neg && lost
    | .rdn => neg && lost
  (if up then k + 1 else k, lost)

/-! Event classes (06 R207) as bits of one element's events (R208) -/

def evInvalid : BitVec 8 := 1
def evOverflow : BitVec 8 := 2
def evUnderflow : BitVec 8 := 4
def evInexact : BitVec 8 := 8
def evSaturation : BitVec 8 := 16
def evBook : BitVec 8 := 32
def evCordic : BitVec 8 := 64
def evNan : BitVec 8 := 128

/-- Events where a condition holds. -/
def evIf (c : Bool) (e : BitVec 8) : BitVec 8 := if c then e else 0

/-- The encoding that a value rounds to, and its events (06 R189-R191, R195): `sticky` adds a nonzero rest below m × 2^e; `sat`
saturates instead of overflowing (R190). An infinity is exact where the format holds it and `sat` is off; where it does not, it counts overflow
alone, as R167 has it for VCVT: for VDEQ of an infinite CB4 value into E4M3, where R178 and R190 leave open whether inexact counts too, that is
the model's choice [39]. -/
def Fmt.round (f : Fmt) (mode : RM) (flush sat : Bool) (x : Ex) (sticky : Bool) : Nat × BitVec 8 :=
  let sign (neg : Bool) (enc : Nat) : Nat := if neg then enc + 2 ^ (f.ew + f.fw) else enc
  match x with
  | .nan => (f.nan, 0)
  | .inf neg =>
    if sat then (sign neg f.maxEnc, evSaturation)
    else if f.hasInf then (sign neg ((2 ^ f.ew - 1) * 2 ^ f.fw), 0) else (f.nan, evOverflow)
  | .fin neg m e =>
    if m = 0 ∧ !sticky then (sign neg 0, 0) else
    let top := e + bitLen m
    let q := top - (f.fw + 1)
    let qs : Int := if q < f.emin - f.fw then f.emin - f.fw else q
    let (ku, _) := roundAt mode neg m e sticky q
    let tiny := decide (q + bitLen ku ≤ f.emin)
    let (k, lost) := roundAt mode neg m e sticky qs
    let (k, qs) : Nat × Int := if k = 2 ^ (f.fw + 1) then (2 ^ f.fw, qs + 1) else (k, qs)
    let enc := if k < 2 ^ f.fw then k else ((qs + f.fw + f.bias).toNat) * 2 ^ f.fw + (k - 2 ^ f.fw)
    if f.maxEnc < enc then
      if sat then (sign neg f.maxEnc, evSaturation)
      else ((if f.hasInf then sign neg ((2 ^ f.ew - 1) * 2 ^ f.fw) else f.nan), evOverflow ||| evInexact)
    else if flush && tiny then (sign neg 0, evUnderflow ||| evInexact)
    else (sign neg enc, evIf lost evInexact ||| evIf (lost && tiny) evUnderflow)

/-- An element read as a value, under flush (06 R185, R195): its value and whether it is a NaN. -/
def Fmt.read (f : Fmt) (flush : Bool) (enc : Nat) : Ex × BitVec 8 :=
  match f.decode enc with
  | .nan => (.nan, evNan)
  | .fin neg m e => if flush && f.subnormal enc then (.fin neg 0 e, 0) else (.fin neg m e, 0)
  | x => (x, 0)

/-! Exact arithmetic -/

/-- The negated value. -/
def Ex.neg : Ex → Ex
  | .nan => .nan
  | .inf n => .inf (!n)
  | .fin n m e => .fin (!n) m e

/-- The magnitude. -/
def Ex.abs : Ex → Ex
  | .nan => .nan
  | .inf _ => .inf false
  | .fin _ m e => .fin false m e

/-- Whether a value is zero. -/
def Ex.isZero : Ex → Bool
  | .fin _ m _ => m == 0
  | _ => false

/-- Whether a value is a NaN. -/
def Ex.isNan : Ex → Bool
  | .nan => true
  | _ => false

/-- Whether a value is an infinity. -/
def Ex.isInf : Ex → Bool
  | .inf _ => true
  | _ => false

/-- The sign. -/
def Ex.sign : Ex → Bool
  | .nan => false
  | .inf n => n
  | .fin n _ _ => n

/-- m × 2^e as an integer multiple of 2^b, for b ≤ e. -/
def scaled (neg : Bool) (m : Nat) (e b : Int) : Int :=
  let v : Int := m * 2 ^ (e - b).toNat
  if neg then -v else v

/-- The exact sum, with the zero signs of 06 R192 (`rdn`: the mode is RDN), and whether the addition is invalid. -/
def Ex.add (rdn : Bool) (a b : Ex) : Ex × Bool :=
  match a, b with
  | .nan, _ => (.nan, false)
  | _, .nan => (.nan, false)
  | .inf x, .inf y => if x == y then (.inf x, false) else (.nan, true)
  | .inf x, _ => (.inf x, false)
  | _, .inf y => (.inf y, false)
  | .fin n1 m1 e1, .fin n2 m2 e2 =>
    let b : Int := if e1 ≤ e2 then e1 else e2
    let s := scaled n1 m1 e1 b + scaled n2 m2 e2 b
    if s = 0 then (.fin (if n1 == n2 then n1 else rdn) 0 b, false)
    else (.fin (decide (s < 0)) s.natAbs b, false)

/-- The exact product, and whether it is invalid. -/
def Ex.mul (a b : Ex) : Ex × Bool :=
  match a, b with
  | .nan, _ => (.nan, false)
  | _, .nan => (.nan, false)
  | .inf x, .inf y => (.inf (x != y), false)
  | .inf x, .fin n m _ => if m = 0 then (.nan, true) else (.inf (x != n), false)
  | .fin n m _, .inf y => if m = 0 then (.nan, true) else (.inf (n != y), false)
  | .fin n1 m1 e1, .fin n2 m2 e2 => (.fin (n1 != n2) (m1 * m2) (e1 + e2), false)

/-- The quotient to more bits than any format holds, whether a rest is left, and the events of the division itself (06 R163):
invalid for 0/0 and ∞/∞, the overflow class for a nonzero finite value by zero. -/
def Ex.div (a b : Ex) : Ex × Bool × BitVec 8 :=
  match a, b with
  | .nan, _ => (.nan, false, 0)
  | _, .nan => (.nan, false, 0)
  | .inf _, .inf _ => (.nan, false, evInvalid)
  | .inf x, .fin n _ _ => (.inf (x != n), false, 0)
  | .fin n _ _, .inf y => (.fin (n != y) 0 0, false, 0)
  | .fin n1 m1 e1, .fin n2 m2 e2 =>
    if m2 = 0 then (if m1 = 0 then (.nan, false, evInvalid) else (.inf (n1 != n2), false, evOverflow))
    else if m1 = 0 then (.fin (n1 != n2) 0 0, false, 0)
    else
      let k := 64 + bitLen m2
      (.fin (n1 != n2) (m1 * 2 ^ k / m2) (e1 - e2 - k), m1 * 2 ^ k % m2 != 0, 0)

/-- The integer square root, by bits from `2^j` down. -/
def isqrtFrom : Nat → Nat → Nat → Nat
  | 0, _, r => r
  | j + 1, n, r => let t := r + 2 ^ j; isqrtFrom j n (if t * t ≤ n then t else r)

/-- The integer square root. -/
def isqrt (n : Nat) : Nat := isqrtFrom (bitLen n / 2 + 1) n 0

/-- 1 / √x to more bits than any format holds, whether a rest is left, and its events (05 R166, VRSQ). -/
def Ex.rsqrt (a : Ex) : Ex × Bool × BitVec 8 :=
  match a with
  | .nan => (.nan, false, 0)
  | .inf false => (.fin false 0 0, false, 0)
  | .inf true => (.nan, false, evInvalid)
  | .fin n m e =>
    if m = 0 then (.inf n, false, evOverflow)
    else if n then (.nan, false, evInvalid)
    else
      let (m, e) : Nat × Int := if e % 2 = 0 then (m, e) else (2 * m, e - 1)
      let t := bitLen m + 64
      let z := 2 ^ (2 * t) / m
      let r := isqrt z
      (.fin false r (-(t : Int) - e / 2), r * r * m != 2 ^ (2 * t), 0)

/-- Whether a is less than b, neither being a NaN; -0 equals +0. -/
def Ex.lt (a b : Ex) : Bool :=
  match a, b with
  | .nan, _ => false
  | _, .nan => false
  | .inf x, .inf y => x && !y
  | .inf x, .fin _ _ _ => x
  | .fin _ _ _, .inf y => !y
  | .fin n1 m1 e1, .fin n2 m2 e2 =>
    let b : Int := if e1 ≤ e2 then e1 else e2
    decide (scaled n1 m1 e1 b < scaled n2 m2 e2 b)

/-- Whether a equals b as values, neither being a NaN. -/
def Ex.eq (a b : Ex) : Bool :=
  match a, b with
  | .nan, _ => false
  | _, .nan => false
  | .inf x, .inf y => x == y
  | .inf _, .fin _ _ _ => false
  | .fin _ _ _, .inf _ => false
  | .fin n1 m1 e1, .fin n2 m2 e2 =>
    let b : Int := if e1 ≤ e2 then e1 else e2
    decide (scaled n1 m1 e1 b = scaled n2 m2 e2 b)

/-- An integer as an exact value. -/
def Ex.ofInt (i : Int) : Ex := .fin (decide (i < 0)) i.natAbs 0

/-- The integer to which a mode rounds a finite value, and whether the value changed. -/
def Ex.toInt (mode : RM) (neg : Bool) (m : Nat) (e : Int) : Int × Bool :=
  let (k, lost) := roundAt mode neg m e false 0
  (if neg then -(k : Int) else k, lost)

/-- Rounding to W48, to nearest even (06 R196): the value, and whether it changed. The least magnitude is that of the subnormal 2^-557;
above the greatest finite value it is an infinity. R197 says that matrix arithmetic stays in the normal range; products of two CB4 values
and their sums can leave it, and then take what this function gives, a node that passes the range counting inexact alone [58]. -/
def w48 (x : Ex) : Ex × Bool :=
  match x with
  | .fin neg m e =>
    if m = 0 then (x, false) else
    let q : Int := max (e + bitLen m - 48) (-557)
    let (k, lost) := if q ≤ e then (m, false) else roundAt .rne neg m e false q
    let q := max q e
    if 511 < q + bitLen k - 1 then (.inf neg, true)
    else (.fin neg k q, lost)
  | x => (x, false)

/-- A product rounded to W48 (08 R258): one below the normal range is a zero, never a subnormal. -/
def w48Product (x : Ex) : Ex × Bool :=
  match w48 x with
  | (.fin neg m e, lost) => if e + bitLen m - 1 < -510 then (.fin neg 0 0, m != 0 || lost) else (.fin neg m e, lost)
  | r => r

/-- One level of the pairwise tree (05 R168, 06 R198): adjacent values added and rounded to W48; a last unpaired value passes
up. The events of the nodes: invalid, and inexact where a node rounds (R447), be it to an infinity [58]. -/
def pairUp : List Ex → List Ex × Bool × Bool
  | a :: b :: rest =>
    let (s, inv) := Ex.add false a b
    let (w, lost) := w48 s
    let (l, i, x) := pairUp rest
    (w :: l, inv || i, lost || x)
  | l => (l, false, false)

/-- The pairwise sum by levels: the value, invalid, inexact. Fuel: the number of levels. -/
def pairSum : Nat → List Ex → Ex × Bool × Bool
  | _, [] => (.fin false 0 0, false, false)
  | _, [a] => (a, false, false)
  | 0, a :: _ => (a, false, false)
  | n + 1, l =>
    let (l', i, x) := pairUp l
    let (v, i', x') := pairSum n l'
    (v, i || i', x || x')

/-! Integer types -/

/-- Bits of an element of a type (05 R147). -/
def typeBits : Nat → Nat
  | 0 => 32
  | 1 => 16
  | 2 => 16
  | 3 => 8
  | 4 => 8
  | 5 => 8
  | 6 => 8
  | 7 => 4
  | 8 => 2
  | 9 => 4
  | 10 => 32
  | _ => 16

/-- The range of an integer type, INT4 or TERN (06 R186, 05 R167). -/
def intRange : Nat → Int × Int
  | 5 => (-128, 127)
  | 6 => (0, 255)
  | 7 => (-8, 7)
  | 8 => (-1, 1)
  | 10 => (-2147483648, 2147483647)
  | _ => (-32768, 32767)

/-- Whether a type is a float type. -/
def isFloat (ty : Nat) : Bool := decide (ty ≤ 4)

/-- Whether a type is a computing type (05 R147). -/
def isComputing (ty : Nat) : Bool := ty ≤ 2 || ty == 5 || ty == 6 || ty == 10 || ty == 11

/-- Whether a type is a computing integer type. -/
def isCompInt (ty : Nat) : Bool := ty == 5 || ty == 6 || ty == 10 || ty == 11

/-- The integer that an encoding of an integer type, INT4 or TERN holds; TERN's 0b10 is 0 and invalid (06 R186, R187). -/
def intOf (ty enc : Nat) : Int × BitVec 8 :=
  match ty with
  | 6 => ((enc % 256 : Nat), 0)
  | 8 => (if enc % 4 = 1 then 1 else if enc % 4 = 3 then -1 else 0, evIf (enc % 4 == 2) evInvalid)
  | _ => (sextN enc (typeBits ty), 0)

/-- The encoding of an integer in a type of this width, wrapped. -/
def encInt (ty : Nat) (i : Int) : Nat := (i.emod (2 ^ typeBits ty)).toNat

/-- An integer clamped to a type's range, and whether it was. -/
def clampInt (ty : Nat) (i : Int) : Int × Bool :=
  let (lo, hi) := intRange ty
  if i < lo then (lo, true) else if hi < i then (hi, true) else (i, false)

/-- Conversion of one element from its exact value (05 R167, 07 R239): a float destination rounds under `mode`; an integer,
INT4 or TERN destination rounds to an integer and clamps. `src`: the events of reading the source. -/
def convert (dty : Nat) (mode : RM) (flush sat : Bool) (x : Ex) (src : BitVec 8) : Nat × BitVec 8 :=
  match fmtOf dty with
  | some f =>
    let (enc, ev) := f.round mode flush sat x false
    (enc, ev ||| src)
  | none =>
    match x with
    | .nan => (encInt dty 0, src ||| evInvalid)
    | .inf neg => (encInt dty (if neg then (intRange dty).1 else (intRange dty).2), src ||| evSaturation)
    | .fin neg m e =>
      let (i, lost) := Ex.toInt mode neg m e
      let (j, cl) := clampInt dty i
      (encInt dty j, src ||| (if cl then evSaturation else evIf lost evInexact))

/-- The exact value of an element of any type but CB4, and the events of reading it. -/
def elemValue (ty : Nat) (flush : Bool) (enc : Nat) : Ex × BitVec 8 :=
  match fmtOf ty with
  | some f => f.read flush enc
  | none => let (i, ev) := intOf ty enc; (Ex.ofInt i, ev)

end Sys2Proof.Machine
end

