-- ==== Sys2Proof/WellFormed.lean ====
section
/-! DEFINITION. Which field values of an instruction are legal in the stream that issues it (02 R44, R49, R50, R56 to R60
and each instruction's own rule): the checks that need no register value. An instruction that fails one raises illegal
instruction (0x02) when it issues (02 R66). -/

namespace Sys2Proof

/-- Whether a specifier may stand as a source in a stream: every value, but 29 only where a second in-pipe exists (02 R49,
R50). -/
def srcOk (st : Strm) (v : Spec) : Bool := v != 29 || st == .c || st == .x

/-- Whether a specifier may stand as a destination (02 R49, R50): 0, o0 to o7, the out-pipes the stream has, g0 to g31. -/
def dstOk (st : Strm) (v : Spec) : Bool :=
  v == 0 || (16 ≤ v.toNat && v.toNat ≤ 23) || v == 28 || (v == 29 && (st == .c || st == .x)) || 32 ≤ v.toNat

/-- o0 to o7 or g0 to g31: a destination that is also read (03 R95, R96, R103), and what REP may step (R87). -/
def regOk (v : Spec) : Bool := (16 ≤ v.toNat && v.toNat ≤ 23) || 32 ≤ v.toNat

/-- g0 to g30: the first of a pair (02 R60). -/
def pairOk (v : Spec) : Bool := 32 ≤ v.toNat && v.toNat ≤ 62

/-- g0 to g29: the first of three (09 R270). -/
def tripleOk (v : Spec) : Bool := 32 ≤ v.toNat && v.toNat ≤ 61

/-- L has no previous neighbour and S no next one; C has no token bits (02 R44). -/
def tokOk (st : Strm) (t : Tok) : Bool :=
  match st with
  | .c => false
  | .l => !(t.getLsbD 3) && !(t.getLsbD 1)
  | .x => true
  | .s => !(t.getLsbD 2) && !(t.getLsbD 0)

/-- The selectors of LCTL that are not reserved and not rsbot (04 R126). -/
def selOk (n : Nat) : Bool := n ≤ 2 || (4 ≤ n && n ≤ 6) || (8 ≤ n && n ≤ 10) || n == 12 || n == 14 || (16 ≤ n && n ≤ 27)

/-- The system register numbers of 12 R363. -/
def sysOk (n : Nat) : Bool :=
  n ≤ 3 || (0x008 ≤ n && n ≤ 0x00E) || (0x010 ≤ n && n ≤ 0x049) || (0x04C ≤ n && n ≤ 0x054) || (0x056 ≤ n && n ≤ 0x059) ||
  (0x060 ≤ n && n ≤ 0x066) || (0x080 ≤ n && n ≤ 0x09F) || (0x0C0 ≤ n && n ≤ 0x0FF)

/-- The registers whose WRSYS word has a row of its own in spec/opcode_table.json; the rows "Kernel write of ..." are the
kernel's steps, and a kernel-level context's word of those registers is `wrsys` [21]. -/
def sysOwnRow (n : Nat) : Bool :=
  n == 0x00B || n == 0x065 || n == 0x049 || (0x020 ≤ n && n ≤ 0x02F) || (0x030 ≤ n && n ≤ 0x037) ||
  (0x04C ≤ n && n ≤ 0x04F) || (0x080 ≤ n && n ≤ 0x09F)

/-- The byte types (05 R147, 09 R292). -/
def byteTy (ty : Nat) : Bool := ty ≤ 6 || ty == 10 || ty == 11

/-- Whether stream `st` may issue this instruction with these fields. A step that is no word of a stream is none. -/
def Instr.wf (st : Strm) : Instr → Bool
  | .add d a b => st == .c && dstOk st d && srcOk st a && srcOk st b
  | .sub d a b => st == .c && dstOk st d && srcOk st a && srcOk st b
  | .mul d a b => st == .c && dstOk st d && srcOk st a && srcOk st b
  | .mulh d a b => st == .c && dstOk st d && srcOk st a && srcOk st b
  | .mulhu d a b => st == .c && dstOk st d && srcOk st a && srcOk st b
  | .div d a b => st == .c && dstOk st d && srcOk st a && srcOk st b
  | .divu d a b => st == .c && dstOk st d && srcOk st a && srcOk st b
  | .rem d a b => st == .c && dstOk st d && srcOk st a && srcOk st b
  | .remu d a b => st == .c && dstOk st d && srcOk st a && srcOk st b
  | .and d a b => st == .c && dstOk st d && srcOk st a && srcOk st b
  | .or d a b => st == .c && dstOk st d && srcOk st a && srcOk st b
  | .xor d a b => st == .c && dstOk st d && srcOk st a && srcOk st b
  | .andn d a b => st == .c && dstOk st d && srcOk st a && srcOk st b
  | .shl d a b => st == .c && dstOk st d && srcOk st a && srcOk st b
  | .shr d a b => st == .c && dstOk st d && srcOk st a && srcOk st b
  | .sar d a b => st == .c && dstOk st d && srcOk st a && srcOk st b
  | .rol d a b => st == .c && dstOk st d && srcOk st a && srcOk st b
  | .ror d a b => st == .c && dstOk st d && srcOk st a && srcOk st b
  | .min d a b => st == .c && dstOk st d && srcOk st a && srcOk st b
  | .max d a b => st == .c && dstOk st d && srcOk st a && srcOk st b
  | .minu d a b => st == .c && dstOk st d && srcOk st a && srcOk st b
  | .maxu d a b => st == .c && dstOk st d && srcOk st a && srcOk st b
  | .cmpeq d a b => st == .c && dstOk st d && srcOk st a && srcOk st b
  | .cmpne d a b => st == .c && dstOk st d && srcOk st a && srcOk st b
  | .cmplt d a b => st == .c && dstOk st d && srcOk st a && srcOk st b
  | .cmpltu d a b => st == .c && dstOk st d && srcOk st a && srcOk st b
  | .cmple d a b => st == .c && dstOk st d && srcOk st a && srcOk st b
  | .cmpleu d a b => st == .c && dstOk st d && srcOk st a && srcOk st b
  | .mov d a => st == .c && dstOk st d && srcOk st a
  | .not d a => st == .c && dstOk st d && srcOk st a
  | .neg d a => st == .c && dstOk st d && srcOk st a
  | .abs d a => st == .c && dstOk st d && srcOk st a
  | .clz d a => st == .c && dstOk st d && srcOk st a
  | .ctz d a => st == .c && dstOk st d && srcOk st a
  | .popc d a => st == .c && dstOk st d && srcOk st a
  | .sextb d a => st == .c && dstOk st d && srcOk st a
  | .sexth d a => st == .c && dstOk st d && srcOk st a
  | .sextw d a => st == .c && dstOk st d && srcOk st a
  | .zextb d a => st == .c && dstOk st d && srcOk st a
  | .zexth d a => st == .c && dstOk st d && srcOk st a
  | .zextw d a => st == .c && dstOk st d && srcOk st a
  | .bswap d a => st == .c && dstOk st d && srcOk st a
  | .addi d a _ => st == .c && dstOk st d && srcOk st a
  | .andi d a _ => st == .c && dstOk st d && srcOk st a
  | .ori d a _ => st == .c && dstOk st d && srcOk st a
  | .xori d a _ => st == .c && dstOk st d && srcOk st a
  | .muli d a _ => st == .c && dstOk st d && srcOk st a
  | .shiShl d a _ => st == .c && dstOk st d && srcOk st a
  | .shiShr d a _ => st == .c && dstOk st d && srcOk st a
  | .shiSar d a _ => st == .c && dstOk st d && srcOk st a
  | .shiRol d a _ => st == .c && dstOk st d && srcOk st a
  | .li d _ => st == .c && dstOk st d
  | .lih d _ => st == .c && regOk d
  | .lix d _ => st == .c && regOk d
  | .bfx d a _ l p => st == .c && dstOk st d && srcOk st a && decide (p.toNat + l.toNat + 1 ≤ 64)
  | .bfi d a l p => st == .c && regOk d && srcOk st a && decide (p.toNat + l.toNat + 1 ≤ 64)
  | .sel d a b _ => st == .c && dstOk st d && srcOk st a && srcOk st b
  | .rgn d a b y => st == .c && dstOk st d && srcOk st a && srcOk st b && decide (y.toNat < 12)
  | .pset _ a b c => st == .c && srcOk st a && srcOk st b && decide (c.toNat < 12)
  | .pseti _ a c _ => st == .c && srcOk st a && decide (c.toNat < 12)
  | .pand _ _ _ => st == .c
  | .por _ _ _ => st == .c
  | .pxor _ _ _ => st == .c
  | .pnot _ _ => st == .c
  | .br _ => st == .c
  | .brp _ _ _ => st == .c
  | .call _ => st == .c
  | .ret => st == .c
  | .jmpi a => st == .c && srcOk st a
  | .calli a => st == .c && srcOk st a
  | .loop lv a imm _ icnt => st == .c && lv != 3 && (if imm == 1 then a == 0 else srcOk st a && icnt == 0)
  | .lpipe lv a _ imm m _ moff icnt => st == .c && lv != 3 && (if imm == 1 then a == 0 else srcOk st a && icnt == 0) && (m == 1 || moff == 0)
  | .lexit => st == .c
  | .lrd d s => st == .c && dstOk st d && selOk s.toNat
  | .lwr a s => st == .c && srcOk st a && selOk s.toNat
  | .lrdRsbot d => st == .c && dstOk st d
  | .lwrRsbot a => st == .c && srcOk st a
  | .rep _ _ _ _ => st == .c
  | .vote => st == .c
  | .ld a w _ => st == .c && srcOk st a && w != 7
  | .st d a w _ => st == .c && srcOk st d && srcOk st a && decide (w.toNat ≤ 5)
  | .lds d a w => st == .c && dstOk st d && srcOk st a && w != 7
  | .sts d a w => st == .c && srcOk st d && srcOk st a && decide (w.toNat ≤ 5)
  | .spld d _ => st == .c && dstOk st d
  | .spst a _ => st == .c && srcOk st a
  | .aadd s _ a b => st == .c && decide (s.toNat ≤ 5) && srcOk st a && srcOk st b
  | .aand s _ a b => st == .c && decide (s.toNat ≤ 5) && srcOk st a && srcOk st b
  | .aor s _ a b => st == .c && decide (s.toNat ≤ 5) && srcOk st a && srcOk st b
  | .axor s _ a b => st == .c && decide (s.toNat ≤ 5) && srcOk st a && srcOk st b
  | .amin s _ a b => st == .c && decide (s.toNat ≤ 5) && srcOk st a && srcOk st b
  | .amax s _ a b => st == .c && decide (s.toNat ≤ 5) && srcOk st a && srcOk st b
  | .aminu s _ a b => st == .c && decide (s.toNat ≤ 5) && srcOk st a && srcOk st b
  | .amaxu s _ a b => st == .c && decide (s.toNat ≤ 5) && srcOk st a && srcOk st b
  | .aswap s _ a b => st == .c && decide (s.toNat ≤ 5) && srcOk st a && srcOk st b
  | .acas s _ a b => st == .c && decide (s.toNat ≤ 5) && srcOk st a && pairOk b
  | .ald s o a => st == .c && decide (s.toNat ≤ 5) && o != 2 && srcOk st a
  | .ast s o a b => st == .c && decide (s.toNat ≤ 5) && o != 1 && srcOk st a && srcOk st b
  | .fix => st == .c
  | .swap a => st == .c && srcOk st a
  | .fence o s => st == .c && decide (s.toNat ≤ 5) && o != 0
  | .bar a => st == .c && srcOk st a
  | .yield => st == .c
  | .waitc a => st == .c && srcOk st a
  | .waitk _ => st == .c
  | .sigk _ => st == .c
  | .epush d a _ => st == .c && dstOk st d && srcOk st a
  | .epop d a m p => st == .c && dstOk st d && decide (a.toNat ≤ 5) && (m == 1 || p == 0)
  | .cbset _ a => st == .c && srcOk st a
  | .cbwait d _ m p => st == .c && dstOk st d && (m == 1 || p == 0)
  | .rdsys d n => st == .c && dstOk st d && sysOk n.toNat
  | .wrsys a n => st == .c && srcOk st a && sysOk n.toNat && !sysOwnRow n.toNat
  | .trap a _ => st == .c && srcOk st a
  | .trapKExit d a => st == .c && dstOk st d && srcOk st a
  | .trapKSaved d a => st == .c && dstOk st d && srcOk st a
  | .trapKService d a n => st == .c && dstOk st d && srcOk st a && decide (2 ≤ n.toNat)
  | .eret => st == .c
  | .eretSkip => st == .c
  | .rdcyc d => st == .c && dstOk st d
  | .bkpt _ => st == .c
  | .nop => st == .c
  | .saluAdd t d a b => tokOk st t && dstOk st d && srcOk st a && srcOk st b
  | .saluSub t d a b => tokOk st t && dstOk st d && srcOk st a && srcOk st b
  | .saluAnd t d a b => tokOk st t && dstOk st d && srcOk st a && srcOk st b
  | .saluOr t d a b => tokOk st t && dstOk st d && srcOk st a && srcOk st b
  | .saluXor t d a b => tokOk st t && dstOk st d && srcOk st a && srcOk st b
  | .saluShl t d a b => tokOk st t && dstOk st d && srcOk st a && srcOk st b
  | .saluShr t d a b => tokOk st t && dstOk st d && srcOk st a && srcOk st b
  | .saluMin t d a b => tokOk st t && dstOk st d && srcOk st a && srcOk st b
  | .saluMax t d a b => tokOk st t && dstOk st d && srcOk st a && srcOk st b
  | .saluMul t d a b => tokOk st t && dstOk st d && srcOk st a && srcOk st b
  | .saluMov t d a => tokOk st t && dstOk st d && srcOk st a
  | .lxsAddi t d a _ => tokOk st t && dstOk st d && srcOk st a
  | .lxsLi t d _ => tokOk st t && dstOk st d
  | .lxsLih t d _ => tokOk st t && regOk d
  | .lxsRgn t d a b y => tokOk st t && dstOk st d && srcOk st a && srcOk st b && decide (y.toNat < 12)
  | .lxsBfx t d a b _ => tokOk st t && dstOk st d && srcOk st a && srcOk st b
  | .lxsPset t _ a b c => tokOk st t && srcOk st a && srcOk st b && decide (c.toNat < 12)
  | .lxsWaitc t a => tokOk st t && srcOk st a
  | .lxsEpop t d a m p => tokOk st t && dstOk st d && decide (a.toNat ≤ 5) && (m == 1 || p == 0)
  | .lxsCbwait t d _ m p => tokOk st t && dstOk st d && (m == 1 || p == 0)
  | .lxsNop t => tokOk st t
  | .lxsRep _ _ _ _ => st != .c
  | .ldt t _ a _ => st == .l && tokOk st t && srcOk st a
  | .ldtc t _ a b _ => st == .l && tokOk st t && srcOk st a && pairOk b
  | .cfetch t d a b _ _ seed cmp codec size _ => st == .l && tokOk st t && dstOk st d && pairOk a && (if seed == 2 || cmp == 1 then srcOk st b else b == 0) && (if codec == 0 then size == 0 else codec == 1)
  | .cqfetch t d a b _ _ seed cmp _ _ _ => st == .l && tokOk st t && dstOk st d && pairOk a && (if seed == 2 || cmp == 1 then srcOk st b else b == 0)
  | .stt t d _ _ => st == .s && tokOk st t && srcOk st d
  | .sttc t d _ _ b => st == .s && tokOk st t && srcOk st d && pairOk b
  | .cstore t d a b _ _ seed cmp codec size _ => st == .s && tokOk st t && dstOk st d && pairOk a && (if seed == 2 || cmp == 1 then srcOk st b else b == 0) && (if codec == 0 then size == 0 else codec == 2)
  | .csend t d a b _ _ seed cmp _ => st == .s && tokOk st t && dstOk st d && pairOk a && (if seed == 2 || cmp == 1 then srcOk st b else b == 0)
  | .vadd t d a b => st == .x && tokOk st t && srcOk st d && srcOk st a && srcOk st b
  | .vsub t d a b => st == .x && tokOk st t && srcOk st d && srcOk st a && srcOk st b
  | .vmul t d a b => st == .x && tokOk st t && srcOk st d && srcOk st a && srcOk st b
  | .vdiv t d a b => st == .x && tokOk st t && srcOk st d && srcOk st a && srcOk st b
  | .vmin t d a b => st == .x && tokOk st t && srcOk st d && srcOk st a && srcOk st b
  | .vmax t d a b => st == .x && tokOk st t && srcOk st d && srcOk st a && srcOk st b
  | .vand t d a b => st == .x && tokOk st t && srcOk st d && srcOk st a && srcOk st b
  | .vor t d a b => st == .x && tokOk st t && srcOk st d && srcOk st a && srcOk st b
  | .vxor t d a b => st == .x && tokOk st t && srcOk st d && srcOk st a && srcOk st b
  | .vshl t d a b => st == .x && tokOk st t && srcOk st d && srcOk st a && srcOk st b
  | .vshr t d a b => st == .x && tokOk st t && srcOk st d && srcOk st a && srcOk st b
  | .vsar t d a b => st == .x && tokOk st t && srcOk st d && srcOk st a && srcOk st b
  | .vadds t d a b => st == .x && tokOk st t && srcOk st d && srcOk st a && srcOk st b
  | .vsubs t d a b => st == .x && tokOk st t && srcOk st d && srcOk st a && srcOk st b
  | .vavg t d a b => st == .x && tokOk st t && srcOk st d && srcOk st a && srcOk st b
  | .vfma t d a b => st == .x && tokOk st t && srcOk st d && srcOk st a && srcOk st b
  | .vabs t d a => st == .x && tokOk st t && srcOk st d && srcOk st a
  | .vneg t d a => st == .x && tokOk st t && srcOk st d && srcOk st a
  | .vnot t d a => st == .x && tokOk st t && srcOk st d && srcOk st a
  | .vcpy t d a => st == .x && tokOk st t && srcOk st d && srcOk st a
  | .vfill t d a => st == .x && tokOk st t && srcOk st d && srcOk st a
  | .vrsq t d a => st == .x && tokOk st t && srcOk st d && srcOk st a
  | .vrcp t d a => st == .x && tokOk st t && srcOk st d && srcOk st a
  | .vcvt t d a _ r => st == .x && tokOk st t && srcOk st d && srcOk st a && decide (r.toNat ≤ 4)
  | .vredSum t d a => st == .x && tokOk st t && srcOk st d && srcOk st a
  | .vredMax t d a => st == .x && tokOk st t && srcOk st d && srcOk st a
  | .vredMin t d a => st == .x && tokOk st t && srcOk st d && srcOk st a
  | .vredArgmax t d a => st == .x && tokOk st t && srcOk st d && srcOk st a
  | .vredArgmin t d a => st == .x && tokOk st t && srcOk st d && srcOk st a
  | .vscanSum t d a _ => st == .x && tokOk st t && srcOk st d && srcOk st a
  | .vscanMax t d a _ => st == .x && tokOk st t && srcOk st d && srcOk st a
  | .vscanMin t d a _ => st == .x && tokOk st t && srcOk st d && srcOk st a
  | .vsel t d a b _ => st == .x && tokOk st t && srcOk st d && srcOk st a && pairOk b
  | .vcmp t d a b _ _ => st == .x && tokOk st t && srcOk st d && srcOk st a && srcOk st b
  | .part t d a b => st == .x && tokOk st t && dstOk st d && srcOk st a && srcOk st b
  | .vgath t d a b => st == .x && tokOk st t && srcOk st d && srcOk st a && srcOk st b
  | .vscat t d a b => st == .x && tokOk st t && srcOk st d && srcOk st a && srcOk st b
  | .vquant t d a _ _ => st == .x && tokOk st t && srcOk st d && srcOk st a
  | .vdeq t d a _ => st == .x && tokOk st t && srcOk st d && srcOk st a
  | .vpermRev t d a => st == .x && tokOk st t && srcOk st d && srcOk st a
  | .vpermTrn t d a b => st == .x && tokOk st t && srcOk st d && srcOk st a && decide (b.toNat ≤ 12)
  | .vpermZip t d a => st == .x && tokOk st t && srcOk st d && srcOk st a
  | .vpermUnzip t d a => st == .x && tokOk st t && srcOk st d && srcOk st a
  | .vpermRot t d a _ => st == .x && tokOk st t && srcOk st d && srcOk st a
  | .mma t n ta fa tb fb _ mode cm _ _ _ => st == .x && tokOk st t && mode != 3 && (cm == 0 || n.toNat % 2 == 0) && (ta != tb || fa == fb)
  | .mmat t n ta fa tb fb _ mode cm _ _ _ => st == .x && tokOk st t && mode != 3 && (cm == 0 || n.toNat % 2 == 0) && decide (tb.toNat ≤ 6) && ((ta != tb && ta.toNat != tb.toNat + 1) || fa == fb)
  | .mmac t n _ _ b _ mode cm _ _ _ _ => st == .x && tokOk st t && mode != 3 && (cm == 0 || n.toNat % 2 == 0) && pairOk b
  | .accrd t d _ c n _ s v => st == .x && tokOk st t && srcOk st d && (c == 0 || n.toNat % 2 == 0) && (v == 0 || s == 0)
  | .accwr t _ c n a _ _ => st == .x && tokOk st t && srcOk st a && (c == 0 || n.toNat % 2 == 0)
  | .accz t _ c n => st == .x && tokOk st t && (c == 0 || n.toNat % 2 == 0)
  | .apeek t d _ c n _ s v => st == .x && tokOk st t && srcOk st d && (c == 0 || n.toNat % 2 == 0) && (v == 0 || s == 0)
  | .mstat t d m p _ => st == .x && tokOk st t && dstOk st d && (m == 1 || p == 0)
  | .maskRange t _ a _ => st == .x && tokOk st t && srcOk st a
  | .maskRegion t _ a _ => st == .x && tokOk st t && srcOk st a
  | .ftsel t a => st == .x && tokOk st t && srcOk st a
  | .bdset t _ a => st == .x && tokOk st t && srcOk st a
  | .bdsetLd t d a => st == .x && tokOk st t && srcOk st d && srcOk st a
  | .bdsetLdw t d a => st == .x && tokOk st t && srcOk st d && srcOk st a
  | .bdsetSt t d => st == .x && tokOk st t && srcOk st d
  | .bdsetStw t d => st == .x && tokOk st t && srcOk st d
  | .bdsetAck t => st == .x && tokOk st t
  | .bdsetClr t => st == .x && tokOk st t
  | .tcon t d a _ _ _ fold mode fmt cbk _ _ => st == .x && tokOk st t && srcOk st d && (if mode == 1 then srcOk st a && fold == 0 else a == 0) && (fmt == 1 || fmt == 3 || fmt == 4 || fmt == 9) && (fmt == 9 || cbk == 0)
  | .cplan t d a _ => st == .x && tokOk st t && srcOk st d && srcOk st a
  | .crdRot t d a b => st == .x && tokOk st t && pairOk d && tripleOk a && srcOk st b
  | .crdVec t d a b => st == .x && tokOk st t && pairOk d && pairOk a && srcOk st b
  | .crdHrot t d a b => st == .x && tokOk st t && pairOk d && tripleOk a && srcOk st b
  | .crdHvec t d a b => st == .x && tokOk st t && pairOk d && pairOk a && srcOk st b
  | .crdLin t d a b => st == .x && tokOk st t && pairOk d && pairOk a && srcOk st b
  | .cbld t _ a => st == .x && tokOk st t && srcOk st a
  | .cbldClr t _ => st == .x && tokOk st t
  | .xfgo t a b => st == .x && tokOk st t && srcOk st a && srcOk st b
  | .wrsysTag _ a => st == .c && srcOk st a
  | .wrsysBndcap a => st == .c && srcOk st a
  | .wrsysTlbinv a => st == .c && srcOk st a
  | .wrsysDbuf _ a => st == .c && srcOk st a
  | .wrsysBd _ a => st == .c && srcOk st a
  | .wrsysEvcnt _ a => st == .c && srcOk st a
  | .wrsysEvstat a => st == .c && srcOk st a
  | _ => false

/-- Whether the transform sequencer may run this word (09 R290 to R298). -/
def Instr.wfSeq : Instr → Bool
  | .txloop d _ l => decide (d.toNat ≤ 3) && decide (1 ≤ l.toNat ∧ l.toNat ≤ 1023)
  | .txld _ _ _ _ ty => byteTy ty.toNat
  | .txst _ _ _ s _ ty => byteTy ty.toNat && (s == 0 || decide (ty.toNat ≤ 4))
  | .txopAdd _ _ _ => true
  | .txopSub _ _ _ => true
  | .txopMul _ _ _ => true
  | .txopFma _ _ _ => true
  | .txopMax _ _ _ => true
  | .txopMin _ _ _ => true
  | .txopRelu _ _ => true
  | .txopAbs _ _ => true
  | .txopSplat _ _ => true
  | .txpermRev _ _ => true
  | .txpermRot _ _ _ => true
  | .txpermZip _ _ => true
  | .txpermUnzip _ _ => true
  | .txcbEnlarge _ b _ => decide (b.toNat ≤ 14)
  | .txcbReduce _ b _ => decide (b.toNat ≤ 14)
  | .txsig _ => true
  | .txwait _ => true
  | .txaddi _ _ _ => true
  | .txli _ _ => true
  | .txhalt => true
  | _ => false

end Sys2Proof
end

