-- ==== Sys2Proof/Decode.lean ====
section
/-! DEFINITION. Decoding of instruction words and lines (02), total and rejecting what the opcode maps do not assign, and
the encoder. Both are written from the format tables R53 to R64 and spec/opcode_table.json. -/

namespace Sys2Proof

/-- The `n` bits of word `w` from bit `lo`. -/
def fld (n w lo : Nat) : BitVec n := BitVec.ofNat n (w / 2 ^ lo)

/-- The WRSYS step that register number `n` names (12 R363): the registers with a rule of their own have a row of their own. -/
def wrsysForm (n : Nat) (a : Spec) : Instr :=
  if n == 0x00B then .wrsysBndcap a
  else if n == 0x065 then .wrsysTlbinv a
  else if n == 0x049 then .wrsysEvstat a
  else if 0x020 ≤ n && n ≤ 0x02F then .wrsysBd (BitVec.ofNat 4 n) a
  else if 0x030 ≤ n && n ≤ 0x037 then .wrsysEvcnt (BitVec.ofNat 3 n) a
  else if 0x04C ≤ n && n ≤ 0x04F then .wrsysDbuf (BitVec.ofNat 2 n) a
  else if 0x080 ≤ n && n ≤ 0x09F then .wrsysTag (BitVec.ofNat 5 n) a
  else .wrsys a (BitVec.ofNat 14 n)

/-- A 32-bit word of the C stream (02 R61). -/
def decodeC1 (w : Nat) : Option Instr :=
  match bits w 31 26 with
  | 0x01 =>
    (match bits w 7 0 with
    | 0 => some (.add (fld 6 w 20) (fld 6 w 14) (fld 6 w 8))
    | 1 => some (.sub (fld 6 w 20) (fld 6 w 14) (fld 6 w 8))
    | 2 => some (.mul (fld 6 w 20) (fld 6 w 14) (fld 6 w 8))
    | 3 => some (.mulh (fld 6 w 20) (fld 6 w 14) (fld 6 w 8))
    | 4 => some (.mulhu (fld 6 w 20) (fld 6 w 14) (fld 6 w 8))
    | 5 => some (.div (fld 6 w 20) (fld 6 w 14) (fld 6 w 8))
    | 6 => some (.divu (fld 6 w 20) (fld 6 w 14) (fld 6 w 8))
    | 7 => some (.rem (fld 6 w 20) (fld 6 w 14) (fld 6 w 8))
    | 8 => some (.remu (fld 6 w 20) (fld 6 w 14) (fld 6 w 8))
    | 9 => some (.and (fld 6 w 20) (fld 6 w 14) (fld 6 w 8))
    | 10 => some (.or (fld 6 w 20) (fld 6 w 14) (fld 6 w 8))
    | 11 => some (.xor (fld 6 w 20) (fld 6 w 14) (fld 6 w 8))
    | 12 => some (.andn (fld 6 w 20) (fld 6 w 14) (fld 6 w 8))
    | 13 => some (.shl (fld 6 w 20) (fld 6 w 14) (fld 6 w 8))
    | 14 => some (.shr (fld 6 w 20) (fld 6 w 14) (fld 6 w 8))
    | 15 => some (.sar (fld 6 w 20) (fld 6 w 14) (fld 6 w 8))
    | 16 => some (.rol (fld 6 w 20) (fld 6 w 14) (fld 6 w 8))
    | 17 => some (.ror (fld 6 w 20) (fld 6 w 14) (fld 6 w 8))
    | 18 => some (.min (fld 6 w 20) (fld 6 w 14) (fld 6 w 8))
    | 19 => some (.max (fld 6 w 20) (fld 6 w 14) (fld 6 w 8))
    | 20 => some (.minu (fld 6 w 20) (fld 6 w 14) (fld 6 w 8))
    | 21 => some (.maxu (fld 6 w 20) (fld 6 w 14) (fld 6 w 8))
    | 22 => some (.cmpeq (fld 6 w 20) (fld 6 w 14) (fld 6 w 8))
    | 23 => some (.cmpne (fld 6 w 20) (fld 6 w 14) (fld 6 w 8))
    | 24 => some (.cmplt (fld 6 w 20) (fld 6 w 14) (fld 6 w 8))
    | 25 => some (.cmpltu (fld 6 w 20) (fld 6 w 14) (fld 6 w 8))
    | 26 => some (.cmple (fld 6 w 20) (fld 6 w 14) (fld 6 w 8))
    | 27 => some (.cmpleu (fld 6 w 20) (fld 6 w 14) (fld 6 w 8))
    | _ => none)
  | 0x02 =>
    (match bits w 7 0 with
    | 0 => if bits w 13 8 == 0 then some (.mov (fld 6 w 20) (fld 6 w 14)) else none
    | 1 => if bits w 13 8 == 0 then some (.not (fld 6 w 20) (fld 6 w 14)) else none
    | 2 => if bits w 13 8 == 0 then some (.neg (fld 6 w 20) (fld 6 w 14)) else none
    | 3 => if bits w 13 8 == 0 then some (.abs (fld 6 w 20) (fld 6 w 14)) else none
    | 4 => if bits w 13 8 == 0 then some (.clz (fld 6 w 20) (fld 6 w 14)) else none
    | 5 => if bits w 13 8 == 0 then some (.ctz (fld 6 w 20) (fld 6 w 14)) else none
    | 6 => if bits w 13 8 == 0 then some (.popc (fld 6 w 20) (fld 6 w 14)) else none
    | 7 => if bits w 13 8 == 0 then some (.sextb (fld 6 w 20) (fld 6 w 14)) else none
    | 8 => if bits w 13 8 == 0 then some (.sexth (fld 6 w 20) (fld 6 w 14)) else none
    | 9 => if bits w 13 8 == 0 then some (.sextw (fld 6 w 20) (fld 6 w 14)) else none
    | 10 => if bits w 13 8 == 0 then some (.zextb (fld 6 w 20) (fld 6 w 14)) else none
    | 11 => if bits w 13 8 == 0 then some (.zexth (fld 6 w 20) (fld 6 w 14)) else none
    | 12 => if bits w 13 8 == 0 then some (.zextw (fld 6 w 20) (fld 6 w 14)) else none
    | 13 => if bits w 13 8 == 0 then some (.bswap (fld 6 w 20) (fld 6 w 14)) else none
    | _ => none)
  | 0x03 => some (.addi (fld 6 w 20) (fld 6 w 14) (fld 14 w 0))
  | 0x04 => some (.andi (fld 6 w 20) (fld 6 w 14) (fld 14 w 0))
  | 0x05 => some (.ori (fld 6 w 20) (fld 6 w 14) (fld 14 w 0))
  | 0x06 => some (.xori (fld 6 w 20) (fld 6 w 14) (fld 14 w 0))
  | 0x0F => some (.muli (fld 6 w 20) (fld 6 w 14) (fld 14 w 0))
  | 0x07 =>
    (match bits w 7 6 with
    | 0 => if bits w 13 8 == 0 then some (.shiShl (fld 6 w 20) (fld 6 w 14) (fld 6 w 0)) else none
    | 1 => if bits w 13 8 == 0 then some (.shiShr (fld 6 w 20) (fld 6 w 14) (fld 6 w 0)) else none
    | 2 => if bits w 13 8 == 0 then some (.shiSar (fld 6 w 20) (fld 6 w 14) (fld 6 w 0)) else none
    | 3 => if bits w 13 8 == 0 then some (.shiRol (fld 6 w 20) (fld 6 w 14) (fld 6 w 0)) else none
    | _ => none)
  | 0x08 => some (.li (fld 6 w 20) (fld 20 w 0))
  | 0x09 => some (.lih (fld 6 w 20) (fld 20 w 0))
  | 0x0A => some (.lix (fld 6 w 20) (fld 20 w 0))
  | 0x0B => if bits w 13 13 == 0 then some (.bfx (fld 6 w 20) (fld 6 w 14) (fld 1 w 12) (fld 6 w 6) (fld 6 w 0)) else none
  | 0x0C => if bits w 13 12 == 0 then some (.bfi (fld 6 w 20) (fld 6 w 14) (fld 6 w 6) (fld 6 w 0)) else none
  | 0x0D => if bits w 7 3 == 0 then some (.sel (fld 6 w 20) (fld 6 w 14) (fld 6 w 8) (fld 3 w 0)) else none
  | 0x0E => if bits w 7 4 == 0 then some (.rgn (fld 6 w 20) (fld 6 w 14) (fld 6 w 8) (fld 4 w 0)) else none
  | 0x10 => if bits w 25 23 == 0 then some (.pset (fld 3 w 20) (fld 6 w 14) (fld 6 w 8) (fld 8 w 0)) else none
  | 0x11 => if bits w 25 23 == 0 then some (.pseti (fld 3 w 20) (fld 6 w 14) (fld 4 w 10) (fld 10 w 0)) else none
  | 0x12 =>
    (match bits w 7 0 with
    | 0 => if bits w 25 23 == 0 && bits w 19 18 == 0 && bits w 13 12 == 0 then some (.pand (fld 3 w 20) (fld 4 w 14) (fld 4 w 8)) else none
    | 1 => if bits w 25 23 == 0 && bits w 19 18 == 0 && bits w 13 12 == 0 then some (.por (fld 3 w 20) (fld 4 w 14) (fld 4 w 8)) else none
    | 2 => if bits w 25 23 == 0 && bits w 19 18 == 0 && bits w 13 12 == 0 then some (.pxor (fld 3 w 20) (fld 4 w 14) (fld 4 w 8)) else none
    | 3 => if bits w 25 23 == 0 && bits w 19 18 == 0 && bits w 13 8 == 0 then some (.pnot (fld 3 w 20) (fld 4 w 14)) else none
    | _ => none)
  | 0x14 => if bits w 25 22 == 0 then some (.br (fld 22 w 0)) else none
  | 0x15 => some (.brp (fld 3 w 23) (fld 1 w 22) (fld 22 w 0))
  | 0x16 => if bits w 25 22 == 0 then some (.call (fld 22 w 0)) else none
  | 0x17 => if bits w 25 0 == 0 then some (.ret) else none
  | 0x18 => if bits w 25 20 == 0 && bits w 13 0 == 0 then some (.jmpi (fld 6 w 14)) else none
  | 0x19 => if bits w 25 20 == 0 && bits w 13 0 == 0 then some (.calli (fld 6 w 14)) else none
  | 0x1C => if bits w 25 0 == 0 then some (.lexit) else none
  | 0x1E => if bits w 25 12 == 0 then some (.rep (fld 2 w 10) (fld 2 w 8) (fld 2 w 6) (fld 6 w 0)) else none
  | 0x1F => if bits w 25 0 == 0 then some (.vote) else none
  | 0x20 => if bits w 25 20 == 0 then some (.ld (fld 6 w 14) (fld 3 w 11) (fld 11 w 0)) else none
  | 0x21 => some (.st (fld 6 w 20) (fld 6 w 14) (fld 3 w 11) (fld 11 w 0))
  | 0x22 => if bits w 13 3 == 0 then some (.lds (fld 6 w 20) (fld 6 w 14) (fld 3 w 0)) else none
  | 0x23 => if bits w 13 3 == 0 then some (.sts (fld 6 w 20) (fld 6 w 14) (fld 3 w 0)) else none
  | 0x24 => if bits w 19 14 == 0 then some (.spld (fld 6 w 20) (fld 14 w 0)) else none
  | 0x25 => if bits w 25 20 == 0 then some (.spst (fld 6 w 14) (fld 14 w 0)) else none
  | 0x28 =>
    (match bits w 7 0 with
    | 0 => if bits w 20 20 == 0 then some (.aadd (fld 3 w 23) (fld 2 w 21) (fld 6 w 14) (fld 6 w 8)) else none
    | 1 => if bits w 20 20 == 0 then some (.aand (fld 3 w 23) (fld 2 w 21) (fld 6 w 14) (fld 6 w 8)) else none
    | 2 => if bits w 20 20 == 0 then some (.aor (fld 3 w 23) (fld 2 w 21) (fld 6 w 14) (fld 6 w 8)) else none
    | 3 => if bits w 20 20 == 0 then some (.axor (fld 3 w 23) (fld 2 w 21) (fld 6 w 14) (fld 6 w 8)) else none
    | 4 => if bits w 20 20 == 0 then some (.amin (fld 3 w 23) (fld 2 w 21) (fld 6 w 14) (fld 6 w 8)) else none
    | 5 => if bits w 20 20 == 0 then some (.amax (fld 3 w 23) (fld 2 w 21) (fld 6 w 14) (fld 6 w 8)) else none
    | 6 => if bits w 20 20 == 0 then some (.aminu (fld 3 w 23) (fld 2 w 21) (fld 6 w 14) (fld 6 w 8)) else none
    | 7 => if bits w 20 20 == 0 then some (.amaxu (fld 3 w 23) (fld 2 w 21) (fld 6 w 14) (fld 6 w 8)) else none
    | 8 => if bits w 20 20 == 0 then some (.aswap (fld 3 w 23) (fld 2 w 21) (fld 6 w 14) (fld 6 w 8)) else none
    | 9 => if bits w 20 20 == 0 then some (.acas (fld 3 w 23) (fld 2 w 21) (fld 6 w 14) (fld 6 w 8)) else none
    | 10 => if bits w 20 20 == 0 && bits w 13 8 == 0 then some (.ald (fld 3 w 23) (fld 2 w 21) (fld 6 w 14)) else none
    | 11 => if bits w 20 20 == 0 then some (.ast (fld 3 w 23) (fld 2 w 21) (fld 6 w 14) (fld 6 w 8)) else none
    | _ => none)
  | 0x2C => if bits w 25 0 == 0 then some (.fix) else none
  | 0x2D => if bits w 25 20 == 0 && bits w 13 0 == 0 then some (.swap (fld 6 w 14)) else none
  | 0x2E => if bits w 25 5 == 0 then some (.fence (fld 2 w 3) (fld 3 w 0)) else none
  | 0x2F => if bits w 25 20 == 0 && bits w 13 0 == 0 then some (.bar (fld 6 w 14)) else none
  | 0x30 => if bits w 25 0 == 0 then some (.yield) else none
  | 0x31 => if bits w 25 20 == 0 && bits w 13 0 == 0 then some (.waitc (fld 6 w 14)) else none
  | 0x32 => if bits w 25 3 == 0 then some (.waitk (fld 3 w 0)) else none
  | 0x33 => if bits w 25 3 == 0 then some (.sigk (fld 3 w 0)) else none
  | 0x34 => if bits w 13 2 == 0 then some (.epush (fld 6 w 20) (fld 6 w 14) (fld 2 w 0)) else none
  | 0x35 => if bits w 13 12 == 0 && bits w 7 0 == 0 then some (.epop (fld 6 w 20) (fld 6 w 14) (fld 1 w 11) (fld 3 w 8)) else none
  | 0x36 => if bits w 25 23 == 0 && bits w 13 0 == 0 then some (.cbset (fld 3 w 20) (fld 6 w 14)) else none
  | 0x37 => if bits w 19 17 == 0 && bits w 13 12 == 0 && bits w 7 0 == 0 then some (.cbwait (fld 6 w 20) (fld 3 w 14) (fld 1 w 11) (fld 3 w 8)) else none
  | 0x38 => if bits w 19 14 == 0 then some (.rdsys (fld 6 w 20) (fld 14 w 0)) else none
  | 0x3B =>
    (match bits w 0 0 with
    | 0 => if bits w 25 1 == 0 then some (.eret) else none
    | 1 => if bits w 25 1 == 0 then some (.eretSkip) else none
    | _ => none)
  | 0x3C => if bits w 19 0 == 0 then some (.rdcyc (fld 6 w 20)) else none
  | 0x3D => if bits w 25 8 == 0 then some (.bkpt (fld 8 w 0)) else none
  | 0x3E => if bits w 25 0 == 0 then some (.nop) else none
  | 0x1D =>
    (match bits w 7 0 with
    | 0 => if bits w 19 14 == 0 then (if bits w 13 8 == 15 then some (.lrdRsbot (fld 6 w 20)) else some (.lrd (fld 6 w 20) (fld 6 w 8))) else none
    | 1 => if bits w 25 20 == 0 then (if bits w 13 8 == 15 then some (.lwrRsbot (fld 6 w 14)) else some (.lwr (fld 6 w 14) (fld 6 w 8))) else none
    | _ => none)
  | 0x39 => if bits w 25 20 == 0 then some (wrsysForm (bits w 13 0) (fld 6 w 14)) else none
  | 0x3A =>
    if bits w 13 8 == 0 then
      (match bits w 7 7 with
      | 0 => if bits w 25 20 == 0 then some (.trap (fld 6 w 14) (fld 7 w 0)) else none
      | _ =>
        (match bits w 6 0 with
        | 0 => some (.trapKExit (fld 6 w 20) (fld 6 w 14))
        | 1 => some (.trapKSaved (fld 6 w 20) (fld 6 w 14))
        | _ => some (.trapKService (fld 6 w 20) (fld 6 w 14) (fld 7 w 0))))
    else none
  | _ => none

/-- A 32-bit word of the majors common to L, X and S (02 R62). -/
def decodeLXS1 (w : Nat) : Option Instr :=
  match bits w 27 22 with
  | 0x01 =>
    (match bits w 3 0 with
    | 0 => some (.saluAdd (fld 4 w 28) (fld 6 w 16) (fld 6 w 10) (fld 6 w 4))
    | 1 => some (.saluSub (fld 4 w 28) (fld 6 w 16) (fld 6 w 10) (fld 6 w 4))
    | 2 => some (.saluAnd (fld 4 w 28) (fld 6 w 16) (fld 6 w 10) (fld 6 w 4))
    | 3 => some (.saluOr (fld 4 w 28) (fld 6 w 16) (fld 6 w 10) (fld 6 w 4))
    | 4 => some (.saluXor (fld 4 w 28) (fld 6 w 16) (fld 6 w 10) (fld 6 w 4))
    | 5 => some (.saluShl (fld 4 w 28) (fld 6 w 16) (fld 6 w 10) (fld 6 w 4))
    | 6 => some (.saluShr (fld 4 w 28) (fld 6 w 16) (fld 6 w 10) (fld 6 w 4))
    | 7 => some (.saluMin (fld 4 w 28) (fld 6 w 16) (fld 6 w 10) (fld 6 w 4))
    | 8 => some (.saluMax (fld 4 w 28) (fld 6 w 16) (fld 6 w 10) (fld 6 w 4))
    | 9 => some (.saluMul (fld 4 w 28) (fld 6 w 16) (fld 6 w 10) (fld 6 w 4))
    | 10 => if bits w 9 4 == 0 then some (.saluMov (fld 4 w 28) (fld 6 w 16) (fld 6 w 10)) else none
    | _ => none)
  | 0x02 => some (.lxsAddi (fld 4 w 28) (fld 6 w 16) (fld 6 w 10) (fld 10 w 0))
  | 0x03 => some (.lxsLi (fld 4 w 28) (fld 6 w 16) (fld 16 w 0))
  | 0x04 => some (.lxsLih (fld 4 w 28) (fld 6 w 16) (fld 16 w 0))
  | 0x05 => some (.lxsRgn (fld 4 w 28) (fld 6 w 16) (fld 6 w 10) (fld 6 w 4) (fld 4 w 0))
  | 0x06 => if bits w 3 1 == 0 then some (.lxsBfx (fld 4 w 28) (fld 6 w 16) (fld 6 w 10) (fld 6 w 4) (fld 1 w 0)) else none
  | 0x07 => if bits w 21 19 == 0 then some (.lxsPset (fld 4 w 28) (fld 3 w 16) (fld 6 w 10) (fld 6 w 4) (fld 4 w 0)) else none
  | 0x08 => if bits w 21 16 == 0 && bits w 9 0 == 0 then some (.lxsWaitc (fld 4 w 28) (fld 6 w 10)) else none
  | 0x09 => if bits w 9 8 == 0 && bits w 3 0 == 0 then some (.lxsEpop (fld 4 w 28) (fld 6 w 16) (fld 6 w 10) (fld 1 w 7) (fld 3 w 4)) else none
  | 0x0A => if bits w 15 13 == 0 && bits w 9 8 == 0 && bits w 3 0 == 0 then some (.lxsCbwait (fld 4 w 28) (fld 6 w 16) (fld 3 w 10) (fld 1 w 7) (fld 3 w 4)) else none
  | 0x0B => if bits w 21 0 == 0 then some (.lxsNop (fld 4 w 28)) else none
  | 0x0C => if bits w 31 28 == 0 && bits w 21 12 == 0 then some (.lxsRep (fld 2 w 10) (fld 2 w 8) (fld 2 w 6) (fld 6 w 0)) else none
  | _ => none

/-- A 32-bit word of the L stream alone (02 R63). -/
def decodeL1 (w : Nat) : Option Instr :=
  match bits w 27 22 with
  | 0x10 => if bits w 21 19 == 0 && bits w 9 1 == 0 then some (.ldt (fld 4 w 28) (fld 3 w 16) (fld 6 w 10) (fld 1 w 0)) else none
  | 0x11 => if bits w 21 19 == 0 && bits w 3 1 == 0 then some (.ldtc (fld 4 w 28) (fld 3 w 16) (fld 6 w 10) (fld 6 w 4) (fld 1 w 0)) else none
  | _ => none

/-- A 32-bit word of the S stream alone (02 R63). -/
def decodeS1 (w : Nat) : Option Instr :=
  match bits w 27 22 with
  | 0x10 => if bits w 15 14 == 0 && bits w 9 0 == 0 then some (.stt (fld 4 w 28) (fld 6 w 16) (fld 1 w 13) (fld 3 w 10)) else none
  | 0x11 => if bits w 15 14 == 0 && bits w 3 0 == 0 then some (.sttc (fld 4 w 28) (fld 6 w 16) (fld 1 w 13) (fld 3 w 10) (fld 6 w 4)) else none
  | _ => none

/-- A 32-bit word of the X stream alone (02 R63). -/
def decodeX1 (w : Nat) : Option Instr :=
  match bits w 27 22 with
  | 0x10 =>
    (match bits w 3 0 with
    | 0 => some (.vadd (fld 4 w 28) (fld 6 w 16) (fld 6 w 10) (fld 6 w 4))
    | 1 => some (.vsub (fld 4 w 28) (fld 6 w 16) (fld 6 w 10) (fld 6 w 4))
    | 2 => some (.vmul (fld 4 w 28) (fld 6 w 16) (fld 6 w 10) (fld 6 w 4))
    | 3 => some (.vdiv (fld 4 w 28) (fld 6 w 16) (fld 6 w 10) (fld 6 w 4))
    | 4 => some (.vmin (fld 4 w 28) (fld 6 w 16) (fld 6 w 10) (fld 6 w 4))
    | 5 => some (.vmax (fld 4 w 28) (fld 6 w 16) (fld 6 w 10) (fld 6 w 4))
    | 6 => some (.vand (fld 4 w 28) (fld 6 w 16) (fld 6 w 10) (fld 6 w 4))
    | 7 => some (.vor (fld 4 w 28) (fld 6 w 16) (fld 6 w 10) (fld 6 w 4))
    | 8 => some (.vxor (fld 4 w 28) (fld 6 w 16) (fld 6 w 10) (fld 6 w 4))
    | 9 => some (.vshl (fld 4 w 28) (fld 6 w 16) (fld 6 w 10) (fld 6 w 4))
    | 10 => some (.vshr (fld 4 w 28) (fld 6 w 16) (fld 6 w 10) (fld 6 w 4))
    | 11 => some (.vsar (fld 4 w 28) (fld 6 w 16) (fld 6 w 10) (fld 6 w 4))
    | 12 => some (.vadds (fld 4 w 28) (fld 6 w 16) (fld 6 w 10) (fld 6 w 4))
    | 13 => some (.vsubs (fld 4 w 28) (fld 6 w 16) (fld 6 w 10) (fld 6 w 4))
    | 14 => some (.vavg (fld 4 w 28) (fld 6 w 16) (fld 6 w 10) (fld 6 w 4))
    | _ => none)
  | 0x11 => if bits w 3 0 == 0 then some (.vfma (fld 4 w 28) (fld 6 w 16) (fld 6 w 10) (fld 6 w 4)) else none
  | 0x12 =>
    (match bits w 3 0 with
    | 0 => if bits w 9 4 == 0 then some (.vabs (fld 4 w 28) (fld 6 w 16) (fld 6 w 10)) else none
    | 1 => if bits w 9 4 == 0 then some (.vneg (fld 4 w 28) (fld 6 w 16) (fld 6 w 10)) else none
    | 2 => if bits w 9 4 == 0 then some (.vnot (fld 4 w 28) (fld 6 w 16) (fld 6 w 10)) else none
    | 3 => if bits w 9 4 == 0 then some (.vcpy (fld 4 w 28) (fld 6 w 16) (fld 6 w 10)) else none
    | 4 => if bits w 9 4 == 0 then some (.vfill (fld 4 w 28) (fld 6 w 16) (fld 6 w 10)) else none
    | 5 => if bits w 9 4 == 0 then some (.vrsq (fld 4 w 28) (fld 6 w 16) (fld 6 w 10)) else none
    | 6 => if bits w 9 4 == 0 then some (.vrcp (fld 4 w 28) (fld 6 w 16) (fld 6 w 10)) else none
    | _ => none)
  | 0x13 => if bits w 9 4 == 0 then some (.vcvt (fld 4 w 28) (fld 6 w 16) (fld 6 w 10) (fld 1 w 3) (fld 3 w 0)) else none
  | 0x14 =>
    (match bits w 3 0 with
    | 0 => if bits w 9 4 == 0 then some (.vredSum (fld 4 w 28) (fld 6 w 16) (fld 6 w 10)) else none
    | 1 => if bits w 9 4 == 0 then some (.vredMax (fld 4 w 28) (fld 6 w 16) (fld 6 w 10)) else none
    | 2 => if bits w 9 4 == 0 then some (.vredMin (fld 4 w 28) (fld 6 w 16) (fld 6 w 10)) else none
    | 3 => if bits w 9 4 == 0 then some (.vredArgmax (fld 4 w 28) (fld 6 w 16) (fld 6 w 10)) else none
    | 4 => if bits w 9 4 == 0 then some (.vredArgmin (fld 4 w 28) (fld 6 w 16) (fld 6 w 10)) else none
    | _ => none)
  | 0x15 =>
    (match bits w 1 0 with
    | 0 => if bits w 9 3 == 0 then some (.vscanSum (fld 4 w 28) (fld 6 w 16) (fld 6 w 10) (fld 1 w 2)) else none
    | 1 => if bits w 9 3 == 0 then some (.vscanMax (fld 4 w 28) (fld 6 w 16) (fld 6 w 10) (fld 1 w 2)) else none
    | 2 => if bits w 9 3 == 0 then some (.vscanMin (fld 4 w 28) (fld 6 w 16) (fld 6 w 10) (fld 1 w 2)) else none
    | _ => none)
  | 0x16 => if bits w 3 1 == 0 then some (.vsel (fld 4 w 28) (fld 6 w 16) (fld 6 w 10) (fld 6 w 4) (fld 1 w 0)) else none
  | 0x17 => some (.vcmp (fld 4 w 28) (fld 6 w 16) (fld 6 w 10) (fld 6 w 4) (fld 1 w 3) (fld 3 w 0))
  | 0x18 => if bits w 3 0 == 0 then some (.part (fld 4 w 28) (fld 6 w 16) (fld 6 w 10) (fld 6 w 4)) else none
  | 0x19 => if bits w 3 0 == 0 then some (.vgath (fld 4 w 28) (fld 6 w 16) (fld 6 w 10) (fld 6 w 4)) else none
  | 0x1A => if bits w 3 0 == 0 then some (.vscat (fld 4 w 28) (fld 6 w 16) (fld 6 w 10) (fld 6 w 4)) else none
  | 0x1B => if bits w 9 6 == 0 then some (.vquant (fld 4 w 28) (fld 6 w 16) (fld 6 w 10) (fld 2 w 4) (fld 4 w 0)) else none
  | 0x1C => if bits w 9 6 == 0 && bits w 3 0 == 0 then some (.vdeq (fld 4 w 28) (fld 6 w 16) (fld 6 w 10) (fld 2 w 4)) else none
  | 0x1D =>
    (match bits w 3 0 with
    | 0 => if bits w 9 4 == 0 then some (.vpermRev (fld 4 w 28) (fld 6 w 16) (fld 6 w 10)) else none
    | 1 => some (.vpermTrn (fld 4 w 28) (fld 6 w 16) (fld 6 w 10) (fld 6 w 4))
    | 2 => if bits w 9 4 == 0 then some (.vpermZip (fld 4 w 28) (fld 6 w 16) (fld 6 w 10)) else none
    | 3 => if bits w 9 4 == 0 then some (.vpermUnzip (fld 4 w 28) (fld 6 w 16) (fld 6 w 10)) else none
    | 4 => some (.vpermRot (fld 4 w 28) (fld 6 w 16) (fld 6 w 10) (fld 6 w 4))
    | _ => none)
  | 0x23 => if bits w 9 3 == 0 then some (.accrd (fld 4 w 28) (fld 6 w 16) (fld 2 w 14) (fld 1 w 13) (fld 3 w 10) (fld 1 w 2) (fld 1 w 1) (fld 1 w 0)) else none
  | 0x24 => if bits w 9 3 == 0 && bits w 1 1 == 0 then some (.accwr (fld 4 w 28) (fld 2 w 20) (fld 1 w 19) (fld 3 w 16) (fld 6 w 10) (fld 1 w 2) (fld 1 w 0)) else none
  | 0x25 => if bits w 15 0 == 0 then some (.accz (fld 4 w 28) (fld 2 w 20) (fld 1 w 19) (fld 3 w 16)) else none
  | 0x26 => if bits w 9 3 == 0 then some (.apeek (fld 4 w 28) (fld 6 w 16) (fld 2 w 14) (fld 1 w 13) (fld 3 w 10) (fld 1 w 2) (fld 1 w 1) (fld 1 w 0)) else none
  | 0x27 => if bits w 15 8 == 0 && bits w 3 2 == 0 then some (.mstat (fld 4 w 28) (fld 6 w 16) (fld 1 w 7) (fld 3 w 4) (fld 2 w 0)) else none
  | 0x28 =>
    (match bits w 1 1 with
    | 0 => if bits w 21 18 == 0 && bits w 9 2 == 0 then some (.maskRange (fld 4 w 28) (fld 2 w 16) (fld 6 w 10) (fld 1 w 0)) else none
    | 1 => if bits w 21 18 == 0 && bits w 9 2 == 0 then some (.maskRegion (fld 4 w 28) (fld 2 w 16) (fld 6 w 10) (fld 1 w 0)) else none
    | _ => none)
  | 0x29 => if bits w 21 16 == 0 && bits w 9 0 == 0 then some (.ftsel (fld 4 w 28) (fld 6 w 10)) else none
  | 0x2A =>
    (match bits w 3 0 with
    | 0 => if bits w 21 20 == 0 && bits w 9 4 == 0 then some (.bdset (fld 4 w 28) (fld 4 w 16) (fld 6 w 10)) else none
    | 1 => if bits w 9 4 == 0 then some (.bdsetLd (fld 4 w 28) (fld 6 w 16) (fld 6 w 10)) else none
    | 2 => if bits w 9 4 == 0 then some (.bdsetLdw (fld 4 w 28) (fld 6 w 16) (fld 6 w 10)) else none
    | 3 => if bits w 15 4 == 0 then some (.bdsetSt (fld 4 w 28) (fld 6 w 16)) else none
    | 4 => if bits w 15 4 == 0 then some (.bdsetStw (fld 4 w 28) (fld 6 w 16)) else none
    | 5 => if bits w 21 4 == 0 then some (.bdsetAck (fld 4 w 28)) else none
    | 6 => if bits w 21 4 == 0 then some (.bdsetClr (fld 4 w 28)) else none
    | _ => none)
  | 0x2C => if bits w 9 3 == 0 then some (.cplan (fld 4 w 28) (fld 6 w 16) (fld 6 w 10) (fld 3 w 0)) else none
  | 0x2D =>
    (match bits w 3 0 with
    | 0 => some (.crdRot (fld 4 w 28) (fld 6 w 16) (fld 6 w 10) (fld 6 w 4))
    | 1 => some (.crdVec (fld 4 w 28) (fld 6 w 16) (fld 6 w 10) (fld 6 w 4))
    | 2 => some (.crdHrot (fld 4 w 28) (fld 6 w 16) (fld 6 w 10) (fld 6 w 4))
    | 3 => some (.crdHvec (fld 4 w 28) (fld 6 w 16) (fld 6 w 10) (fld 6 w 4))
    | 4 => some (.crdLin (fld 4 w 28) (fld 6 w 16) (fld 6 w 10) (fld 6 w 4))
    | _ => none)
  | 0x2E =>
    (match bits w 0 0 with
    | 0 => if bits w 21 18 == 0 && bits w 9 1 == 0 then some (.cbld (fld 4 w 28) (fld 2 w 16) (fld 6 w 10)) else none
    | 1 => if bits w 21 18 == 0 && bits w 15 1 == 0 then some (.cbldClr (fld 4 w 28) (fld 2 w 16)) else none
    | _ => none)
  | 0x2F => if bits w 21 16 == 0 && bits w 3 0 == 0 then some (.xfgo (fld 4 w 28) (fld 6 w 10) (fld 6 w 4)) else none
  | _ => none

/-- A word of the transform sequencer (02 R64). -/
def decodeTx (w : Nat) : Option Instr :=
  match bits w 31 26 with
  | 0x01 => if bits w 17 12 == 0 then some (.txloop (fld 4 w 22) (fld 4 w 18) (fld 12 w 0)) else none
  | 0x02 => if bits w 25 24 == 0 && bits w 13 11 == 0 then some (.txld (fld 2 w 22) (fld 4 w 18) (fld 4 w 14) (fld 7 w 4) (fld 4 w 0)) else none
  | 0x03 => if bits w 25 24 == 0 && bits w 13 12 == 0 then some (.txst (fld 2 w 22) (fld 4 w 18) (fld 4 w 14) (fld 1 w 11) (fld 7 w 4) (fld 4 w 0)) else none
  | 0x04 =>
    (match bits w 13 0 with
    | 0 => if bits w 25 24 == 0 && bits w 21 20 == 0 && bits w 17 16 == 0 then some (.txopAdd (fld 2 w 22) (fld 2 w 18) (fld 2 w 14)) else none
    | 1 => if bits w 25 24 == 0 && bits w 21 20 == 0 && bits w 17 16 == 0 then some (.txopSub (fld 2 w 22) (fld 2 w 18) (fld 2 w 14)) else none
    | 2 => if bits w 25 24 == 0 && bits w 21 20 == 0 && bits w 17 16 == 0 then some (.txopMul (fld 2 w 22) (fld 2 w 18) (fld 2 w 14)) else none
    | 3 => if bits w 25 24 == 0 && bits w 21 20 == 0 && bits w 17 16 == 0 then some (.txopFma (fld 2 w 22) (fld 2 w 18) (fld 2 w 14)) else none
    | 4 => if bits w 25 24 == 0 && bits w 21 20 == 0 && bits w 17 16 == 0 then some (.txopMax (fld 2 w 22) (fld 2 w 18) (fld 2 w 14)) else none
    | 5 => if bits w 25 24 == 0 && bits w 21 20 == 0 && bits w 17 16 == 0 then some (.txopMin (fld 2 w 22) (fld 2 w 18) (fld 2 w 14)) else none
    | 6 => if bits w 25 24 == 0 && bits w 21 20 == 0 && bits w 17 14 == 0 then some (.txopRelu (fld 2 w 22) (fld 2 w 18)) else none
    | 7 => if bits w 25 24 == 0 && bits w 21 20 == 0 && bits w 17 14 == 0 then some (.txopAbs (fld 2 w 22) (fld 2 w 18)) else none
    | 8 => if bits w 25 24 == 0 && bits w 17 14 == 0 then some (.txopSplat (fld 2 w 22) (fld 4 w 18)) else none
    | _ => none)
  | 0x05 =>
    (match bits w 13 0 with
    | 0 => if bits w 25 24 == 0 && bits w 21 20 == 0 && bits w 17 14 == 0 then some (.txpermRev (fld 2 w 22) (fld 2 w 18)) else none
    | 1 => if bits w 25 24 == 0 && bits w 21 20 == 0 then some (.txpermRot (fld 2 w 22) (fld 2 w 18) (fld 4 w 14)) else none
    | 2 => if bits w 25 24 == 0 && bits w 21 20 == 0 && bits w 17 14 == 0 then some (.txpermZip (fld 2 w 22) (fld 2 w 18)) else none
    | 3 => if bits w 25 24 == 0 && bits w 21 20 == 0 && bits w 17 14 == 0 then some (.txpermUnzip (fld 2 w 22) (fld 2 w 18)) else none
    | _ => none)
  | 0x06 =>
    (match bits w 22 22 with
    | 0 => if bits w 25 23 == 0 && bits w 13 12 == 0 then some (.txcbEnlarge (fld 4 w 18) (fld 4 w 14) (fld 12 w 0)) else none
    | 1 => if bits w 25 23 == 0 && bits w 13 12 == 0 then some (.txcbReduce (fld 4 w 18) (fld 4 w 14) (fld 12 w 0)) else none
    | _ => none)
  | 0x07 => if bits w 25 25 == 0 && bits w 21 0 == 0 then some (.txsig (fld 3 w 22)) else none
  | 0x08 => if bits w 25 25 == 0 && bits w 21 0 == 0 then some (.txwait (fld 3 w 22)) else none
  | 0x09 => some (.txaddi (fld 4 w 22) (fld 4 w 18) (fld 18 w 0))
  | 0x0A => some (.txli (fld 4 w 22) (fld 22 w 0))
  | 0x0B => if bits w 25 0 == 0 then some (.txhalt) else none
  | _ => none

/-- A 64-bit instruction of the C stream: LOOP and LPIPE (04 R111). -/
def decodeC2 (w v : Nat) : Option Instr :=
  match bits w 31 26 with
  | 0x1A =>
    if bits w 25 22 == 0 && bits w 13 0 == 0 && bits v 19 7 == 0 then
      some (.loop (fld 2 w 20) (fld 6 w 14) (fld 1 v 6) (fld 6 v 0) (fld 12 v 20))
    else none
  | 0x1B =>
    if bits w 25 22 == 0 && bits w 13 11 == 0 && bits w 7 0 == 0 then
      some (.lpipe (fld 2 w 20) (fld 6 w 14) (fld 3 w 8) (fld 1 v 6) (fld 1 v 7) (fld 6 v 0) (fld 12 v 8) (fld 12 v 20))
    else none
  | _ => none

/-- A 64-bit instruction of the L, X or S stream (07 R225, 08 R261, 10 R308, R309). -/
def decodeLXS2 (st : Strm) (w v : Nat) : Option Instr :=
  match st, bits w 27 22 with
  | .l, 0x12 =>
    if bits w 3 0 == 0 then
      some (.cfetch (fld 4 w 28) (fld 6 w 16) (fld 6 w 10) (fld 6 w 4) (fld 6 v 0) (fld 8 v 6) (fld 2 v 14) (fld 1 v 16) (fld 2 v 17) (fld 12 v 19) (fld 1 v 31))
    else none
  | .l, 0x13 =>
    if bits w 3 0 == 0 && bits v 30 20 == 0 then
      some (.cqfetch (fld 4 w 28) (fld 6 w 16) (fld 6 w 10) (fld 6 w 4) (fld 6 v 0) (fld 8 v 6) (fld 2 v 14) (fld 1 v 16) (fld 1 v 17) (fld 2 v 18) (fld 1 v 31))
    else none
  | .s, 0x12 =>
    if bits w 3 0 == 0 then
      some (.cstore (fld 4 w 28) (fld 6 w 16) (fld 6 w 10) (fld 6 w 4) (fld 6 v 0) (fld 8 v 6) (fld 2 v 14) (fld 1 v 16) (fld 2 v 17) (fld 12 v 19) (fld 1 v 31))
    else none
  | .s, 0x13 =>
    if bits w 3 0 == 0 && bits v 30 17 == 0 then
      some (.csend (fld 4 w 28) (fld 6 w 16) (fld 6 w 10) (fld 6 w 4) (fld 6 v 0) (fld 8 v 6) (fld 2 v 14) (fld 1 v 16) (fld 1 v 31))
    else none
  | .x, 0x20 =>
    if bits w 21 19 == 0 && bits w 15 14 == 0 && bits w 9 8 == 0 && bits w 3 0 == 0 && bits v 7 7 == 0 && bits v 10 10 == 0 && bits v 31 22 == 0 then
      some (.mma (fld 4 w 28) (fld 3 w 16) (fld 3 w 10) (fld 1 w 13) (fld 3 w 4) (fld 1 w 7) (fld 4 v 0) (fld 2 v 4) (fld 1 v 6) (fld 2 v 8) (fld 3 v 11) (fld 8 v 14))
    else none
  | .x, 0x21 =>
    if bits w 21 19 == 0 && bits w 15 14 == 0 && bits w 9 8 == 0 && bits w 3 0 == 0 && bits v 7 7 == 0 && bits v 10 10 == 0 && bits v 31 22 == 0 then
      some (.mmat (fld 4 w 28) (fld 3 w 16) (fld 3 w 10) (fld 1 w 13) (fld 3 w 4) (fld 1 w 7) (fld 4 v 0) (fld 2 v 4) (fld 1 v 6) (fld 2 v 8) (fld 3 v 11) (fld 8 v 14))
    else none
  | .x, 0x22 =>
    if bits w 21 19 == 0 && bits w 15 14 == 0 && bits w 3 0 == 0 && bits v 7 7 == 0 && bits v 10 10 == 0 && bits v 31 24 == 0 then
      some (.mmac (fld 4 w 28) (fld 3 w 16) (fld 3 w 10) (fld 1 w 13) (fld 6 w 4) (fld 4 v 0) (fld 2 v 4) (fld 1 v 6) (fld 2 v 8) (fld 3 v 11) (fld 8 v 14) (fld 2 v 22))
    else none
  | .x, 0x2B =>
    if bits w 9 0 == 0 && bits v 31 31 == 0 then
      some (.tcon (fld 4 w 28) (fld 6 w 16) (fld 6 w 10) (fld 4 v 0) (fld 4 v 4) (fld 4 v 8) (fld 1 v 12) (fld 1 v 13) (fld 4 v 14) (fld 2 v 18) (fld 3 v 20) (fld 8 v 23))
    else none
  | _, _ => none

/-- The word or words of stream `st` read as an instruction, before the checks of WellFormed: a 64-bit major must have its
continuation and a 32-bit major must not (02 R35). -/
def decodeRaw (st : Strm) (w : W32) (cont : Option W32) : Option Instr :=
  match st, cont with
  | .c, none => decodeC1 w.toNat
  | .c, some v => decodeC2 w.toNat v.toNat
  | .l, none => (decodeLXS1 w.toNat).orElse fun _ => decodeL1 w.toNat
  | .s, none => (decodeLXS1 w.toNat).orElse fun _ => decodeS1 w.toNat
  | .x, none => (decodeLXS1 w.toNat).orElse fun _ => decodeX1 w.toNat
  | st, some v => decodeLXS2 st w.toNat v.toNat

/-- The instruction that stream `st` reads from its word and continuation; `none` is the encoding that raises illegal
instruction (02 R66). -/
def decode (st : Strm) (w : W32) (cont : Option W32) : Option Instr :=
  match decodeRaw st w cont with
  | some i => if i.wf st then some i else none
  | none => none

/-- The instruction that the transform sequencer reads (02 R65). -/
def decodeSeq (w : W32) : Option Instr :=
  match decodeTx w.toNat with
  | some i => if i.wfSeq then some i else none
  | none => none

/-- The little-endian word of four bytes (00 R8). -/
def wordOfBytes : List Byte → W32
  | [a, b, c, d] => BitVec.ofNat 32 (a.toNat + b.toNat * 2 ^ 8 + c.toNat * 2 ^ 16 + d.toNat * 2 ^ 24)
  | _ => 0

/-- The four bytes of a word, lowest address first. -/
def bytesOfWord (w : W32) : List Byte :=
  [BitVec.ofNat 8 w.toNat, BitVec.ofNat 8 (w.toNat / 2 ^ 8), BitVec.ofNat 8 (w.toNat / 2 ^ 16), BitVec.ofNat 8 (w.toNat / 2 ^ 24)]

/-- The eight lanes of the 32 bytes of a line (02 R31). -/
def lanesOfBytes : List Byte → List W32
  | a :: b :: c :: d :: rest => wordOfBytes [a, b, c, d] :: lanesOfBytes rest
  | _ => []

/-- Nibble k of a line's header (02 R31). -/
def nibble (hdr : W32) (k : Nat) : Nat := bits hdr.toNat (4 * k + 3) (4 * k)

/-- Whether lane k of a code line keeps the rules of 02 R33 and R34, given the nibble of the lane before it. -/
def laneOk (nib prev : Nat) (k : Nat) (w : W32) : Bool :=
  if nib == 0 then w == 0
  else if nib ≤ 4 then true
  else if nib == 5 then k != 1 && prev != 0 && prev != 5
  else false

/-- Whether a line is conforming (02 R32 to R34). -/
def lineOk (ws : List W32) : Bool :=
  let hdr := ws.getD 0 0
  let nib := nibble hdr
  if nib 0 == 0 then
    (List.range 7).all (fun j => laneOk (nib (j + 1)) (nib j) (j + 1) (ws.getD (j + 1) 0)) &&
    (List.range 7).any (fun j => nib (j + 1) != 0)
  else if nib 0 == 1 then
    hdr == 1 && (List.range 7).all (fun j => ws.getD (j + 1) 0 == 0)
  else false

/-- The number of a stream in a header nibble (02 R33). -/
def Strm.nib : Strm → Nat
  | .c => 1
  | .l => 2
  | .x => 3
  | .s => 4

/-- The lanes of a conforming code line that route to stream `st`, in ascending order: lane number, word, continuation. -/
def lanesFor (st : Strm) (ws : List W32) : List (Nat × W32 × Option W32) :=
  let nib := nibble (ws.getD 0 0)
  if nib 0 == 1 then [] else
  (List.range 7).filterMap fun j =>
    let k := j + 1
    if nib k == st.nib then
      some (k, ws.getD k 0, if k < 7 && nib (k + 1) == 5 then some (ws.getD (k + 1) 0) else none)
    else none

/-- The instruction this decoder reads from the bits `w` of an opcode-table row. A word alone does not say which stream it is
routed to (that is the line header's nibble, 02 R33): the streams are tried in the order C, X, L, S, then the transform
sequencer, and a word that no 32-bit major takes is tried as the first word of a 64-bit instruction whose second word is the
bits above 31 [13]. -/
def decodeTableWord (nbits w : Nat) : Option Instr :=
  let w0 := wordOfBytes (bytesOfWord (BitVec.ofNat 32 w))
  let w1 := wordOfBytes (bytesOfWord (BitVec.ofNat 32 (if nbits > 32 then w / 2 ^ 32 else 0)))
  let one (st : Strm) := decode st w0 none
  let two (st : Strm) := decode st w0 (some w1)
  let long := (two .c).orElse fun _ => (two .x).orElse fun _ => (two .l).orElse fun _ => two .s
  let short := (one .c).orElse fun _ => (one .x).orElse fun _ => (one .l).orElse fun _ => (one .s).orElse fun _ => decodeSeq w0
  if nbits > 32 then long.orElse fun _ => short else short.orElse fun _ => long

/-- The stream to which the reading of decodeTableWord belongs; `none` is the transform sequencer. -/
def tableWordUnit (nbits w : Nat) : Option Strm :=
  let w0 := wordOfBytes (bytesOfWord (BitVec.ofNat 32 w))
  let w1 := wordOfBytes (bytesOfWord (BitVec.ofNat 32 (if nbits > 32 then w / 2 ^ 32 else 0)))
  let one (st : Strm) := (decode st w0 none).isSome
  let two (st : Strm) := (decode st w0 (some w1)).isSome
  let order : List Strm := [.c, .x, .l, .s]
  if nbits > 32 then (order.find? two).orElse fun _ => order.find? one
  else (order.find? one).orElse fun _ => if (decodeSeq w0).isSome then none else order.find? two

/-- A field placed at bit `lo` of a word. -/
def put {n : Nat} (v : BitVec n) (lo : Nat) : Nat := v.toNat * 2 ^ lo

/-- The word of an arithmetic instruction of the C stream (02 R53), and 0 for every other. -/
def encodeCAlu : Instr → Nat
  | .add d a b => 0x04000000 + put d 20 + put a 14 + put b 8
  | .sub d a b => 0x04000001 + put d 20 + put a 14 + put b 8
  | .mul d a b => 0x04000002 + put d 20 + put a 14 + put b 8
  | .mulh d a b => 0x04000003 + put d 20 + put a 14 + put b 8
  | .mulhu d a b => 0x04000004 + put d 20 + put a 14 + put b 8
  | .div d a b => 0x04000005 + put d 20 + put a 14 + put b 8
  | .divu d a b => 0x04000006 + put d 20 + put a 14 + put b 8
  | .rem d a b => 0x04000007 + put d 20 + put a 14 + put b 8
  | .remu d a b => 0x04000008 + put d 20 + put a 14 + put b 8
  | .and d a b => 0x04000009 + put d 20 + put a 14 + put b 8
  | .or d a b => 0x0400000A + put d 20 + put a 14 + put b 8
  | .xor d a b => 0x0400000B + put d 20 + put a 14 + put b 8
  | .andn d a b => 0x0400000C + put d 20 + put a 14 + put b 8
  | .shl d a b => 0x0400000D + put d 20 + put a 14 + put b 8
  | .shr d a b => 0x0400000E + put d 20 + put a 14 + put b 8
  | .sar d a b => 0x0400000F + put d 20 + put a 14 + put b 8
  | .rol d a b => 0x04000010 + put d 20 + put a 14 + put b 8
  | .ror d a b => 0x04000011 + put d 20 + put a 14 + put b 8
  | .min d a b => 0x04000012 + put d 20 + put a 14 + put b 8
  | .max d a b => 0x04000013 + put d 20 + put a 14 + put b 8
  | .minu d a b => 0x04000014 + put d 20 + put a 14 + put b 8
  | .maxu d a b => 0x04000015 + put d 20 + put a 14 + put b 8
  | .cmpeq d a b => 0x04000016 + put d 20 + put a 14 + put b 8
  | .cmpne d a b => 0x04000017 + put d 20 + put a 14 + put b 8
  | .cmplt d a b => 0x04000018 + put d 20 + put a 14 + put b 8
  | .cmpltu d a b => 0x04000019 + put d 20 + put a 14 + put b 8
  | .cmple d a b => 0x0400001A + put d 20 + put a 14 + put b 8
  | .cmpleu d a b => 0x0400001B + put d 20 + put a 14 + put b 8
  | .mov d a => 0x08000000 + put d 20 + put a 14
  | .not d a => 0x08000001 + put d 20 + put a 14
  | .neg d a => 0x08000002 + put d 20 + put a 14
  | .abs d a => 0x08000003 + put d 20 + put a 14
  | .clz d a => 0x08000004 + put d 20 + put a 14
  | .ctz d a => 0x08000005 + put d 20 + put a 14
  | .popc d a => 0x08000006 + put d 20 + put a 14
  | .sextb d a => 0x08000007 + put d 20 + put a 14
  | .sexth d a => 0x08000008 + put d 20 + put a 14
  | .sextw d a => 0x08000009 + put d 20 + put a 14
  | .zextb d a => 0x0800000A + put d 20 + put a 14
  | .zexth d a => 0x0800000B + put d 20 + put a 14
  | .zextw d a => 0x0800000C + put d 20 + put a 14
  | .bswap d a => 0x0800000D + put d 20 + put a 14
  | .addi d a i => 0x0C000000 + put d 20 + put a 14 + put i 0
  | .andi d a i => 0x10000000 + put d 20 + put a 14 + put i 0
  | .ori d a i => 0x14000000 + put d 20 + put a 14 + put i 0
  | .xori d a i => 0x18000000 + put d 20 + put a 14 + put i 0
  | .muli d a i => 0x3C000000 + put d 20 + put a 14 + put i 0
  | .shiShl d a n => 0x1C000000 + put d 20 + put a 14 + put n 0
  | .shiShr d a n => 0x1C000040 + put d 20 + put a 14 + put n 0
  | .shiSar d a n => 0x1C000080 + put d 20 + put a 14 + put n 0
  | .shiRol d a n => 0x1C0000C0 + put d 20 + put a 14 + put n 0
  | .li d i => 0x20000000 + put d 20 + put i 0
  | .lih d i => 0x24000000 + put d 20 + put i 0
  | .lix d i => 0x28000000 + put d 20 + put i 0
  | .bfx d a s l p => 0x2C000000 + put d 20 + put a 14 + put s 12 + put l 6 + put p 0
  | .bfi d a l p => 0x30000000 + put d 20 + put a 14 + put l 6 + put p 0
  | .sel d a b p => 0x34000000 + put d 20 + put a 14 + put b 8 + put p 0
  | .rgn d a b y => 0x38000000 + put d 20 + put a 14 + put b 8 + put y 0
  | .pset n a b c => 0x40000000 + put n 20 + put a 14 + put b 8 + put c 0
  | _ => 0

/-- The word of another instruction of the C stream (02 R53), and 0 for every other. -/
def encodeCSys : Instr → Nat
  | .pseti n a c i => 0x44000000 + put n 20 + put a 14 + put c 10 + put i 0
  | .pand d a b => 0x48000000 + put d 20 + put a 14 + put b 8
  | .por d a b => 0x48000001 + put d 20 + put a 14 + put b 8
  | .pxor d a b => 0x48000002 + put d 20 + put a 14 + put b 8
  | .pnot d a => 0x48000003 + put d 20 + put a 14
  | .br o => 0x50000000 + put o 0
  | .brp p s o => 0x54000000 + put p 23 + put s 22 + put o 0
  | .call o => 0x58000000 + put o 0
  | .ret => 0x5C000000
  | .jmpi a => 0x60000000 + put a 14
  | .calli a => 0x64000000 + put a 14
  | .lexit => 0x70000000
  | .lrd d s => 0x74000000 + put d 20 + put s 8
  | .lwr a s => 0x74000001 + put a 14 + put s 8
  | .lrdRsbot d => 0x74000F00 + put d 20
  | .lwrRsbot a => 0x74000F01 + put a 14
  | .rep b a d c => 0x78000000 + put b 10 + put a 8 + put d 6 + put c 0
  | .vote => 0x7C000000
  | .ld a w o => 0x80000000 + put a 14 + put w 11 + put o 0
  | .st d a w o => 0x84000000 + put d 20 + put a 14 + put w 11 + put o 0
  | .lds d a w => 0x88000000 + put d 20 + put a 14 + put w 0
  | .sts d a w => 0x8C000000 + put d 20 + put a 14 + put w 0
  | .spld d n => 0x90000000 + put d 20 + put n 0
  | .spst a n => 0x94000000 + put a 14 + put n 0
  | .aadd s o a b => 0xA0000000 + put s 23 + put o 21 + put a 14 + put b 8
  | .aand s o a b => 0xA0000001 + put s 23 + put o 21 + put a 14 + put b 8
  | .aor s o a b => 0xA0000002 + put s 23 + put o 21 + put a 14 + put b 8
  | .axor s o a b => 0xA0000003 + put s 23 + put o 21 + put a 14 + put b 8
  | .amin s o a b => 0xA0000004 + put s 23 + put o 21 + put a 14 + put b 8
  | .amax s o a b => 0xA0000005 + put s 23 + put o 21 + put a 14 + put b 8
  | .aminu s o a b => 0xA0000006 + put s 23 + put o 21 + put a 14 + put b 8
  | .amaxu s o a b => 0xA0000007 + put s 23 + put o 21 + put a 14 + put b 8
  | .aswap s o a b => 0xA0000008 + put s 23 + put o 21 + put a 14 + put b 8
  | .acas s o a b => 0xA0000009 + put s 23 + put o 21 + put a 14 + put b 8
  | .ald s o a => 0xA000000A + put s 23 + put o 21 + put a 14
  | .ast s o a b => 0xA000000B + put s 23 + put o 21 + put a 14 + put b 8
  | .fix => 0xB0000000
  | .swap a => 0xB4000000 + put a 14
  | .fence o s => 0xB8000000 + put o 3 + put s 0
  | .bar a => 0xBC000000 + put a 14
  | .yield => 0xC0000000
  | .waitc a => 0xC4000000 + put a 14
  | .waitk n => 0xC8000000 + put n 0
  | .sigk n => 0xCC000000 + put n 0
  | .epush d a k => 0xD0000000 + put d 20 + put a 14 + put k 0
  | .epop d a m p => 0xD4000000 + put d 20 + put a 14 + put m 11 + put p 8
  | .cbset q a => 0xD8000000 + put q 20 + put a 14
  | .cbwait d q m p => 0xDC000000 + put d 20 + put q 14 + put m 11 + put p 8
  | .rdsys d n => 0xE0000000 + put d 20 + put n 0
  | .wrsys a n => 0xE4000000 + put a 14 + put n 0
  | .trap a n => 0xE8000000 + put a 14 + put n 0
  | .trapKExit d a => 0xE8000080 + put d 20 + put a 14
  | .trapKSaved d a => 0xE8000081 + put d 20 + put a 14
  | .trapKService d a n => 0xE8000080 + put d 20 + put a 14 + put n 0
  | .eret => 0xEC000000
  | .eretSkip => 0xEC000001
  | .rdcyc d => 0xF0000000 + put d 20
  | .bkpt n => 0xF4000000 + put n 0
  | .nop => 0xF8000000
  | .wrsysTag n a => 0xE4000000 + put a 14 + 0x080 + n.toNat
  | .wrsysBndcap a => 0xE4000000 + put a 14 + 0x00B
  | .wrsysTlbinv a => 0xE4000000 + put a 14 + 0x065
  | .wrsysDbuf n a => 0xE4000000 + put a 14 + 0x04C + n.toNat
  | .wrsysBd n a => 0xE4000000 + put a 14 + 0x020 + n.toNat
  | .wrsysEvcnt n a => 0xE4000000 + put a 14 + 0x030 + n.toNat
  | .wrsysEvstat a => 0xE4000000 + put a 14 + 0x049
  | _ => 0

/-- The word of an instruction of L or S, or common to L, X and S (02 R54), and 0 for every other. -/
def encodeLXS : Instr → Nat
  | .saluAdd t d a b => 0x00400000 + put t 28 + put d 16 + put a 10 + put b 4
  | .saluSub t d a b => 0x00400001 + put t 28 + put d 16 + put a 10 + put b 4
  | .saluAnd t d a b => 0x00400002 + put t 28 + put d 16 + put a 10 + put b 4
  | .saluOr t d a b => 0x00400003 + put t 28 + put d 16 + put a 10 + put b 4
  | .saluXor t d a b => 0x00400004 + put t 28 + put d 16 + put a 10 + put b 4
  | .saluShl t d a b => 0x00400005 + put t 28 + put d 16 + put a 10 + put b 4
  | .saluShr t d a b => 0x00400006 + put t 28 + put d 16 + put a 10 + put b 4
  | .saluMin t d a b => 0x00400007 + put t 28 + put d 16 + put a 10 + put b 4
  | .saluMax t d a b => 0x00400008 + put t 28 + put d 16 + put a 10 + put b 4
  | .saluMul t d a b => 0x00400009 + put t 28 + put d 16 + put a 10 + put b 4
  | .saluMov t d a => 0x0040000A + put t 28 + put d 16 + put a 10
  | .lxsAddi t d a i => 0x00800000 + put t 28 + put d 16 + put a 10 + put i 0
  | .lxsLi t d i => 0x00C00000 + put t 28 + put d 16 + put i 0
  | .lxsLih t d i => 0x01000000 + put t 28 + put d 16 + put i 0
  | .lxsRgn t d a b y => 0x01400000 + put t 28 + put d 16 + put a 10 + put b 4 + put y 0
  | .lxsBfx t d a b s => 0x01800000 + put t 28 + put d 16 + put a 10 + put b 4 + put s 0
  | .lxsPset t n a b c => 0x01C00000 + put t 28 + put n 16 + put a 10 + put b 4 + put c 0
  | .lxsWaitc t a => 0x02000000 + put t 28 + put a 10
  | .lxsEpop t d a m p => 0x02400000 + put t 28 + put d 16 + put a 10 + put m 7 + put p 4
  | .lxsCbwait t d q m p => 0x02800000 + put t 28 + put d 16 + put q 10 + put m 7 + put p 4
  | .lxsNop t => 0x02C00000 + put t 28
  | .lxsRep b a d c => 0x03000000 + put b 10 + put a 8 + put d 6 + put c 0
  | .ldt t n a w => 0x04000000 + put t 28 + put n 16 + put a 10 + put w 0
  | .ldtc t n a b w => 0x04400000 + put t 28 + put n 16 + put a 10 + put b 4 + put w 0
  | .stt t d f n => 0x04000000 + put t 28 + put d 16 + put f 13 + put n 10
  | .sttc t d f n b => 0x04400000 + put t 28 + put d 16 + put f 13 + put n 10 + put b 4
  | _ => 0

/-- The word of a vector instruction of the X stream (02 R54), and 0 for every other. -/
def encodeXv : Instr → Nat
  | .vadd t d a b => 0x04000000 + put t 28 + put d 16 + put a 10 + put b 4
  | .vsub t d a b => 0x04000001 + put t 28 + put d 16 + put a 10 + put b 4
  | .vmul t d a b => 0x04000002 + put t 28 + put d 16 + put a 10 + put b 4
  | .vdiv t d a b => 0x04000003 + put t 28 + put d 16 + put a 10 + put b 4
  | .vmin t d a b => 0x04000004 + put t 28 + put d 16 + put a 10 + put b 4
  | .vmax t d a b => 0x04000005 + put t 28 + put d 16 + put a 10 + put b 4
  | .vand t d a b => 0x04000006 + put t 28 + put d 16 + put a 10 + put b 4
  | .vor t d a b => 0x04000007 + put t 28 + put d 16 + put a 10 + put b 4
  | .vxor t d a b => 0x04000008 + put t 28 + put d 16 + put a 10 + put b 4
  | .vshl t d a b => 0x04000009 + put t 28 + put d 16 + put a 10 + put b 4
  | .vshr t d a b => 0x0400000A + put t 28 + put d 16 + put a 10 + put b 4
  | .vsar t d a b => 0x0400000B + put t 28 + put d 16 + put a 10 + put b 4
  | .vadds t d a b => 0x0400000C + put t 28 + put d 16 + put a 10 + put b 4
  | .vsubs t d a b => 0x0400000D + put t 28 + put d 16 + put a 10 + put b 4
  | .vavg t d a b => 0x0400000E + put t 28 + put d 16 + put a 10 + put b 4
  | .vfma t d a b => 0x04400000 + put t 28 + put d 16 + put a 10 + put b 4
  | .vabs t d a => 0x04800000 + put t 28 + put d 16 + put a 10
  | .vneg t d a => 0x04800001 + put t 28 + put d 16 + put a 10
  | .vnot t d a => 0x04800002 + put t 28 + put d 16 + put a 10
  | .vcpy t d a => 0x04800003 + put t 28 + put d 16 + put a 10
  | .vfill t d a => 0x04800004 + put t 28 + put d 16 + put a 10
  | .vrsq t d a => 0x04800005 + put t 28 + put d 16 + put a 10
  | .vrcp t d a => 0x04800006 + put t 28 + put d 16 + put a 10
  | .vcvt t d a s r => 0x04C00000 + put t 28 + put d 16 + put a 10 + put s 3 + put r 0
  | .vredSum t d a => 0x05000000 + put t 28 + put d 16 + put a 10
  | .vredMax t d a => 0x05000001 + put t 28 + put d 16 + put a 10
  | .vredMin t d a => 0x05000002 + put t 28 + put d 16 + put a 10
  | .vredArgmax t d a => 0x05000003 + put t 28 + put d 16 + put a 10
  | .vredArgmin t d a => 0x05000004 + put t 28 + put d 16 + put a 10
  | .vscanSum t d a e => 0x05400000 + put t 28 + put d 16 + put a 10 + put e 2
  | .vscanMax t d a e => 0x05400001 + put t 28 + put d 16 + put a 10 + put e 2
  | .vscanMin t d a e => 0x05400002 + put t 28 + put d 16 + put a 10 + put e 2
  | .vsel t d a b i => 0x05800000 + put t 28 + put d 16 + put a 10 + put b 4 + put i 0
  | .vcmp t d a b u c => 0x05C00000 + put t 28 + put d 16 + put a 10 + put b 4 + put u 3 + put c 0
  | _ => 0

/-- The word of another instruction of the X stream (02 R54), and 0 for every other. -/
def encodeXm : Instr → Nat
  | .part t d a b => 0x06000000 + put t 28 + put d 16 + put a 10 + put b 4
  | .vgath t d a b => 0x06400000 + put t 28 + put d 16 + put a 10 + put b 4
  | .vscat t d a b => 0x06800000 + put t 28 + put d 16 + put a 10 + put b 4
  | .vquant t d a c g => 0x06C00000 + put t 28 + put d 16 + put a 10 + put c 4 + put g 0
  | .vdeq t d a c => 0x07000000 + put t 28 + put d 16 + put a 10 + put c 4
  | .vpermRev t d a => 0x07400000 + put t 28 + put d 16 + put a 10
  | .vpermTrn t d a b => 0x07400001 + put t 28 + put d 16 + put a 10 + put b 4
  | .vpermZip t d a => 0x07400002 + put t 28 + put d 16 + put a 10
  | .vpermUnzip t d a => 0x07400003 + put t 28 + put d 16 + put a 10
  | .vpermRot t d a b => 0x07400004 + put t 28 + put d 16 + put a 10 + put b 4
  | .accrd t d m c n i s v => 0x08C00000 + put t 28 + put d 16 + put m 14 + put c 13 + put n 10 + put i 2 + put s 1 + put v 0
  | .accwr t m c n a i v => 0x09000000 + put t 28 + put m 20 + put c 19 + put n 16 + put a 10 + put i 2 + put v 0
  | .accz t m c n => 0x09400000 + put t 28 + put m 20 + put c 19 + put n 16
  | .apeek t d m c n i s v => 0x09800000 + put t 28 + put d 16 + put m 14 + put c 13 + put n 10 + put i 2 + put s 1 + put v 0
  | .mstat t d m p s => 0x09C00000 + put t 28 + put d 16 + put m 7 + put p 4 + put s 0
  | .maskRange t p a c => 0x0A000000 + put t 28 + put p 16 + put a 10 + put c 0
  | .maskRegion t p a c => 0x0A000002 + put t 28 + put p 16 + put a 10 + put c 0
  | .ftsel t a => 0x0A400000 + put t 28 + put a 10
  | .bdset t n a => 0x0A800000 + put t 28 + put n 16 + put a 10
  | .bdsetLd t d a => 0x0A800001 + put t 28 + put d 16 + put a 10
  | .bdsetLdw t d a => 0x0A800002 + put t 28 + put d 16 + put a 10
  | .bdsetSt t d => 0x0A800003 + put t 28 + put d 16
  | .bdsetStw t d => 0x0A800004 + put t 28 + put d 16
  | .bdsetAck t => 0x0A800005 + put t 28
  | .bdsetClr t => 0x0A800006 + put t 28
  | .cplan t d a q => 0x0B000000 + put t 28 + put d 16 + put a 10 + put q 0
  | .crdRot t d a b => 0x0B400000 + put t 28 + put d 16 + put a 10 + put b 4
  | .crdVec t d a b => 0x0B400001 + put t 28 + put d 16 + put a 10 + put b 4
  | .crdHrot t d a b => 0x0B400002 + put t 28 + put d 16 + put a 10 + put b 4
  | .crdHvec t d a b => 0x0B400003 + put t 28 + put d 16 + put a 10 + put b 4
  | .crdLin t d a b => 0x0B400004 + put t 28 + put d 16 + put a 10 + put b 4
  | .cbld t k a => 0x0B800000 + put t 28 + put k 16 + put a 10
  | .cbldClr t k => 0x0B800001 + put t 28 + put k 16
  | .xfgo t a b => 0x0BC00000 + put t 28 + put a 10 + put b 4
  | _ => 0

/-- The word of an instruction of the transform sequencer (02 R64), and 0 for every other. -/
def encodeTx : Instr → Nat
  | .txloop d a l => 0x04000000 + put d 22 + put a 18 + put l 0
  | .txld d a b c ty => 0x08000000 + put d 22 + put a 18 + put b 14 + put c 4 + put ty 0
  | .txst d a b s c ty => 0x0C000000 + put d 22 + put a 18 + put b 14 + put s 11 + put c 4 + put ty 0
  | .txopAdd d a b => 0x10000000 + put d 22 + put a 18 + put b 14
  | .txopSub d a b => 0x10000001 + put d 22 + put a 18 + put b 14
  | .txopMul d a b => 0x10000002 + put d 22 + put a 18 + put b 14
  | .txopFma d a b => 0x10000003 + put d 22 + put a 18 + put b 14
  | .txopMax d a b => 0x10000004 + put d 22 + put a 18 + put b 14
  | .txopMin d a b => 0x10000005 + put d 22 + put a 18 + put b 14
  | .txopRelu d a => 0x10000006 + put d 22 + put a 18
  | .txopAbs d a => 0x10000007 + put d 22 + put a 18
  | .txopSplat d a => 0x10000008 + put d 22 + put a 18
  | .txpermRev d a => 0x14000000 + put d 22 + put a 18
  | .txpermRot d a b => 0x14000001 + put d 22 + put a 18 + put b 14
  | .txpermZip d a => 0x14000002 + put d 22 + put a 18
  | .txpermUnzip d a => 0x14000003 + put d 22 + put a 18
  | .txcbEnlarge a b s => 0x18000000 + put a 18 + put b 14 + put s 0
  | .txcbReduce a b s => 0x18400000 + put a 18 + put b 14 + put s 0
  | .txsig n => 0x1C000000 + put n 22
  | .txwait n => 0x20000000 + put n 22
  | .txaddi d a i => 0x24000000 + put d 22 + put a 18 + put i 0
  | .txli d i => 0x28000000 + put d 22 + put i 0
  | .txhalt => 0x2C000000
  | _ => 0

/-- The word of a one-word instruction, as a number: exactly one of the six groups holds it. -/
def encode1 (i : Instr) : Nat := encodeCAlu i + encodeCSys i + encodeLXS i + encodeXv i + encodeXm i + encodeTx i

/-- The two words of a 64-bit instruction (04 R111, 07 R225, 08 R261, 10 R308, R309). -/
def encode2 : Instr → Nat × Nat
  | .loop lv a imm len icnt => (0x68000000 + put lv 20 + put a 14, put len 0 + put imm 6 + put icnt 20)
  | .lpipe lv a stages imm m len moff icnt =>
    (0x6C000000 + put lv 20 + put a 14 + put stages 8,
     put len 0 + put imm 6 + put m 7 + put moff 8 + put icnt 20)
  | .cfetch t d a b slot tag seed cmp codec size nt =>
    (0x04800000 + put t 28 + put d 16 + put a 10 + put b 4,
     put slot 0 + put tag 6 + put seed 14 + put cmp 16 + put codec 17 + put size 19 + put nt 31)
  | .cqfetch t d a b slot tag seed cmp bf16 cbk nt =>
    (0x04C00000 + put t 28 + put d 16 + put a 10 + put b 4,
     put slot 0 + put tag 6 + put seed 14 + put cmp 16 + put bf16 17 + put cbk 18 + put nt 31)
  | .cstore t d a b slot tag seed cmp codec size nt =>
    (0x04800000 + put t 28 + put d 16 + put a 10 + put b 4,
     put slot 0 + put tag 6 + put seed 14 + put cmp 16 + put codec 17 + put size 19 + put nt 31)
  | .csend t d a b slot tag seed cmp nt =>
    (0x04C00000 + put t 28 + put d 16 + put a 10 + put b 4,
     put slot 0 + put tag 6 + put seed 14 + put cmp 16 + put nt 31)
  | .mma t n ta fa tb fb fsel mode cm mk cb tag =>
    (0x08000000 + put t 28 + put n 16 + put ta 10 + put fa 13 + put tb 4 + put fb 7,
     put fsel 0 + put mode 4 + put cm 6 + put mk 8 + put cb 11 + put tag 14)
  | .mmat t n ta fa tb fb fsel mode cm mk cb tag =>
    (0x08400000 + put t 28 + put n 16 + put ta 10 + put fa 13 + put tb 4 + put fb 7,
     put fsel 0 + put mode 4 + put cm 6 + put mk 8 + put cb 11 + put tag 14)
  | .mmac t n ta fa b fsel mode cm mk cb tag tsrc =>
    (0x08800000 + put t 28 + put n 16 + put ta 10 + put fa 13 + put b 4,
     put fsel 0 + put mode 4 + put cm 6 + put mk 8 + put cb 11 + put tag 14 + put tsrc 22)
  | .tcon t d a l r nb fold mode fmt cbk cb tag =>
    (0x0AC00000 + put t 28 + put d 16 + put a 10,
     put l 0 + put r 4 + put nb 8 + put fold 12 + put mode 13 + put fmt 14 + put cbk 18 +
     put cb 20 + put tag 23)
  | _ => (0, 0)

/-- Whether an instruction has two words (02 R55). -/
def Instr.long : Instr → Bool
  | .loop .. | .lpipe .. | .cfetch .. | .cqfetch .. | .cstore .. | .csend .. | .mma .. | .mmat .. | .mmac .. | .tcon .. => true
  | _ => false

/-- The words of an instruction: its word and, for a 64-bit instruction, its continuation. -/
def encode (i : Instr) : W32 × Option W32 :=
  if i.long then (BitVec.ofNat 32 (encode2 i).1, some (BitVec.ofNat 32 (encode2 i).2)) else (BitVec.ofNat 32 (encode1 i), none)

end Sys2Proof
end

