-- ==== Sys2Proof/Machine/SysRegs.lean ====
section
/-! DEFINITION. The system registers of a context by number (12 R363): who may read and write one, what a read gives, which
values a write may carry, and what a write does when it lands. -/

namespace Sys2Proof.Machine

open Sys2Proof

/-- Which level may do what to a system register (12 R363 and each register's own rule). -/
inductive SysAccess where
  /-- Tenant and kernel read it, no level writes it: a WRSYS has no effect. -/
  | readOnly
  /-- Kernel only, read and write. -/
  | kernel
  /-- A tenant reads it, only the kernel writes it. -/
  | kernelWrite
  /-- Tenant and kernel read and write it. -/
  | tenant
  /-- sys.tagN: the tenant that holds the tag, and the kernel (05 R155). -/
  | tag (n : Nat)
  deriving DecidableEq, Repr

/-- The access class of register `n`. -/
def sysAccess (n : Nat) : SysAccess :=
  if n = 0x001 ∨ n = 0x003 ∨ n = 0x00A ∨ n = 0x00C ∨ n = 0x057 then .readOnly
  else if n = 0x002 ∨ n = 0x058 ∨ n = 0x064 ∨ n = 0x065 ∨ n = 0x066 then .kernel
  else if n = 0x000 ∨ n = 0x00D ∨ n = 0x00E ∨ (0x051 ≤ n ∧ n ≤ 0x054) ∨ n = 0x056 ∨ n = 0x059 ∨ (0x060 ≤ n ∧ n ≤ 0x063) ∨
      (0x0C0 ≤ n ∧ n ≤ 0x0FF) then .kernelWrite
  else if 0x080 ≤ n ∧ n ≤ 0x09F then .tag (n - 0x080)
  else .tenant

/-- Whether the running level may read the register. -/
def Ctx.maySysRead (k : Ctx) (n : Nat) : Bool :=
  match sysAccess n with
  | .kernel => k.kernelLvl
  | .tag t => k.kernelLvl || k.lt.sys.tagown.getLsbD t
  | _ => true

/-- Whether the running level's write raises privileged (0x03). -/
def Ctx.maySysWrite (k : Ctx) (n : Nat) : Bool :=
  match sysAccess n with
  | .kernel => k.kernelLvl
  | .kernelWrite => k.kernelLvl
  | .tag t => k.kernelLvl || k.lt.sys.tagown.getLsbD t
  | _ => true

/-- A tile tag as sys.tagN reads (05 R156). -/
def Tag.word (t : Tag) : Word :=
  BitVec.ofNat 64 (t.base + t.size * 2 ^ 12 + t.wcnt * 2 ^ 24 + t.rcnt * 2 ^ 28 + (if t.en then 2 ^ 32 else 0) +
    (if t.full then 2 ^ 33 else 0) + t.wadm * 2 ^ 34 + t.radm * 2 ^ 39)

/-- The tile tag that a WRSYS value gives (05 R156, R157): wadm and radm become 0. -/
def Tag.ofWord (v : Word) : Tag :=
  ⟨wbits v 11 0, wbits v 23 12, wbits v 27 24, wbits v 31 28, v.getLsbD 32, v.getLsbD 33, 0, 0, 0, 0⟩

/-- The first and last byte offsets of a tag's range. -/
def Tag.range (t : Tag) : Nat × Nat := (t.base * 512, t.base * 512 + (t.size + 1) * 512)

/-- Age of an event window (06 R209). -/
def SysRegs.age (r : SysRegs) (cycle c : Nat) : Nat :=
  match r.evopen[c]?.getD none with
  | some t => Nat.min (cycle - t) (2 ^ 32 - 1)
  | none => 0

/-- What RDSYS of register `n` gives (12 R363). -/
def sysRead (cycle id : Nat) (k : Ctx) (n : Nat) : Word :=
  let r := k.lt.sys
  if n = 0x000 then BitVec.ofNat 64 k.rank.toNat
  else if n = 0x001 then k.coord
  else if n = 0x002 then placeWord id
  else if n = 0x003 then (if k.kernelLvl then 1 else 0)
  else if n = 0x008 then r.fpctl
  else if n = 0x009 then r.decay
  else if n = 0x00A then r.ftlink
  else if n = 0x00B then r.bndcap
  else if n = 0x00C then r.bndshape
  else if n = 0x00D then r.wdlimit
  else if n = 0x00E then BitVec.ofNat 64 (Nat.min k.wd (2 ^ 32 - 1))
  else if 0x010 ≤ n ∧ n ≤ 0x01F then r.ft[n - 0x010]?.getD 0
  else if 0x020 ≤ n ∧ n ≤ 0x02F then r.bd[n - 0x020]?.getD 0
  else if 0x030 ≤ n ∧ n ≤ 0x037 then
    BitVec.ofNat 64 ((r.evcnt[n - 0x030]?.getD 0).toNat + r.age cycle (n - 0x030) * 2 ^ 32)
  else if 0x038 ≤ n ∧ n ≤ 0x03F then r.evthr[n - 0x038]?.getD 0
  else if 0x040 ≤ n ∧ n ≤ 0x047 then r.evwin[n - 0x040]?.getD 0
  else if n = 0x048 then r.evctl
  else if n = 0x049 then r.evstat
  else if 0x04C ≤ n ∧ n ≤ 0x04F then r.dbuf[n - 0x04C]?.getD 0
  else if n = 0x050 then r.tvec
  else if n = 0x051 then r.tcause
  else if n = 0x052 then r.tpc
  else if n = 0x053 then r.tinfo0
  else if n = 0x054 then r.tinfo1
  else if n = 0x056 then r.savebudget
  else if n = 0x057 then BitVec.ofNat 64 k.fsBound
  else if n = 0x058 then r.recallWord
  else if n = 0x059 then r.ctxarea
  else if n = 0x060 then r.spbase
  else if n = 0x061 then r.spsize
  else if n = 0x062 then r.accset
  else if n = 0x063 then r.tagown
  else if n = 0x064 then r.ptroot
  else if n = 0x065 then r.tlbinv
  else if n = 0x066 then (if k.halted then r.dbgctl ||| 2 else r.dbgctl)
  else if 0x080 ≤ n ∧ n ≤ 0x09F then (r.tags[n - 0x080]?.getD Tag.reset).word
  else if 0x0C0 ≤ n ∧ n ≤ 0x0FF then r.slots[n - 0x0C0]?.getD 0
  else 0

/-- Whether the reserved bits of a slot value are zero and its fields in range (10 R302). -/
def slotValueOk (v : Word) : Bool :=
  let path := wbits v 3 0
  let port := wbits v 11 4
  let period := wbits v 20 16
  if path = 0 then v == 0
  else
    decide (path ≤ 5) && decide (wbits v 14 12 ≤ 2) && wbits v 15 15 == 0 && wbits v 63 61 == 0 &&
    (if path = 2 ∨ path = 3 then decide (port < 24) else if path = 5 then decide (port < 64) else port == 0) &&
    decide (4 ≤ period) && decide (period ≤ 20) && decide (wbits v 40 21 + wbits v 60 41 + 1 ≤ 2 ^ period)

/-- Whether a value that the level may write has its reserved bits zero and its fields legal (00 R11, and each register's own
rule); a value that fails raises 0x02 and changes nothing. -/
def sysValueOk (n : Nat) (v : Word) : Bool :=
  if n = 0x000 then wbits v 63 3 == 0
  else if n = 0x002 then wbits v 63 10 == 0
  else if n = 0x008 then wbits v 63 3 == 0
  else if n = 0x009 then wbits v 63 32 == 0
  else if n = 0x00B then wbits v 15 4 == 0 && wbits v 63 32 == 0
  else if n = 0x00D then wbits v 63 32 == 0
  else if n = 0x00E then wbits v 63 32 == 0
  else if 0x010 ≤ n ∧ n ≤ 0x01F then wbits v 63 12 == 0 && decide (wbits v 3 0 < 12) && decide (wbits v 7 4 < 12)
  else if 0x020 ≤ n ∧ n ≤ 0x02F then wbits v 63 13 == 0 && decide (1 ≤ wbits v 12 0) && decide (wbits v 12 0 ≤ 4096)
  else if 0x038 ≤ n ∧ n ≤ 0x047 then wbits v 63 32 == 0
  else if n = 0x048 then wbits v 63 16 == 0
  else if n = 0x049 then wbits v 63 8 == 0
  else if 0x04C ≤ n ∧ n ≤ 0x04F then wbits v 63 50 == 0
  else if n = 0x050 then wbits v 4 1 == 0 && wbits v 63 48 == 0
  else if n = 0x051 then wbits v 63 20 == 0
  else if n = 0x052 then wbits v 63 48 == 0
  else if n = 0x054 then wbits v 31 17 == 0
  else if n = 0x056 then wbits v 63 32 == 0
  else if n = 0x058 then wbits v 63 33 == 0
  else if n = 0x059 then wbits v 63 48 == 0
  else if n = 0x060 then wbits v 11 0 == 0 && wbits v 63 21 == 0
  else if n = 0x061 then wbits v 11 0 == 0 && wbits v 63 22 == 0
  else if n = 0x062 then wbits v 63 7 == 0
  else if n = 0x063 then wbits v 63 32 == 0
  else if n = 0x064 then wbits v 11 1 == 0 && wbits v 63 48 == 0
  else if n = 0x065 then wbits v 15 6 == 0 && wbits v 63 48 == 0
  else if n = 0x066 then wbits v 63 2 == 0
  else if 0x080 ≤ n ∧ n ≤ 0x09F then wbits v 63 44 == 0
  else if 0x0C0 ≤ n ∧ n ≤ 0x0FF then slotValueOk v
  else true

/-- A run of the context occupies its core's sequencer. -/
def State.running (s : State) (id : Nat) : Bool :=
  match (s.core (coreOf id)).seq.run with
  | some r => r.ctx == id
  | none => false

/-- Engine work of a context queued or in flight, and loads and atomics whose entries have not been posted (12 R365,
15 R425); a run that an earlier save suspended and that waits for the sequencer is queued work too. -/
def Ctx.engineBusy (k : Ctx) : Bool :=
  !k.mats.isEmpty || !k.quants.isEmpty || !k.crds.isEmpty || !k.xf.isEmpty || k.xfRun.isSome || !k.cmds.isEmpty || !k.loads.isEmpty ||
  !k.atoms.isEmpty

/-- Work of an ended context that is not yet complete (01 R27): its shares stay with it. -/
def State.atWork (s : State) (id : Nat) (k : Ctx) : Bool := k.engineBusy || !k.pends.isEmpty || s.running id

/-- A context stands on its core: it runs, or its save is under way. -/
def Ctx.onItsCore (k : Ctx) : Bool := k.res == .resident || k.res == .saving

/-- A context holds its shares: it stands on its core, or has ended with work not yet complete (01 R27). -/
def State.stays (s : State) (p : Nat × Ctx) : Bool := p.2.onItsCore || (p.2.res == .ended && s.atWork p.1 p.2)

/-- The contexts that share a core with context `id`, itself left out, and hold their shares. -/
def State.peers (s : State) (id : Nat) : List (Nat × Ctx) := s.ctxs.filter fun p => p.1 / 4 == id / 4 && p.1 != id && s.stays p

/-- Two half-open ranges meet. -/
def meets (a b c d : Nat) : Bool := decide (a < d) && decide (c < b) && decide (a < b) && decide (c < d)

/-- Whether a partition of this base and size stays in 2 MiB and clear of every other context of the core (05 R144). -/
def State.partOk (s : State) (id base size : Nat) : Bool :=
  decide (base + size ≤ 2 ^ 21) && (s.peers id).all fun p => !(meets base (base + size) p.2.spBase (p.2.spBase + p.2.spSize))

/-- Whether a run of units stays in the store and clear of every other context of the core (07 R215). -/
def State.runOk (s : State) (id base cnt : Nat) : Bool :=
  decide (base + cnt ≤ 8) && (s.peers id).all fun p => !(meets base (base + cnt) p.2.accBase (p.2.accBase + p.2.accCnt))

/-- The kernel's checks of the registers that describe shares, slots, recall and the context area, beyond the reserved bits
(05 R144, R155, 07 R215, 10 R302, 12 R369, R372). A write of sys.tagown is not held against the tags of the core's other contexts: R155 names
no consequence, and keeping them apart is left to the kernel [61]. -/
def State.kernelWriteOk (s : State) (id : Nat) (k : Ctx) (n : Nat) (v : Word) : Bool :=
  if n = 0x060 then s.partOk id (wbits v 20 12 * 4096) k.spSize
  else if n = 0x061 then s.partOk id k.spBase (wbits v 21 12 * 4096)
  else if n = 0x062 then s.runOk id (wbits v 2 0) (wbits v 6 3)
  else if n = 0x058 then !(v.getLsbD 32) || decide (k.fsBound ≤ wbits v 31 0)
  else if n = 0x059 then decide (64 ≤ wbits v 15 0)
  else true

/-- Whether dbuf register `n` with value `v` keeps its ranges in the address space and clear of every other enabled pair
(11 R347). -/
def SysRegs.dbufOk (r : SysRegs) (n : Nat) (v : Word) : Bool :=
  let lo (w : Word) : Nat := wbits w 31 0
  let hi (w : Word) : Nat := wbits w 31 0 + 2 * wbits w 47 32
  decide (hi v ≤ 2 ^ 32) &&
  (!(v.getLsbD 48) || (List.range 4).all fun j =>
    j == n || (let w := r.dbuf[j]?.getD 0; !(w.getLsbD 48) || !(meets (lo v) (hi v) (lo w) (hi w))))

/-- A value landing in register `n` (12 R363): RO fields keep theirs. -/
def Ctx.sysLand (k : Ctx) (cycle n : Nat) (v : Word) : Ctx :=
  let r := k.lt.sys
  if n = 0x000 then { k with rank := v.setWidth 3 }
  else if n = 0x008 then k.setSys { r with fpctl := v }
  else if n = 0x009 then k.setSys { r with decay := v }
  else if n = 0x00B then k.setSys { r with bndcap := v }
  else if n = 0x00D then k.setSys { r with wdlimit := v }
  else if 0x010 ≤ n ∧ n ≤ 0x01F then k.setSys { r with ft := r.ft.setIfInBounds (n - 0x010) v }
  else if 0x020 ≤ n ∧ n ≤ 0x02F then k.setSys { r with bd := r.bd.setIfInBounds (n - 0x020) v }
  else if 0x030 ≤ n ∧ n ≤ 0x037 then
    let c : W32 := v.setWidth 32
    k.setSys { r with evcnt := r.evcnt.setIfInBounds (n - 0x030) c
                      evopen := r.evopen.setIfInBounds (n - 0x030) (if c = 0 then none else some cycle) }
  else if 0x038 ≤ n ∧ n ≤ 0x03F then k.setSys { r with evthr := r.evthr.setIfInBounds (n - 0x038) v }
  else if 0x040 ≤ n ∧ n ≤ 0x047 then k.setSys { r with evwin := r.evwin.setIfInBounds (n - 0x040) v }
  else if n = 0x048 then k.setSys { r with evctl := v }
  else if n = 0x049 then k.setSys { r with evstat := r.evstat &&& ~~~v }
  else if 0x04C ≤ n ∧ n ≤ 0x04F then
    k.setSys { r with dbuf := r.dbuf.setIfInBounds (n - 0x04C) (v &&& ~~~(BitVec.twoPow 64 49)) }
  else if n = 0x050 then k.setSys { r with tvec := v }
  else if n = 0x056 then k.setSys { r with savebudget := v }
  else if n = 0x058 then k.setSys { r with recallWord := v }
  else if n = 0x059 then k.setSys { r with ctxarea := v }
  else if n = 0x060 then k.setSys { r with spbase := v }
  else if n = 0x061 then k.setSys { r with spsize := v }
  else if n = 0x062 then k.setSys { r with accset := v }
  else if n = 0x063 then k.setSys { r with tagown := v }
  else if n = 0x064 then k.setSys { r with ptroot := v }
  else if n = 0x065 then k.setSys { r with tlbinv := v }
  else if n = 0x066 then k.setSys { r with dbgctl := v &&& 1 }
  else if 0x080 ≤ n ∧ n ≤ 0x09F then k.setSys { r with tags := r.tags.setIfInBounds (n - 0x080) (Tag.ofWord v) }
  else if 0x0C0 ≤ n ∧ n ≤ 0x0FF then k.setSys { r with slots := r.slots.setIfInBounds (n - 0x0C0) v }
  else k

/-- A value that lands in register `n`, with what follows from it: a tag that passes to the context, or from it, is zeroed (01 R26) [61]. -/
def Ctx.sysNow (k : Ctx) (cycle n : Nat) (v : Word) : Ctx :=
  let k' := k.sysLand cycle n v
  if n = 0x063 then
    let passes := k.lt.sys.tagown ^^^ v
    k'.setSys { k'.lt.sys with tags := Vector.ofFn fun i => if passes.getLsbD i.val then Tag.reset else k.lt.sys.tags[i.val]?.getD Tag.reset }
  else k'

end Sys2Proof.Machine
end

