-- ==== Sys2Proof/Machine/Operands.lean ====
section
/-! DEFINITION. Every operand form of a stream's words (02 R49-R52), the issue of one word by its stream (02 R45, 04 R120), and
the landing of results (03 R71-R76). -/

namespace Sys2Proof.Machine

open Sys2Proof

/-- What one word sees while it issues: the package, the context's index, the issuing stream, the context before the issue
(which operands are read from) and with its pops taken and its pushes reserved, and the pushes it owes. -/
structure Env where
  s    : State
  id   : Nat
  st   : Strm
  k0   : Ctx
  k    : Ctx
  push : List Ctr

/-- What a word leaves for the stream's next word: nothing, the prefix that it is (03 R85, 04 R135), or the queue as it stands (ERET,
whose queue is not its own any more; a WAITC that waits). -/
inductive Prefix where
  | none
  | rep (r : RepState)
  | vote (l : Lane)
  | stays

/-- What the issue of a word leaves: the package, the context's record, the issue cycles taken, and the prefix it is. -/
structure Done where
  s    : State
  k    : Ctx
  cost : Nat
  pre  : Prefix

/-- The value of a source specifier in the issue cycle (02 R49). -/
def readSrc (cycle : Nat) (k : Ctx) (st : Strm) (v : Spec) : Word :=
  let ss := k.strm st
  let n := v.toNat
  if n ≤ 15 then ss.q[n]?.getD 0
  else if n ≤ 23 then ss.o[n - 16]?.getD 0
  else if n = 24 then 0
  else if n ≤ 27 then BitVec.ofNat 64 (ss.index (n - 25))
  else if n ≤ 29 then
    match inPipe st v with
    | some p => (k.lt.pipe p).headD 0
    | none => 0
  else if n = 30 then BitVec.ofNat 64 (cycle % 2 ^ 32)
  else if n = 31 then 1
  else ss.g[gPhys ss.rot (n - 32)]?.getD 0

/-- The value of a source specifier, read by a word that issues. -/
def Env.rd (e : Env) (v : Spec) : Word := readSrc e.s.cycle e.k0 e.st v

/-- The predicate n of the issuing stream. -/
def Env.pred (e : Env) (n : Nat) : Bool := (e.k0.strm e.st).p[n]?.getD false

/-- The marked predicate that a word of the issuing stream reads (13 R385). -/
def Env.predGood (e : Env) (n : Nat) : Att Unit :=
  if e.k0.lt.bad.contains (.p e.st n) then .consumed [.file e.id (.p e.st n)] else .ok ()

/-- Where a destination specifier sends its result: the physical register, or the pipe (03 R76). -/
def dstTarget (k : Ctx) (st : Strm) (d : Spec) : Target :=
  let n := d.toNat
  if n = 0 then .qOnly
  else if 16 ≤ n ∧ n ≤ 23 then .o (n - 16)
  else if 32 ≤ n then .g (gPhys (k.strm st).rot (n - 32))
  else
    match outPipe st d with
    | some p => .pipe p
    | none => .qOnly

/-- The cycle in which a result of latency `lat` lands: one later when the word is voted (04 R135). -/
def landAt (cycle : Nat) (k : Ctx) (st : Strm) (lat : Nat) : Nat :=
  cycle + lat + (if st == .c && (k.strm .c).vote.isSome then 1 else 0)

/-- A result put in flight (03 R71). -/
def Ctx.fly (k : Ctx) (st : Strm) (land : Nat) (tgt : Target) (val : Word) (q : Bool) (push : List Ctr) : Ctx :=
  k.setLt { k.lt with flights := k.lt.flights ++ [⟨st, land, k.lt.ord, tgt, val, q, push⟩], ord := k.lt.ord + 1 }

/-- The register result of a word: it enters its destination and q0 when it lands (03 R74). -/
def Env.result (e : Env) (d : Spec) (lat : Nat) (v : Word) (push : List Ctr) : Ctx :=
  e.k.fly e.st (landAt e.s.cycle e.k0 e.st lat) (dstTarget e.k0 e.st d) v true push

/-- The predicate result of a word (03 R99): one cycle, and not into q. -/
def Env.predResult (e : Env) (n : Nat) (v : Bool) (push : List Ctr) : Ctx :=
  e.k.fly e.st (landAt e.s.cycle e.k0 e.st 1) (.pred n) (if v then 1 else 0) false push

/-- A predicate of the stream written in the issue cycle itself, as the pseudocode of EPOP and CBWAIT writes it, landing with
the result one cycle later (03 R72, R82). -/
def Ctx.flyPred (k : Ctx) (e : Env) (n : Nat) (v : Bool) : Ctx :=
  k.fly e.st (landAt e.s.cycle e.k0 e.st 1) (.pred n) (if v then 1 else 0) false []

/-- The issue ends here, taking one cycle. -/
def Env.done (e : Env) (k : Ctx) : Att Done := .ok ⟨e.s, k, 1, .none⟩

/-- A word whose effect is complete at issue: its pushes become visible tokens (02 R46). -/
def Env.doneNow (e : Env) (k : Ctx) : Att Done := e.done (k.pushAll k.lt.ord e.push)

/-- The lane at the head of the stream's queue; where none is queued, an ungated lane at address 0. -/
def Ctx.lane (k : Ctx) (st : Strm) : Lane := (headLane (k.strm st).queue).getD ⟨0, 0, none, false, none, false⟩

/-- Whether the lane is squashed: gated by a stage predicate that is false (04 R120). -/
def Ctx.squashed (k : Ctx) (st : Strm) : Bool :=
  match (k.lane st).gate with
  | none => false
  | some b => !(b.getLsbD 3) && (k.strm st).stg (bits b.toNat 2 0) == some false

/-- What a stream has issued, with the lane that it issues now (13 R377): the checker matches each four cycles after its issue. -/
def StreamState.noteIssue (ss : StreamState) (cycle : Nat) : List Issued :=
  let old := ss.recent.filter fun i => i.bad || decide (cycle < i.cycle + 4)
  match headLane ss.queue with
  | some l => old ++ [⟨l.addr, l.word, l.cont, cycle, false⟩]
  | none => old

/-- The word at the head of the queue has issued, or the REP repetition that it is (03 R85-R89): the lane leaves the queue with
its last repetition. -/
def StreamState.retire (ss : StreamState) (cycle cost : Nat) : StreamState :=
  let ss := { ss with ready := cycle + cost, lastIssue := cycle, vote := none, recent := ss.noteIssue cycle }
  match ss.rep with
  | some r => if r.k + 1 < r.count then { ss with rep := some { r with k := r.k + 1 } }
              else { ss with rep := none, queue := dropLane ss.queue }
  | none => { ss with queue := dropLane ss.queue }

/-- The stream's next word stands under a prefix. -/
def StreamState.prefixed (ss : StreamState) : Prefix → StreamState
  | .none => ss
  | .rep r => { ss with rep := some r }
  | .vote l => { ss with vote := some l }
  | .stays => ss

/-- A stream passes a mark of its path (04 R110, R114, R118, R119, R123): a declaration records the stream's own base; a back
edge of a pipelined level lowers the base by 1; the end of a level restores it. A REP that stands in the level's body and whose target
has not come is thereby the last instruction of its stream in that body (03 R87). -/
def StreamState.pass (ss : StreamState) : Mark → StreamState
  | .decl lv r => ss.setView lv (some { r with base := ss.rot })
  | .frame f => { ss with frame := f }
  | .back lv count =>
    let ss := { ss with rep := ss.rep.map fun (r : RepState) => { r with brk := r.brk || r.lvls.contains lv } }
    match ss.view lv with
    | some r => { ss.setView lv (some { r with idx := r.idx + 1, count := count }) with rot := if r.piped then ss.rot - 1 else ss.rot }
    | none => ss
  | .leave lv =>
    let ss := { ss with rep := ss.rep.map fun (r : RepState) => { r with brk := r.brk || r.lvls.contains lv } }
    match ss.view lv with
    | some r => { ss.setView lv none with rot := if r.piped then r.base else ss.rot }
    | none => ss

/-- The marks at the head of a queue, which the stream has reached, passed. -/
def StreamState.passHead (ss : StreamState) : StreamState :=
  let go : List QItem → StreamState → List QItem × StreamState := fun q ss =>
    q.foldl (fun acc item =>
      match acc.1, item with
      | [], .mark m => ([], acc.2.pass m)
      | got, item => (got ++ [item], acc.2)) ([], ss)
  let (q, ss') := go ss.queue ss
  { ss' with queue := q }

/-- A stream's word retired. -/
def Ctx.retire (k : Ctx) (st : Strm) (cycle cost : Nat) (pre : Prefix) : Ctx :=
  match pre with
  | .stays => k.setStrm st { k.strm st with ready := cycle + cost, lastIssue := cycle }
  | pre => k.setStrm st (((k.strm st).retire cycle cost).prefixed pre).passHead

/-- The pipes that the sources of one word pop, each once (02 R51). -/
def popPipes (st : Strm) (srcs : List Spec) : List Pipe := (srcs.filterMap (inPipe st)).dedup

/-- Results in flight towards a pipe. -/
def Light.towards (l : Light) (p : Pipe) : Nat :=
  (l.flights.filter fun f => f.tgt == .pipe p).length +
    (match l.hold with
      | .kernel _ _ (.pipe q) => if q = p then 1 else 0
      | _ => 0)

/-- The pushes and pops of a word name declared counters, and its pipes are declared (02 R48). -/
def Ctx.syncOk (k : Ctx) (st : Strm) (t : Tok) (d : Option Spec) (srcs : List Spec) : Bool :=
  (popsOf st t ++ pushesOf st t).all (fun c => k.dctrs.contains c) &&
  (popPipes st srcs ++ (d.bind (outPipe st)).toList).all (fun p => k.dpipes.contains p)

/-- The token and pipe conditions of issue hold (02 R45 step 1, R51, R52). -/
def Ctx.syncReady (k : Ctx) (st : Strm) (t : Tok) (d : Option Spec) (srcs : List Spec) : Bool :=
  (popsOf st t).all (fun c => 1 ≤ (k.lt.ctr c).vis) &&
  (pushesOf st t).all (fun c => (k.lt.ctr c).vis + (k.lt.ctr c).res < 8) &&
  (popPipes st srcs).all (fun p => !(k.lt.pipe p).isEmpty) &&
  (d.bind (outPipe st)).toList.all (fun p => (k.lt.pipe p).length + k.lt.towards p < 8)

/-- The pops taken and the pushes reserved (02 R45 step 2, R51). -/
def Ctx.syncTake (k : Ctx) (st : Strm) (t : Tok) (srcs : List Spec) : Ctx :=
  let l := (popsOf st t).foldl (fun l c => let v := l.ctr c; l.setCtr c { v with vis := v.vis - 1 }) k.lt
  let l := (pushesOf st t).foldl (fun l c => let v := l.ctr c; l.setCtr c { v with res := v.res + 1 }) l
  k.setLt ((popPipes st srcs).foldl (fun l p => (l.setPipe p (l.pipe p).tail).popMarks p) l)

/-- The place that a specifier reads, of those whose marks stand in the light state. -/
def srcPlace (st : Strm) (v : Spec) : Option RegPlace :=
  let n := v.toNat
  if n ≤ 15 then some (.q st n)
  else if n ≤ 23 then some (.o st (n - 16))
  else (inPipe st v).map (.pipe · 0)

/-- The marked places that a source specifier consumes (13 R385). -/
def State.srcMarks (s : State) (id : Nat) (st : Strm) (k : Ctx) (v : Spec) : List Loc :=
  if 32 ≤ v.toNat then
    let l : Loc := .reg id st (gPhys (k.strm st).rot (v.toNat - 32))
    if s.poison.contains l then [l] else []
  else match srcPlace st v with
    | some r => if k.lt.bad.contains r then [.file id r] else []
    | none => []

/-- A source register marked poisoned (13 R385). -/
def State.poisonedReg (s : State) (id : Nat) (st : Strm) (k : Ctx) (v : Spec) : Bool := !(s.srcMarks id st k v).isEmpty

/-- The attempt of stream `st` to issue its word: a squashed word only takes its cycle; otherwise the declarations are checked,
the token and pipe conditions awaited, and `body` gives the word's own conditions and effect. -/
def attempt (st : Strm) (t : Tok) (d : Option Spec) (srcs : List Spec) (body : Env → Att Done) (s : State) (id : Nat) (k : Ctx) :
    Att Done :=
  if k.squashed st then .ok ⟨s, k, 1, .none⟩
  else if !k.syncOk st t d srcs then .fault 0x0E
  else if !k.syncReady st t d srcs then .wait none
  else if srcs.any (s.poisonedReg id st k) then .consumed (srcs.flatMap (s.srcMarks id st k))
  else body ⟨s, id, st, k, k.syncTake st t srcs, pushesOf st t⟩

/-- The record of a synchronous fault that stream `st` raises at its word (12 R356, R359). -/
def syncFault (k : Ctx) (st : Strm) (code : Nat) (info : Word) (lvl : Nat) (wk : Bool) (kk : Nat) (locs : List Loc) (cycle : Nat) :
    PendFault :=
  ⟨st, code, true, false, (k.lane st).addr, info, 0, 0, lvl, wk, kk, cycle, (k.strm st).rep.map (·.k), locs, 0⟩

/-- A request for a walk placed by arrival, then by context (01 R30). -/
def insertWalk (w : PageWalk) : List PageWalk → List PageWalk
  | [] => [w]
  | x :: rest => if w.since < x.since ∨ (w.since = x.since ∧ w.ctx < x.ctx) then w :: x :: rest else x :: insertWalk w rest

/-- A request for a page walk joins those that wait for a walker or hold one (11 R351). -/
def State.asks (s : State) (q : Option PageWalk) : State :=
  match q with
  | some w => { s with walks := insertWalk w s.walks }
  | none => s

/-- What an attempt leaves of the package: the word has issued, or nothing has changed but that a page walk is asked for, or a fault is raised and the word stays
unissued. -/
def settle (st : Strm) (s : State) (id : Nat) (k : Ctx) : Att Done → Host.Outcome State Fault Refusal
  | .ok d => .next (d.s.setCtx id (d.k.retire st s.cycle d.cost d.pre))
  | .wait q => .next (s.asks q)
  | .trap c i l w kk ls => .next (s.setCtx id (k.raise (syncFault k st c i l w kk ls s.cycle)))

/-- The issue of a word of stream `st` by the selected context. -/
def issue (st : Strm) (t : Tok) (d : Option Spec) (srcs : List Spec) (body : Env → Att Done) (s : State) :
    Host.Outcome State Fault Refusal :=
  match s.ctx s.sel.ctx with
  | none => .refused .noContext
  | some k => settle st s s.sel.ctx k (attempt st t d srcs body s s.sel.ctx k)

/-- A word with a register result computed from its sources (03 R72). -/
def issueReg (st : Strm) (t : Tok) (d : Spec) (srcs : List Spec) (lat : Nat) (f : Env → Word) (s : State) :
    Host.Outcome State Fault Refusal :=
  issue st t (some d) srcs (fun e => e.done (e.result d lat (f e) e.push)) s

/-- A word whose result is computed from the old contents of its destination register as well (03 R95, R96). -/
def issueMod (st : Strm) (t : Tok) (d : Spec) (srcs : List Spec) (f : Word → Env → Word) (s : State) :
    Host.Outcome State Fault Refusal :=
  issue st t (some d) srcs (fun e =>
    if e.s.poisonedReg e.id st e.k0 d then .consumed (e.s.srcMarks e.id st e.k0 d) else e.done (e.result d 1 (f (e.rd d) e) e.push)) s

/-! Landing -/

/-- A stream's register or predicate written. -/
def StreamState.land (ss : StreamState) (f : Flight) : StreamState :=
  let ss := match f.tgt with
    | .o n => { ss with o := ss.o.setIfInBounds n f.val }
    | .g n => { ss with g := ss.g.setIfInBounds n f.val }
    | .pred n => { ss with p := ss.p.setIfInBounds n (f.val != 0) }
    | _ => ss
  if f.q then ss.enterQ f.val else ss

/-- An address put at the bottom of the return stack (04 R128); entries are newest first. -/
def Light.pushBottom (l : Light) (a : Nat) : Light := { l with rstack := l.rstack ++ [a] }

/-- The marks as a result lands: it is good data, and moves q's entries. -/
def Light.landMarks (l : Light) (f : Flight) : Light :=
  let l := match f.tgt with
    | .o n => l.good (.o f.strm n)
    | .pred n => l.good (.p f.strm n)
    | .spill n => l.good (.spill n)
    | _ => l
  if f.q then l.shiftMarks f.strm else l

/-- A hardware token of SIGK becomes visible (09 R288). One that a run has taken already before a rollback is not given anew (13 R394). -/
def Light.giveToken (l : Light) (n : Nat) : Light :=
  let w := l.owed[n]?.getD 0
  if w ≠ 0 then { l with owed := l.owed.setIfInBounds n (w - 1) } else { l with tk := l.tk.setIfInBounds n ((l.tk[n]?.getD 0) + 1) }

/-- One result lands (03 R71, R74, R75). -/
def Ctx.landOne (k : Ctx) (f : Flight) : Ctx :=
  let k := (k.setStrm f.strm ((k.strm f.strm).land f))
  let k := k.setLt (k.lt.landMarks f)
  let k := match f.tgt with
    | .pipe p => k.setLt (k.lt.setPipe p (k.lt.pipe p ++ [f.val]))
    | .spill n => k.setLt { k.lt with spill := Sparse.set k.lt.spill n f.val }
    | .sys n => k.sysNow f.land n f.val
    | .rsbot => k.setLt (k.lt.pushBottom (wbits f.val 47 0))
    | .cbar q =>
      let n := wbits f.val 7 0
      k.setLt (k.lt.setCbar q { CBar.reset with phase := if n = 0 then .complete else .armed, count := n })
    | .ftlink => k.setSys { k.lt.sys with ftlink := f.val }
    | .mask p col v =>
      if col then k.setLt { k.lt with colmask := k.lt.colmask.setIfInBounds p v }
      else k.setLt { k.lt with rowmask := k.lt.rowmask.setIfInBounds p v }
    | .bond n => k.setSys { k.lt.sys with bd := k.lt.sys.bd.setIfInBounds n f.val }
    | .token n => k.setLt (k.lt.giveToken n)
    | .book n loaded v => k.setLt { k.lt with books := k.lt.books.setIfInBounds n ⟨loaded, v⟩ }
    | _ => k
  k.setLt (f.push.foldl (fun l c => l.pushDone f.ord c) k.lt)

/-- A result placed in the order of landing: by cycle, and by issue order within a cycle. -/
def insertFlight (f : Flight) : List Flight → List Flight
  | [] => [f]
  | g :: rest => if f.land < g.land then f :: g :: rest else g :: insertFlight f rest

/-- The results due by a cycle, in landing order. -/
def dueFlights (cycle : Nat) (fs : List Flight) : List Flight :=
  (fs.filter fun f => f.land ≤ cycle).foldl (fun acc f => insertFlight f acc) []

/-- Every result due by the cycle lands. -/
def Ctx.landDue (k : Ctx) (cycle : Nat) : Ctx :=
  let rest := k.lt.flights.filter fun f => cycle < f.land
  (dueFlights cycle k.lt.flights).foldl Ctx.landOne (k.setLt { k.lt with flights := rest })

/-- A register written, whether or not it was poisoned before, holds good data (13 R385): the marks of registers that land. -/
def State.clearMarks (s : State) (id : Nat) (fs : List Flight) : State :=
  if s.poison.isEmpty then s else
  { s with poison := s.poison.filter fun p => !(fs.any fun f =>
      match f.tgt with
      | .g n => p == .reg id f.strm n
      | _ => false) }

/-- The cycle up to which results land: the present one, but none lands once a light save has begun (12 R368). -/
def Ctx.landLimit (k : Ctx) (cycle : Nat) : Nat := if k.lt.hold == .saving then Nat.min cycle k.saveAt else cycle

/-- Whether a context has a result due to land. -/
def Ctx.landingDue (k : Ctx) (cycle : Nat) : Bool := k.lt.flights.any fun f => f.land ≤ k.landLimit cycle

/-- RESULT_LANDING (03 R71): the results of a context due by the current cycle land. -/
def execResultLanding (ctx : Nat) (s : State) : Host.Outcome State Fault Refusal :=
  match s.ctx ctx with
  | none => .next s
  | some k =>
    if k.res == .resident && k.landingDue s.cycle then
      .next ((s.clearMarks ctx (dueFlights (k.landLimit s.cycle) k.lt.flights)).setCtx ctx (k.landDue (k.landLimit s.cycle)))
    else .next s

end Sys2Proof.Machine
end

