-- ==== Sys2Proof/Machine/Translate.lean ====
section
/-! DEFINITION. Translation of device virtual addresses (11 R349-R353) and the reading of code lines (02 R31-R42). -/

namespace Sys2Proof.Machine

open Sys2Proof

/-- What an access needs of its page (11 R351). -/
inductive Need where
  | read | write | readWrite | exec
  deriving DecidableEq, Repr

/-- Whether the permissions of a leaf meet the need. -/
def Need.met (n : Need) (rd wr ex : Bool) : Bool :=
  match n with
  | .read => rd
  | .write => wr
  | .readWrite => rd && wr
  | .exec => ex

/-- What a walk ends in (11 R349, R350): the page's base in physical memory, its size, permissions and scrub bit and the address
of its leaf entry; or the level at which it met an entry that is malformed or not valid. -/
inductive Walk where
  | leaf (pa size : Nat) (rd wr ex scrub : Bool) (entry : Nat)
  | fail (lvl : Nat)
  deriving DecidableEq, Repr

/-- log2 of what one entry of a level maps (11 R349). -/
def levelShift : Nat → Nat
  | 0 => 16
  | 1 => 21
  | 2 => 30
  | _ => 39

/-- Index bits of a level (11 R349). -/
def levelIndex (lvl va : Nat) : Nat :=
  match lvl with
  | 0 => bits va 20 16
  | 1 => bits va 29 21
  | 2 => bits va 38 30
  | _ => bits va 47 39

/-- What one entry of a walk says (11 R349, R350): the end of the walk, or the next level's table. -/
inductive Step1 where
  | ends (w : Walk)
  | down (table : Nat)
  deriving DecidableEq, Repr

/-- The entry of a table of level `lvl`, read whole (11 R349 to R351). Device memory ends at its 512 GiB (01 R28): a table or a page beyond
is no memory, and the walk fails [6]. -/
def walkEntry (m : Memory) (va lvl table : Nat) : Step1 :=
  let ea := table + 8 * levelIndex lvl va
  let e := m.readNat ea 8
  let leaf := bit e 1
  let addr := bits e 47 8 * 256
  let ok := decide (ea + 8 ≤ Config.deviceBytes) && bit e 0 && bits e 7 6 == 0 && bits e 63 48 == 0 && (lvl != 0 || leaf) && (lvl != 3 || !leaf)
  if !ok then .ends (.fail lvl)
  else if leaf then
    if addr % 2 ^ levelShift lvl = 0 ∧ addr + 2 ^ levelShift lvl ≤ Config.deviceBytes then
      .ends (.leaf addr (2 ^ levelShift lvl) (bit e 2) (bit e 3) (bit e 4) (bit e 5) ea)
    else .ends (.fail lvl)
  else if addr % (if lvl = 1 then 256 else 4096) = 0 then .down addr
  else .ends (.fail lvl)

/-- The walk from a table of level `lvl` (11 R349, R350). -/
def walkFrom (m : Memory) (va : Nat) : Nat → Nat → Walk
  | lvl, table =>
    match walkEntry m va lvl table with
    | .ends w => w
    | .down t => match lvl with
      | 0 => .fail 0
      | n + 1 => walkFrom m va n t

/-- The table of level 3 that a root names. -/
def rootTable (ptroot : Word) : Nat := wbits ptroot 47 12 * 4096

/-- The walk from the root in sys.ptroot. -/
def walk (m : Memory) (ptroot : Word) (va : Nat) : Walk := walkFrom m va 3 (rootTable ptroot)

/-- The cached translation of an address, if one is held (11 R351). -/
def State.cached (s : State) (ptroot : Word) (va : Nat) : Option TlbEntry :=
  s.tlb.find? fun t => t.root == wbits ptroot 47 12 && t.va ≤ va && va < t.va + t.size

/-- Walkers of a compute die (01 R18). -/
def walkers : Nat := 64

/-- The walks of a die that hold its walkers, of all that are asked for: the first by arrival, then by context (11 R351, 01 R30). -/
def State.served (s : State) (die : Nat) : List PageWalk := (s.walks.filter fun w => dieOf w.ctx == die).take walkers

/-- The walk that the party at a place has asked for on a miss of an address, if it has. -/
def State.walkFor (s : State) (place : Nat) (ptroot : Word) (va : Nat) : Option PageWalk :=
  s.walks.find? fun w => w.ctx == place && w.root == ptroot && w.va / 65536 == va / 65536

/-- A miss of the party at a place must wait (11 R351): for the walk that it has asked for, until that holds a walker and finds no leaf, which is
cached nowhere; or, where it has asked for none, for a walker of its die. -/
def State.walkWaits (s : State) (place : Nat) (ptroot : Word) (va : Nat) : Bool :=
  match s.walkFor place ptroot va with
  | some w => !((s.served (dieOf place)).contains w && (match walk s.mem ptroot va with
    | .fail _ => true
    | _ => false))
  | none => decide (walkers ≤ (s.walks.filter fun w => dieOf w.ctx == dieOf place).length)

/-- What a miss that must wait asks for: a walk, unless it has asked for one. -/
def State.walkAsk (s : State) (place : Nat) (ptroot : Word) (va : Nat) : Option PageWalk :=
  if (s.walkFor place ptroot va).isSome then none else some ⟨place, va, ptroot, s.cycle, s.cycle, 3, rootTable ptroot⟩

/-- The physical address of a virtual address under a page-table root, for an access of the party at `place` that needs `need` (11 R341,
R351, R352): 0x09 without a walk for bits 63:48 or en = 0, 0x09 with its level for a failed walk, 0x0A for a missing permission; an access
through an entry with scrub pending waits (R353). A cached translation is used where one is held; a miss takes a walker, and where none is
free it waits, its request among those for a walker (01 R30) [10]. -/
def State.translate (s : State) (place : Nat) (ptroot : Word) (va : Nat) (need : Need) : Att Nat :=
  if 2 ^ 48 ≤ va ∨ !(ptroot.getLsbD 0) then .trap 0x09 (BitVec.ofNat 64 va) 0 false 0 []
  else match s.cached ptroot va with
    | some t => if need.met t.rd t.wr t.ex then .ok (t.pa + (va - t.va)) else .faultAt 0x0A va
    | none =>
      if s.walkWaits place ptroot va then .wait (s.walkAsk place ptroot va) else
      match walk s.mem ptroot va with
      | .fail lvl => .trap 0x09 (BitVec.ofNat 64 va) lvl true 0 []
      | .leaf pa size rd wr ex scrub _ =>
        if scrub then .wait none
        else if need.met rd wr ex then .ok (pa + va % size) else .faultAt 0x0A va

/-- The address that a context's own access to `va` uses under its double buffers (11 R347): while cur = 1, A and B are
exchanged. -/
def SysRegs.swapAddr (r : SysRegs) (va : Nat) : Nat :=
  (List.range 4).foldl (fun a j =>
    let w := r.dbuf[j]?.getD 0
    let lo := wbits w 31 0 * 2 ^ 16
    let size := wbits w 47 32 * 2 ^ 16
    if w.getLsbD 48 && w.getLsbD 49 then
      if lo ≤ va && va < lo + size then va + size
      else if lo + size ≤ va && va < lo + 2 * size then va - size
      else a
    else a) va

/-- The physical address of a context's own data access. A fault's record holds the address that was translated, exchanged by a double
buffer or not: R347 does not say which [35]. -/
def State.dataAddr (s : State) (k : Ctx) (va : Nat) (need : Need) : Att Nat :=
  s.translate k.place k.lt.sys.ptroot (k.lt.sys.swapAddr va) need

/-- One step of a walk (11 R351): its next entry is read; at the end its walker is free, and the translation is cached. A walk that fails
or meets a scrub-pending entry caches nothing. -/
def State.walkStep (s : State) (w : PageWalk) : State :=
  match walkEntry s.mem w.va w.lvl w.table with
  | .down t => { s with walks := s.walks.map fun x => if x = w then { w with at_ := s.cycle, lvl := w.lvl - 1, table := t } else x }
  | .ends r =>
    let s := { s with walks := s.walks.filter (· != w) }
    match r with
    | .leaf pa size rd wr ex false _ => { s with tlb := ⟨wbits w.root 47 12, w.va / size * size, size, pa, rd, wr, ex⟩ :: s.tlb }
    | _ => s

/-- A walk that holds a walker and takes its next step in this cycle. -/
def State.walkDue (s : State) : Option PageWalk :=
  (List.range 5).findSome? fun d => (s.served d).find? fun w => decide (w.at_ < s.cycle)

/-- The next step of the first walk that is due. -/
def walkNow (s : State) : Host.Outcome State Fault Refusal :=
  match s.walkDue with
  | some w => .next (s.walkStep w)
  | none => .next s

/-- PAGE_WALK (11 R351): a translation of a context's that is not cached is asked for; it takes one of the 64 walkers of the context's die,
or waits its turn. -/
def execPageWalk (ctx va : Nat) (s : State) : Host.Outcome State Fault Refusal :=
  match s.ctx ctx with
  | none => .next s
  | some k =>
    let r := k.lt.sys.ptroot
    if 2 ^ 48 ≤ va ∨ !(r.getLsbD 0) ∨ (s.cached r va).isSome then .next s
    else .next (s.asks (s.walkAsk ctx r va))

/-- A record of what one publication replaced, for the snapshot choice of 11 R325 [8]: one entry for each aligned 8-byte word
that the bytes touch. -/
def pubsOf (s : State) (writer pa n : Nat) : List Pub :=
  if n = 0 then [] else
  (List.range ((pa + n - 1) / 8 - pa / 8 + 1)).map fun j =>
    ⟨s.cycle, writer, (pa / 8 + j) * 8, s.mem.word ((pa / 8 + j) * 8)⟩

/-- Bytes published to physical device memory (11 R324, R337): written, recorded, and good where they overwrite a poisoned
word whole (13 R385). -/
def State.publishBytes (s : State) (writer pa : Nat) (bs : List Byte) : State :=
  let whole (w : Nat) : Bool := pa ≤ 8 * w && 8 * w + 8 ≤ pa + bs.length
  { s with pubs := s.pubs ++ pubsOf s writer pa bs.length
           mem := s.mem.write pa bs
           poison := s.poison.filter fun p =>
             match p with
             | .dev w => !(whole w)
             | _ => true }

/-- What a context has read or acquired of a page of physical memory, forgotten. -/
def Ctx.forgetPage (k : Ctx) (pa size : Nat) : Ctx :=
  let out (a : Nat) : Bool := !(decide (pa ≤ a) && decide (a < pa + size))
  { k with snaps := k.snaps.filter fun w => out w.pa
           frags := k.frags.filter fun w => out w.pa
           acqs := k.acqs.filter fun q => out q.2.pa }

/-- The number by which a page scrub names the table of a job of which no context is resident, for a CSEND that arrives for it (10 R313) [16]. -/
def jobParty (job : Nat) : Nat := 2 ^ 60 + job

/-- The root of a party's table: a context's, or, from number 768 on, that of an outside party's table (14 R396, R398, R399) or of a job's [16]. -/
def State.rootOf (s : State) (party : Nat) : Option Word :=
  match s.ctx party with
  | some k => some k.lt.sys.ptroot
  | none => if jobParty 0 ≤ party then some (Config.jobRoot (party - jobParty 0)) else if outsider ≤ party then Sparse.get s.mgmt.roots (party - outsider) else none

/-- PAGE_SCRUB (11 R353): the page that an access of a context, or of a party outside the contexts, through a scrub-pending entry waits for is
zeroed, the zeros are published, and the bit is cleared. No moment from before remains that an access could return. -/
def execPageScrub (ctx va : Nat) (s : State) : Host.Outcome State Fault Refusal :=
  match s.rootOf ctx with
  | none => .next s
  | some root =>
    match walk s.mem root va with
    | .leaf pa size _ _ _ true entry =>
      let mem : Memory := s.mem.filter fun c => !(pa ≤ c.1 && c.1 < pa + size)
      let e := mem.readNat entry 1
      .next { s with mem := mem.writeNat entry 1 (e - 32), pubs := s.pubs.filter fun p => !(pa ≤ p.pa && p.pa < pa + size)
                     ctxs := s.ctxs.map fun p => (p.1, p.2.forgetPage pa size)
                     poison := s.poison.filter fun p =>
                       match p with
                       | .dev w => !(pa ≤ 8 * w && 8 * w < pa + size)
                       | _ => true }
    | _ => .next s

/-! Code lines -/

/-- The outermost body of C's current frame that holds a line (04 R116, R119): the declaration that a captured line belongs to. -/
def StreamState.bodyOf (c : StreamState) (addr : Nat) : Option Nat :=
  [0, 1, 2].foldl (fun best lv =>
    match c.view lv with
    | some r =>
      if r.frame = c.frame ∧ r.first ≤ addr ∧ addr ≤ r.last then
        match best with
        | some b => some (Nat.min b r.ord)
        | none => some r.ord
      else best
    | none => best) none

/-- The captured line at an address, in the instance of the level that C is in (04 R116). -/
def Light.captured (l : Light) (c : StreamState) (addr : Nat) : Option (List W32) :=
  (c.bodyOf addr).bind fun o => (l.lbuf.find? fun p => p.1 == addr && p.2.1 == o).map (·.2.2)

/-- Whether the line at an address lies in a context's code pages, the 64 KiB pages over which its code section is laid (02 R40) [57]. -/
def Ctx.inCode (k : Ctx) (line : Nat) : Bool :=
  decide (k.codeLo / 65536 * 65536 ≤ line) && decide (line + 32 ≤ (k.codeHi + 65535) / 65536 * 65536)

/-- The eight words of the line at an address of a context's code (02 R31, R40): captured by the loop buffer, fetched ahead, or
read from the code pages. -/
def State.fetchLine (s : State) (k : Ctx) (addr : Nat) : Att (List W32) :=
  if !(k.inCode addr) then .faultAt 0x09 addr
  else match k.lt.captured k.lt.c addr with
    | some ws => .ok ws
    | none =>
      match k.ahead.find? (fun p => p.1 == addr) with
      | some p => .ok p.2.1
      | none => (s.translate k.place k.lt.sys.ptroot addr .exec).bind fun pa => .ok (lanesOfBytes (s.mem.read pa 32))

/-- The addresses of a line's 8-byte words that are marked as poisoned (13 R385): where the loop buffer holds it, or it has been fetched ahead, the
marks that came with it; else those of device memory. -/
def State.lineBad (s : State) (k : Ctx) (addr : Nat) : List Nat :=
  let words := [addr, addr + 8, addr + 16, addr + 24]
  if (k.lt.captured k.lt.c addr).isSome then words.filter fun a => k.lt.bad.contains (.line addr) || k.lt.bad.contains (.word a)
  else match k.ahead.find? (fun p => p.1 == addr) with
    | some p => p.2.2
    | none =>
      if s.poison.isEmpty then [] else
      match s.translate k.place k.lt.sys.ptroot addr .exec with
      | .ok pa => words.filter fun a => s.poison.contains (.dev ((pa + (a - addr)) / 8))
      | _ => []

/-- LINE_FETCH (02 R41): a line is fetched ahead of C, on either arm of a branch, into one of the two halves of eight lines; it
has no architectural effect until the path enters it, and a line whose fetch faults is not kept. -/
def execLineFetch (ctx addr : Nat) (s : State) : Host.Outcome State Fault Refusal :=
  match s.ctx ctx with
  | none => .next s
  | some k =>
    if k.res == .resident && addr % 32 == 0 && !(k.ahead.any fun p => p.1 == addr) then
      match s.fetchLine k addr with
      | .ok ws => .next (s.setCtx ctx { k with ahead := ((addr, ws, s.lineBad k addr) :: k.ahead).take 16 })
      | _ => .next s
    else .next s

end Sys2Proof.Machine
end

