-- ==== Sys2Proof/Machine/Control.lean ====
section
/-! DEFINITION. The path of a context (02 R36-R41): loops, branches, calls and returns of the C stream, delivery of lines, the
loop-control registers, REP, VOTE and YIELD (04). -/

namespace Sys2Proof.Machine

open Sys2Proof

/-- A mark put on the paths of L, X and S at the point that C has delivered so far. -/
def Ctx.markAll (k : Ctx) (m : Mark) : Ctx :=
  let add (ss : StreamState) : StreamState := ({ ss with queue := ss.queue ++ [QItem.mark m] }).passHead
  k.setLt { k.lt with l := add k.lt.l, x := add k.lt.x, s := add k.lt.s }

/-- The byte address of the line that holds C's word. -/
def Ctx.cLine (k : Ctx) : Nat := (k.lane .c).addr / 32 * 32

/-- The body of a level holds this line. -/
def Lvl.holds (r : Lvl) (line : Nat) : Bool := r.first ≤ line && line ≤ r.last

/-- The length of a body in lines. -/
def Lvl.lines (r : Lvl) : Nat := (r.last - r.first) / 32 + 1

/-- The iterations a level runs (04 R113, R122). -/
def Lvl.total (r : Lvl) : Nat := if r.piped then r.count + r.stages - 1 else r.count

/-- The active levels of a stream. -/
def StreamState.active (ss : StreamState) : List (Nat × Lvl) :=
  [0, 1, 2].filterMap fun lv => (ss.view lv).map fun r => (lv, r)

/-! Declaring a loop (04 R111-R113, R116, R117, R121) -/

/-- The lines held for active bodies of all frames, nested bodies counted once (04 R117). -/
def StreamState.heldLines (ss : StreamState) : Nat :=
  ((ss.active.filter fun p => !(ss.active.any fun q => q.2.frame == p.2.frame && q.2.ord < p.2.ord)).map
    fun p => p.2.lines).sum

/-- The stage-map bytes of one body line keep the rules of 04 R121. -/
def stageRowOk (stages : Nat) (ws : List W32) (row : List Byte) : Bool :=
  let hdr := ws.getD 0 0
  (List.range 8).all fun j =>
    let b := (row.getD j 0).toNat
    let used := j != 0 && (let n := nibble hdr j; 1 ≤ n && n ≤ 4) && nibble hdr 0 == 0
    if used then b / 16 == 0 && (if bit b 3 then b % 8 == 0 else decide (b % 8 < stages)) else b == 0

/-- The eight bytes of a body line's stage-map entry (04 R121). -/
def State.stageRow (s : State) (k : Ctx) (map : Int) (e : Nat) : Att (List Byte) :=
  let a := map + 8 * (e : Int)
  let line := a / 32 * 32
  if line < 0 || !(k.inCode line.toNat) then .trap 0x09 (BitVec.ofInt 64 a) 0 false 0 []
  else (s.translate k.place k.lt.sys.ptroot a.toNat .exec).bind fun pa => .ok (s.mem.read pa 8)

/-- The rules of 04 R121 that a row keeps whatever its line holds: the header's byte is zero, no byte sets a reserved bit, names a
stage of S or more, or is ungated with a stage. -/
def stageRowLegal (stages : Nat) (row : List Byte) : Bool :=
  row.headD 0 == 0 && row.all fun b => b.toNat / 16 == 0 && (if bit b.toNat 3 then b.toNat % 8 == 0 else decide (b.toNat % 8 < stages))

/-- The stage map of a body, read and checked at the LPIPE's issue (04 R121). A body line whose fetch faults raises nothing
before the path enters it (02 R41): its row is held to the rules that do not look at the line. -/
def State.stageMap (s : State) (k : Ctx) (map : Int) (first lines stages : Nat) : Att (List (List Byte)) :=
  Att.foldl (fun acc e =>
    (s.stageRow k map e).bind fun row =>
      match s.fetchLine k (first + 32 * e) with
      | .ok ws => if stageRowOk stages ws row then .ok (acc ++ [row]) else .fault 0x02
      | .wait q => .wait q
      | _ => if stageRowLegal stages row then .ok (acc ++ [row]) else .fault 0x02) [] (List.range lines)

/-- The effect of LOOP and LPIPE (04 R112, R113). A nested declaration of count 0 goes on after its body even where that ends on the enclosing
body's last line, whose back edge is not taken then [29]. -/
def declare (lv : Nat) (n : Nat) (piped : Bool) (stages : Nat) (len : Nat) (map : Option Int) (e : Env) : Att Done :=
  let k := e.k
  let c := k.lt.c
  let here := e.k0.cLine
  let inner := c.innermost
  let first := here + 32
  let last := first + 32 * len
  (Att.need (!(e.k0.lane .c).later) 0x02).bind fun _ =>
  (Att.need (c.view lv).isNone 0x04).bind fun _ =>
  (Att.need (match inner with
    | some (_, r) => !r.piped
    | none => true) 0x04).bind fun _ =>
  (Att.need (decide (n ≤ (if piped then 2 ^ 32 - 8 else 2 ^ 32 - 1))) 0x04).bind fun _ =>
  (Att.need (match inner with
    | some (_, r) => decide (r.first ≤ first) && decide (last ≤ r.last)
    | none => decide (len + 1 ≤ 32)) 0x04).bind fun _ =>
  if n = 0 then .ok ⟨e.s, k.setLt { k.lt with next := some (last + 32) }, 2, .none⟩
  else
    (Att.need (decide (c.heldLines + (if inner.isSome then 0 else len + 1) ≤ 32)) 0x05).bind fun _ =>
    (match map with
      | some a => (e.s.stageMap k a first (len + 1) stages).bind fun m => .ok (some m)
      | none => .ok none).bind fun m =>
    let r : Lvl := ⟨piped, stages, n, first, last, c.frame, false, m, 0, c.rot, k.lt.ord⟩
    let k := k.setLt { k.lt with c := c.setView lv (some r), ord := k.lt.ord + 1 }
    .ok ⟨e.s, k.markAll (.decl lv r), 1, .none⟩

/-- LOOP (R113). -/
def execLoop (lv : BitVec 2) (a : Spec) (imm : BitVec 1) (len : BitVec 6) (icnt : BitVec 12) (s : State) :
    Host.Outcome State Fault Refusal :=
  issue .c 0 none (if imm == 1 then [] else [a]) (fun e =>
    declare lv.toNat (if imm == 1 then icnt.toNat else (e.rd a).toNat) false 1 len.toNat none e) s

/-- LPIPE (R113, R121). -/
def execLpipe (lv : BitVec 2) (a : Spec) (stages : BitVec 3) (imm m : BitVec 1) (len : BitVec 6) (moff icnt : BitVec 12)
    (s : State) : Host.Outcome State Fault Refusal :=
  issue .c 0 none (if imm == 1 then [] else [a]) (fun e =>
    declare lv.toNat (if imm == 1 then icnt.toNat else (e.rd a).toNat) true (stages.toNat + 1) len.toNat
      (if m == 1 then some ((e.k0.cLine : Int) + 32 * moff.toInt) else none) e) s

/-- LEXIT (R122): on the innermost level of the current frame; it is pending until the level ends (R126). -/
def execLexit (s : State) : Host.Outcome State Fault Refusal :=
  issue .c 0 none [] (fun e =>
    let c := e.k.lt.c
    match c.innermost with
    | none => .fault 0x04
    | some (lv, r) =>
      let r := if r.piped then
          (if r.idx + 1 < r.count then { r with count := r.idx + 1, exit := true } else r) else { r with exit := true }
      e.done (e.k.setLt { e.k.lt with c := c.setView lv (some r) })) s

/-! Transfers (02 R39, R40, 04 R115, R129-R133) -/

/-- The target of a format B transfer: the branch word's address plus 4 × offset (02 R40). -/
def Env.target (e : Env) (o : BitVec 22) : Nat :=
  (((e.k0.lane .c).addr : Int) + 4 * o.toInt).emod (2 ^ 64) |>.toNat

/-- A taken BR, BRP or JMPI stays in the innermost body of the current frame (04 R115). -/
def Ctx.nestOk (k : Ctx) (target : Nat) : Bool :=
  match k.lt.c.innermost with
  | some (_, r) => r.holds k.cLine && r.holds target
  | none => true

/-- A transfer within a frame. -/
def Env.jump (e : Env) (target : Nat) : Att Done :=
  if !e.k0.nestOk target then .fault 0x04
  else .ok ⟨e.s, e.k.setLt { e.k.lt with next := some target }, 2, .none⟩

/-- The conditions on the word and the target of a transfer: the last C word of its line, and a target at a line's first byte
(02 R39, R40). -/
def Env.transferOk (e : Env) (target : Nat) : Bool := !(e.k0.lane .c).later && target % 32 == 0

/-- A call: the return line pushed, a new frame (04 R131). -/
def Env.call (e : Env) (target : Nat) : Att Done :=
  let l := e.k.lt
  if l.depth = 65535 then .fault 0x02
  else if l.rstack.length = 16 then .fault 0x19
  else
    let f : Frame := ⟨l.depth + 1, l.c.frame.hnd⟩
    let k := e.k.setLt { l with rstack := (e.k0.cLine + 32) :: l.rstack, depth := l.depth + 1, next := some target
                                c := { l.c with frame := f } }
    .ok ⟨e.s, k.markAll (.frame f), 2, .none⟩

/-- BR (R129). -/
def execBr (o : BitVec 22) (s : State) : Host.Outcome State Fault Refusal :=
  issue .c 0 none [] (fun e => if e.transferOk (e.target o) then e.jump (e.target o) else .fault 0x02) s

/-- BRP (R129): taken when the predicate equals sense. -/
def execBrp (p : BitVec 3) (sense : BitVec 1) (o : BitVec 22) (s : State) : Host.Outcome State Fault Refusal :=
  issue .c 0 none [] (fun e =>
    if !e.transferOk (e.target o) then .fault 0x02
    else (e.predGood p.toNat).bind fun _ =>
      if e.pred p.toNat == (sense == 1) then e.jump (e.target o) else .ok ⟨e.s, e.k, 2, .none⟩) s

/-- CALL (R131). -/
def execCall (o : BitVec 22) (s : State) : Host.Outcome State Fault Refusal :=
  issue .c 0 none [] (fun e => if e.transferOk (e.target o) then e.call (e.target o) else .fault 0x02) s

/-- RET (R131). After a CALL in the last line of a body the path goes on at the line after the call, with no back edge: R114 speaks of
fall-through alone [29]. -/
def execRet (s : State) : Host.Outcome State Fault Refusal :=
  issue .c 0 none [] (fun e =>
    let l := e.k.lt
    if (e.k0.lane .c).later then .fault 0x02
    else if l.c.innermost.isSome then .fault 0x04
    else if l.depth = 0 then .fault 0x02
    else match l.rstack with
      | [] => .fault 0x19
      | t :: rest =>
        let f : Frame := ⟨l.depth - 1, l.c.frame.hnd⟩
        let k := e.k.setLt { l with rstack := rest, depth := l.depth - 1, next := some t, c := { l.c with frame := f } }
        .ok ⟨e.s, k.markAll (.frame f), 2, .none⟩) s

/-- JMPI (R130): bits 47:0 of the register give the target. -/
def execJmpi (a : Spec) (s : State) : Host.Outcome State Fault Refusal :=
  issue .c 0 none [a] (fun e =>
    let t := wbits (e.rd a) 47 0
    if e.transferOk t then e.jump t else .fault 0x02) s

/-- CALLI (R130, R131). -/
def execCalli (a : Spec) (s : State) : Host.Outcome State Fault Refusal :=
  issue .c 0 none [a] (fun e =>
    let t := wbits (e.rd a) 47 0
    if e.transferOk t then e.call t else .fault 0x02) s

/-! The loop-control registers (04 R126-R128) -/

/-- What LRD of a selector other than rsbot gives. -/
def lctlRead (k : Ctx) (sel : Nat) : Word :=
  let l := k.lt
  if sel ≤ 2 then (match l.c.view sel with
    | some r => BitVec.ofNat 64 r.count
    | none => 0)
  else if 4 ≤ sel ∧ sel ≤ 6 then (match l.c.view (sel - 4) with
    | some r =>
      BitVec.ofNat 64 (1 + (if r.piped then 2 else 0) + (if r.piped then (r.stages - 1) * 2 ^ 2 else 0) + (r.lines - 1) * 2 ^ 5 +
        (if r.exit then 2 ^ 11 else 0) + (if r.map.isSome then 2 ^ 12 else 0) +
        (if wbits l.sys.ftlink 1 0 = sel - 4 then 2 ^ 13 else 0) + r.frame.depth * 2 ^ 16 + (if r.frame.hnd then 2 ^ 32 else 0))
    | none => 0)
  else if 8 ≤ sel ∧ sel ≤ 10 then (match l.c.view (sel - 8) with
    | some r => BitVec.ofNat 64 (r.first % 2 ^ 48)
    | none => 0)
  else if sel = 12 then
    BitVec.ofNat 64 (l.c.rot.toNat + l.l.rot.toNat * 2 ^ 4 + l.x.rot.toNat * 2 ^ 8 + l.s.rot.toNat * 2 ^ 12)
  else if sel = 14 then BitVec.ofNat 64 (l.rstack.length + l.depth * 2 ^ 16)
  else if 16 ≤ sel ∧ sel ≤ 27 then
    let lv := (sel - 16) / 4
    match (sel - 16) % 4 with
    | 0 => BitVec.ofNat 64 (l.c.index lv)
    | 1 => BitVec.ofNat 64 (l.l.index lv)
    | 2 => BitVec.ofNat 64 (l.x.index lv)
    | _ => BitVec.ofNat 64 (l.s.index lv)
  else 0

/-- LRD (R126). -/
def execLrd (d : Spec) (sel : BitVec 6) (s : State) : Host.Outcome State Fault Refusal :=
  issueReg .c 0 d [] 1 (fun e => lctlRead e.k0 sel.toNat) s

/-- LWR (R127): every selector but rsbot is read-only, and the write has no effect. -/
def execLwr (a : Spec) (_sel : BitVec 6) (s : State) : Host.Outcome State Fault Refusal :=
  issue .c 0 none [a] (fun e => e.done e.k) s

/-- LRD of rsbot (R128): the oldest entry is removed and returned. -/
def execLrdRsbot (d : Spec) (s : State) : Host.Outcome State Fault Refusal :=
  issue .c 0 (some d) [] (fun e =>
    let st := e.k.lt.rstack
    let v : Word := match st.getLast? with
      | some a => BitVec.ofNat 64 (a % 2 ^ 48)
      | none => 0
    let e := { e with k := e.k.setLt { e.k.lt with rstack := st.dropLast } }
    e.done (e.result d 1 v e.push)) s

/-- LWR of rsbot (R128): a new oldest entry, one cycle after issue. -/
def execLwrRsbot (a : Spec) (s : State) : Host.Outcome State Fault Refusal :=
  issue .c 0 none [a] (fun e =>
    let v := e.rd a
    if wbits v 4 0 ≠ 0 ∨ wbits v 63 48 ≠ 0 ∨ e.k.lt.rstack.length = 16 then .fault 0x02
    else e.done (e.k.fly .c (landAt e.s.cycle e.k0 .c 1) .rsbot v false [])) s

/-! Prefixes and YIELD -/

/-- The levels in whose bodies the stream's code stands: those active in its current frame (04 R119). -/
def StreamState.bodies (ss : StreamState) : List Nat := (ss.active.filter fun p => p.2.frame == ss.frame).map (·.1)

/-- A REP in the issuing stream: the repetitions and steps of its next word (03 R85). -/
def rep (st : Strm) (b a d : BitVec 2) (c : BitVec 6) (s : State) : Host.Outcome State Fault Refusal :=
  issue st 0 none [] (fun e =>
    .ok ⟨e.s, e.k, 1, .rep ⟨c.toNat + 1, d.toNat, a.toNat, b.toNat, 0, false, (e.k0.strm st).bodies⟩⟩) s

/-- REP (R85), C stream. -/
def execRep (b a d : BitVec 2) (c : BitVec 6) (s : State) : Host.Outcome State Fault Refusal := rep .c b a d c s

/-- REP (R85), L, X and S. -/
def execLxsRep (b a d : BitVec 2) (c : BitVec 6) (s : State) : Host.Outcome State Fault Refusal := rep s.sel.st b a d c s

/-- VOTE (R135): the next C word is voted. In this model the three copies agree: a disagreement is a soft error. -/
def execVote (s : State) : Host.Outcome State Fault Refusal :=
  issue .c 0 none [] (fun e => .ok ⟨e.s, e.k, 1, .vote (e.k0.lane .c)⟩) s

/-! Delivery (02 R36-R41, 04 R114, R116) -/

/-- C's path by fall-through from the line it has reached: the next line, the marks of the back edges taken and levels left, and
C's state after them (04 R114, R118, R122). At most three levels end in one line. -/
def fallThrough : Nat → Nat → StreamState → List Mark → Nat × StreamState × List Mark
  | 0, line, c, ms => (line + 32, c, ms)
  | fuel + 1, line, c, ms =>
    match c.innermost with
    | some (lv, r) =>
      if r.last = line then
        if (r.piped || !r.exit) && r.idx + 1 < r.total then (r.first, c.pass (.back lv r.count), ms ++ [.back lv r.count])
        else fallThrough fuel line (c.pass (.leave lv)) (ms ++ [.leave lv])
      else (line + 32, c, ms)
    | none => (line + 32, c, ms)

/-- The next line of C's path, with the marks and C's state when it is entered. -/
def Ctx.pathNext (k : Ctx) : Nat × StreamState × List Mark :=
  match k.lt.next with
  | some a => (a, k.lt.c, [])
  | none => fallThrough 3 k.lt.line k.lt.c []

/-- The gate of a lane of line `addr` (04 R120): none outside a pipelined body. -/
def StreamState.gateOf (c : StreamState) (addr lane : Nat) : Option (BitVec 8) :=
  match c.innermost with
  | some (_, r) =>
    if r.piped && r.holds addr then
      match r.map with
      | some m => some ((m.getD ((addr - r.first) / 32) []).getD lane 0)
      | none => some 0
    else none
  | none => none

/-- The lanes of a line for one stream, as queue items; `bad`: its 8-byte words that are marked (13 R385). -/
def lineItems (c : StreamState) (addr : Nat) (ws : List W32) (bad : List Nat) (st : Strm) : List QItem :=
  let ls := lanesFor st ws
  let lastLane := (ls.map (·.1)).getLast?.getD 0
  ls.map fun p => .lane ⟨addr + 4 * p.1, p.2.1, p.2.2, decide (p.1 < lastLane), c.gateOf addr p.1,
    bad.contains ((addr + 4 * p.1) / 8 * 8) || (p.2.2.isSome && bad.contains ((addr + 4 * p.1 + 4) / 8 * 8))⟩

/-- Room for a line's lanes in a queue of 64 (02 R38). -/
def StreamState.roomFor (ss : StreamState) (items : List QItem) : Bool := laneCount ss.queue + laneCount items ≤ 64

/-- Whether the next line of the path may be delivered: the context is resident, C has issued every C instruction delivered,
nothing has been raised that stops it, and C is not stopped for good (02 R38, 12 R358, R374). -/
def Ctx.mayDeliver (k : Ctx) : Bool :=
  k.res == .resident && laneCount k.lt.c.queue == 0 && k.nextFault.isNone && !k.halted && k.lt.hold != .saving &&
  !(match k.lt.hold with
    | .eret _ => true
    | _ => false)

/-- A stream has not left the body that was declared as `ord` (04 R116): it is in it, or its path has yet to come to its declaration. -/
def StreamState.inBody (ss : StreamState) (ord : Nat) : Bool :=
  ss.views.toList.any (fun v => v.any fun r => r.ord == ord) || ss.queue.any fun i => match i with
    | .mark (.decl _ r) => r.ord == ord
    | _ => false

/-- The same of what a handler has put aside (12 R358, R125): a stream's queue and levels in the trap frame. -/
def TrapFrame.inBody (f : TrapFrame) (ord : Nat) : Bool :=
  (f.queues.toList.zip f.views.toList).any fun p => ({ StreamState.reset with queue := p.1, views := p.2 }).inBody ord

/-- The lines that the loop buffer holds while C's state is `c`: those of bodies that some stream has not left (04 R116). -/
def Light.heldBuf (l : Light) (c : StreamState) : List (Nat × Nat × List W32) :=
  l.lbuf.filter fun p => ([c, l.l, l.x, l.s].any fun ss => ss.inBody p.2.1) || l.frame.any fun f => f.inBody p.2.1

/-- Whether the line at an address finds a free line of the loop buffer, where it has to be captured (04 R117). -/
def Light.bufRoom (l : Light) (c : StreamState) (addr : Nat) : Bool :=
  (c.bodyOf addr).isNone || (l.captured c addr).isSome || decide ((l.heldBuf c).length < 32)

/-- The line delivered: its lanes and marks join the queues, a body line is captured by the loop buffer (04 R116), with the marks of its words,
and C is in that line. -/
def Ctx.deliver (k : Ctx) (addr : Nat) (c : StreamState) (ms : List Mark) (ws : List W32) (bad : List Nat) : Ctx :=
  let l := k.lt
  let marks := if (c.bodyOf addr).isSome && (l.captured c addr).isNone then bad.map RegPlace.word else []
  let add (st : Strm) (ss : StreamState) : StreamState :=
    ({ ss with queue := ss.queue ++ ms.map QItem.mark ++ lineItems c addr ws bad st }).passHead
  let lbuf := match c.bodyOf addr with
    | some o => if (l.captured c addr).isSome then l.heldBuf c else l.heldBuf c ++ [(addr, o, ws)]
    | none => l.heldBuf c
  { k with
    ahead := k.ahead.filter fun p => p.1 != addr
    lt := { l with c := { c with queue := lineItems c addr ws bad .c }, l := add .l l.l, x := add .x l.x, s := add .s l.s
                   line := addr, next := none, lbuf := lbuf
                   bad := (l.bad.filter fun r => match r with
                     | .line a => lbuf.any fun p => p.1 == a
                     | .word a => lbuf.any fun p => p.1 == a / 32 * 32
                     | _ => true) ++ marks } }

/-- LINE_DELIVERY (R38, R41): the next line of the path is delivered when every queue has room, and the loop buffer where it captures the
line (04 R117); a line that is nonconforming or
whose fetch faults raises its fault in C at its first byte, and delivers nothing. -/
def execLineDelivery (ctx : Nat) (s : State) : Host.Outcome State Fault Refusal :=
  match s.ctx ctx with
  | none => .next s
  | some k =>
    if !k.mayDeliver then .next s else
    let (addr, c, ms) := k.pathNext
    let bad (code : Nat) (info : Word) (lvl : Nat) (wk : Bool) : Host.Outcome State Fault Refusal :=
      .next (s.setCtx ctx (k.raise ⟨.c, code, true, true, addr, info, 0, 0, lvl, wk, 0, s.cycle, none, [], 0⟩))
    match s.fetchLine k addr with
    | .wait q => .next (s.asks q)
    | .trap code info lvl wk _ _ => bad code info lvl wk
    | .ok ws =>
      if !lineOk ws then bad 0x01 0 0 false
      else if k.lt.bufRoom c addr && [Strm.l, .x, .s].all fun st => (k.strm st).roomFor (lineItems c addr ws [] st) then
        .next (s.setCtx ctx (k.deliver addr c ms ws (s.lineBad k addr)))
      else .next s

end Sys2Proof.Machine
end

