-- ==== Sys2Proof/Machine/System.lean ====
section
/-! DEFINITION. Result FIFOs and completion barriers (03 R78-R82, 07 R236-R238), spill slots (03 R83, R84), hardware tokens
(09 R287, R288), system registers (12 R363), traps and returns (12 R361, R362, R364). -/

namespace Sys2Proof.Machine

open Sys2Proof

/-! Popping -/

/-- EPOP and MSTAT (03 R82, 07 R244): the oldest entry of a FIFO is popped and `f` of it written; a marked entry raises 0x13 and
is still popped (11 R341). -/
def popRing (st : Strm) (t : Tok) (d : Spec) (r : Ring) (m : BitVec 1) (p : BitVec 3) (f : Word → Word) (s : State) :
    Host.Outcome State Fault Refusal :=
  issue st t (some d) [] (fun e =>
    let q := e.k.lt.fifo r
    match q.entries with
    | x :: rest =>
      let k := e.k.setLt (e.k.lt.setFifo r { q with entries := rest })
      if !x.bad.isEmpty then
        e.done (k.raise { syncFault e.k0 st 0x13 0 0 false 0 x.bad e.s.cycle with skip := true })
      else
        let e := { e with k := k.acquire x.acq }
        let k := e.result d 1 (f x.val) e.push
        e.done (if m == 1 then k.flyPred e p.toNat true else k)
    | [] =>
      if m == 1 then e.done ((e.result d 1 0 e.push).flyPred e p.toNat false) else .wait none) s

/-- EPOP (R82), C stream. -/
def execEpop (d a : Spec) (m : BitVec 1) (p : BitVec 3) (s : State) : Host.Outcome State Fault Refusal :=
  popRing .c 0 d (Ring.byNumber a.toNat) m p id s

/-- EPOP (R82), L, X and S. -/
def execLxsEpop (t : Tok) (d a : Spec) (m : BitVec 1) (p : BitVec 3) (s : State) : Host.Outcome State Fault Refusal :=
  popRing s.sel.st t d (Ring.byNumber a.toNat) m p id s

/-- The field of a matrix status word that MSTAT selects (07 R231, R244). -/
def mstatField (f : Nat) (v : Word) : Word :=
  match f with
  | 0 => v
  | 1 => BitVec.ofNat 64 (wbits v 23 12)
  | 2 => BitVec.ofNat 64 (wbits v 35 24)
  | _ => BitVec.ofNat 64 (wbits v 39 36)

/-- MSTAT (R244). -/
def execMstat (t : Tok) (d : Spec) (m : BitVec 1) (p : BitVec 3) (f : BitVec 2) (s : State) :
    Host.Outcome State Fault Refusal :=
  popRing .x t d .mx m p (mstatField f.toNat) s

/-- The status word of a completion barrier (07 R238). -/
def CBar.word (b : CBar) : Word :=
  let phase := match b.phase with
    | .idle => 0
    | .armed => 1
    | .complete => 2
    | .error => 3
  BitVec.ofNat 64 (b.done % 2 ^ 8 + b.count % 2 ^ 8 * 2 ^ 8 + phase * 2 ^ 16 + b.fault % 2 ^ 8 * 2 ^ 24 + b.index % 2 ^ 16 * 2 ^ 32 +
    b.ftag % 2 ^ 8 * 2 ^ 48)

/-- CBWAIT (07 R238): a barrier in its complete or error phase is read once. -/
def cbwait (st : Strm) (t : Tok) (d : Spec) (q : BitVec 3) (m : BitVec 1) (p : BitVec 3) (s : State) :
    Host.Outcome State Fault Refusal :=
  issue st t (some d) [] (fun e =>
    let b := e.k.lt.cbar q.toNat
    if b.phase == .complete || b.phase == .error then
      let k := (e.k.setLt (e.k.lt.setCbar q.toNat { b with phase := .idle })).acquire b.acq
      let e := { e with k := k }
      let k := e.result d 1 b.word e.push
      e.done (if m == 1 then k.flyPred e p.toNat true else k)
    else if m == 0 then .wait none
    else e.done ((e.result d 1 b.word e.push).flyPred e p.toNat false)) s

/-- CBWAIT (R238), C stream. -/
def execCbwait (d : Spec) (q : BitVec 3) (m : BitVec 1) (p : BitVec 3) (s : State) : Host.Outcome State Fault Refusal :=
  cbwait .c 0 d q m p s

/-- CBWAIT (R238), L, X and S. -/
def execLxsCbwait (t : Tok) (d : Spec) (q : BitVec 3) (m : BitVec 1) (p : BitVec 3) (s : State) :
    Host.Outcome State Fault Refusal := cbwait s.sel.st t d q m p s

/-- CBSET (R236): the barrier is armed, or complete for a count of 0, from the cycle after issue. -/
def execCbset (q : BitVec 3) (a : Spec) (s : State) : Host.Outcome State Fault Refusal :=
  issue .c 0 none [a] (fun e =>
    let b := e.k.lt.cbar q.toNat
    if 255 < (e.rd a).toNat ∨ b.phase = .armed ∨ b.phase = .error then .fault 0x02
    else e.done (e.k.fly .c (landAt e.s.cycle e.k0 .c 1) (.cbar q.toNat) (e.rd a) false [])) s

/-- A member of a barrier completes (07 R237): `fault` is 0 or its fault code, with the failing block or step and the tag. -/
def Light.member (l : Light) (q fault index tag : Nat) (acq : List StoreWord) : Light :=
  let b := l.cbar q
  let b := { b with done := b.done + 1, acq := b.acq ++ acq }
  let b := if fault ≠ 0 ∧ !b.failed then { b with failed := true, fault := fault, index := index, ftag := tag } else b
  l.setCbar q (if b.done = b.count then { b with phase := if b.failed then .error else .complete } else b)

/-- An operation named a barrier at issue (07 R237): 0x02 unless it is armed with room for one more member. -/
def Ctx.joinCbar (k : Ctx) (q : Nat) : Att Ctx :=
  let b := k.lt.cbar q
  if b.phase = .armed ∧ b.members < b.count then .ok (k.setLt (k.lt.setCbar q { b with members := b.members + 1 }))
  else .fault 0x02

/-! Spill slots -/

/-- SPLD (R84). -/
def execSpld (d : Spec) (n : BitVec 14) (s : State) : Host.Outcome State Fault Refusal :=
  issue .c 0 (some d) [] (fun e =>
    if e.k.nspill ≤ n.toNat then .fault 0x16
    else if e.k.lt.bad.contains (.spill n.toNat) then .consumed [.file e.id (.spill n.toNat)]
    else e.done (e.result d 1 ((Sparse.get e.k.lt.spill n.toNat).getD 0) e.push)) s

/-- SPST (R84): the write lands one cycle after issue. -/
def execSpst (a : Spec) (n : BitVec 14) (s : State) : Host.Outcome State Fault Refusal :=
  issue .c 0 none [a] (fun e =>
    if e.k.nspill ≤ n.toNat then .fault 0x16
    else e.done (e.k.fly .c (landAt e.s.cycle e.k0 .c 1) (.spill n.toNat) (e.rd a) false [])) s

/-! Hardware tokens -/

/-- WAITK (R288). -/
def execWaitk (n : BitVec 3) (s : State) : Host.Outcome State Fault Refusal :=
  issue .c 0 none [] (fun e =>
    if Sparse.get e.k.dtokens n.toNat ≠ some .seqToCtx then .fault 0x0E
    else
      let v := e.k.lt.tk[n.toNat]?.getD 0
      if v = 0 then .wait none else e.done (e.k.setLt { e.k.lt with tk := e.k.lt.tk.setIfInBounds n.toNat (v - 1) })) s

/-- The cycle in which the last of C's scratchpad accesses that have issued is complete: all have one (11 R342, 02 R46). -/
def Ctx.accessesDone (k : Ctx) (cycle : Nat) : Nat :=
  (k.pends.filter fun p => p.strm == .c).foldl (fun c p => Nat.max c (p.due.getD cycle)) cycle

/-- Increments of a hardware token that SIGK has issued and that are not visible yet. -/
def Light.tokensFlying (l : Light) (n : Nat) : Nat := (l.flights.filter fun f => f.tgt == .token n).length

/-- SIGK (R288): the increment becomes visible when every scratchpad access that C issued before it is complete, at issue where none is
under way. Those not visible yet count towards the limit of 255 [51]. -/
def execSigk (n : BitVec 3) (s : State) : Host.Outcome State Fault Refusal :=
  issue .c 0 none [] (fun e =>
    if Sparse.get e.k.dtokens n.toNat ≠ some .ctxToSeq then .fault 0x0E
    else
      (Att.when_ (decide ((e.k.lt.tk[n.toNat]?.getD 0) + e.k.lt.tokensFlying n.toNat < 255) || e.k.lt.owed[n.toNat]?.getD 0 != 0)).bind fun _ =>
        let land := e.k.accessesDone e.s.cycle
        if land = e.s.cycle then e.done (e.k.setLt (e.k.lt.giveToken n.toNat))
        else e.done (e.k.fly .c land (.token n.toNat) 0 false [])) s

/-! System registers -/

/-- RDSYS (R363). -/
def execRdsys (d : Spec) (n : BitVec 14) (s : State) : Host.Outcome State Fault Refusal :=
  issue .c 0 (some d) [] (fun e =>
    if !e.k.maySysRead n.toNat then .fault 0x03
    else e.done (e.result d 1 (sysRead e.s.cycle e.id e.k0 n.toNat) e.push)) s

/-- The checks of a WRSYS of register `n` that need nothing but its value: the level, then reserved bits (00 R11, 12 R363). -/
def Env.sysMay (e : Env) (n : Nat) (v : Word) : Att Unit :=
  (Att.need (e.k.maySysWrite n) 0x03).bind fun _ => Att.need (sysValueOk n v) 0x02

/-- A WRSYS takes effect one cycle after issue (12 R363). -/
def Env.sysFly (e : Env) (n : Nat) (v : Word) : Att Done :=
  e.done (e.k.fly .c (landAt e.s.cycle e.k0 .c 1) (.sys n) v false [])

/-- The registers that the kernel changes only while their context is off its core: the partition (05 R144), the units (07 R215), the slots
(10 R303). -/
def offCoreReg (n : Nat) : Bool := n == 0x060 || n == 0x061 || n == 0x062 || (0x0C0 ≤ n && n ≤ 0x0FF)

/-- WRSYS (R363) of a register that has no row of its own. One that no level writes has no effect and raises nothing; one that changes only
while its context is off its core keeps its value too, once the value has been checked [21]. -/
def execWrsys (a : Spec) (n : BitVec 14) (s : State) : Host.Outcome State Fault Refusal :=
  issue .c 0 none [a] (fun e =>
    let v := e.rd a
    if sysAccess n.toNat = .readOnly then e.done e.k
    else (e.sysMay n.toNat v).bind fun _ =>
      (Att.need (e.s.kernelWriteOk e.id e.k n.toNat v) 0x02).bind fun _ =>
        if offCoreReg n.toNat then e.done e.k else e.sysFly n.toNat v) s

/-- Accesses admitted under tag `n` and not yet complete (05 R157). -/
def Ctx.tagBusy (k : Ctx) (n : Nat) : Bool :=
  let t := k.lt.sys.tags[n]?.getD Tag.reset
  t.wadm != t.wdone || t.radm != t.rdone || (k.pends.any fun p => p.utags.contains n) || k.crds.any fun c => c.utags.contains n

/-- WRSYS_TAG (R157): C waits for the accesses admitted; then the range is checked against the partition and the other tags. -/
def execWrsysTag (n : BitVec 5) (a : Spec) (s : State) : Host.Outcome State Fault Refusal :=
  issue .c 0 none [a] (fun e =>
    let v := e.rd a
    let t := Tag.ofWord v
    (e.sysMay (0x080 + n.toNat) v).bind fun _ =>
    (Att.when_ (!e.k.tagBusy n.toNat)).bind fun _ =>
    (if !t.en || decide (t.range.2 ≤ e.k.spSize) then .ok () else .faultAt 0x08 t.range.1 : Att Unit).bind fun _ =>
    (Att.need (!t.en || (List.range 32).all fun j =>
      j == n.toNat || (let u := e.k.lt.sys.tags[j]?.getD Tag.reset
                       !u.en || !(meets t.range.1 t.range.2 u.range.1 u.range.2))) 0x02).bind fun _ =>
    e.sysFly (0x080 + n.toNat) v) s

/-- Capacity of a boundary half for a sys.bndcap value (08 R252). -/
def capacity (bndcap : Word) : Nat :=
  let c := wbits bndcap 3 0 * 4096
  if wbits bndcap 31 16 = 0 then c else Nat.min c (wbits bndcap 31 16)

/-- Physical units `lo` up to `hi` that an operation or access in progress still writes (07 R218). -/
def Ctx.unitsBusy (k : Ctx) (lo hi : Nat) : Bool :=
  (k.pends.any fun p => p.units.any fun u => lo ≤ u && u < hi) ||
  (k.mats.any fun m => (m.kind == .mma || m.kind == .mmat || m.kind == .mmac) &&
    (let u := m.acc; let n := if m.cm then 2 else 1; decide (u < hi) && decide (lo < u + n)))

/-- WRSYS_BNDCAP (R253): C waits for strip work and the units concerned; then the boundary moves, C issuing nothing more until it
is done. -/
def execWrsysBndcap (a : Spec) (s : State) : Host.Outcome State Fault Refusal :=
  issue .c 0 none [a] (fun e =>
    let v := e.rd a
    let k := e.k
    let units := wbits v 3 0
    let low := k.accCnt - Nat.max units k.bndUnits
    (e.sysMay 0x00B v).bind fun _ =>
    (Att.when_ (!(k.mats.any fun m => m.kind == .tcon || m.kind == .cplan) && !(k.pends.any fun p => p.boundary) &&
      !k.unitsBusy low k.accCnt)).bind fun _ =>
    (Att.need (decide (units ≤ k.accCnt) && (!(k.lt.sys.bndshape.getLsbD 48) || decide (k.bnd.length ≤ capacity v))) 0x02).bind fun _ =>
    let till := e.s.cycle + 1 + (8 * k.bnd.length + 511) / 512 + 8
    e.done (k.setLt { k.lt with hold := .move till v })) s

/-- Whether a walk that has read an entry of a range has not ended (11 R352): the first entry that it reads, of level 3, is one of every range
that meets what that entry maps. -/
def State.walksIn (s : State) (va size : Nat) : Bool :=
  s.walks.any fun w =>
    let lo := w.va / 2 ^ levelShift 3 * 2 ^ levelShift 3
    decide (w.lvl < 3) && meets va (va + size) lo (lo + 2 ^ levelShift 3)

/-- WRSYS_TLBINV (R352): C waits until every walk that read an entry of the range has ended; every cached translation of the range is
dropped. The size and alignment of the range must be legal. -/
def execWrsysTlbinv (a : Spec) (s : State) : Host.Outcome State Fault Refusal :=
  issue .c 0 none [a] (fun e =>
    let v := e.rd a
    let size := wbits v 5 0
    let va := wbits v 47 16 * 2 ^ 16
    (e.sysMay 0x065 v).bind fun _ =>
    (Att.need (decide (16 ≤ size) && decide (size ≤ 48) && va % 2 ^ size == 0) 0x02).bind fun _ =>
    (Att.when_ (!(e.s.walksIn va (2 ^ size)))).bind fun _ =>
    let s := { e.s with tlb := e.s.tlb.filter fun t => !(meets va (va + 2 ^ size) t.va (t.va + t.size)) }
    .ok ⟨s, e.k.fly .c (landAt e.s.cycle e.k0 .c 1) (.sys 0x065) v false [], 1, .none⟩) s

/-- WRSYS_DBUF (R347). -/
def execWrsysDbuf (n : BitVec 2) (a : Spec) (s : State) : Host.Outcome State Fault Refusal :=
  issue .c 0 none [a] (fun e =>
    (e.sysMay (0x04C + n.toNat) (e.rd a)).bind fun _ =>
    (Att.need (e.k.lt.sys.dbufOk n.toNat (e.rd a)) 0x02).bind fun _ => e.sysFly (0x04C + n.toNat) (e.rd a)) s

/-- WRSYS_BD (R249). -/
def execWrsysBd (n : BitVec 4) (a : Spec) (s : State) : Host.Outcome State Fault Refusal :=
  issue .c 0 none [a] (fun e =>
    (e.sysMay (0x020 + n.toNat) (e.rd a)).bind fun _ => e.sysFly (0x020 + n.toNat) (e.rd a)) s

/-- WRSYS_EVCNT (R210): the write that lands opens or closes the window. -/
def execWrsysEvcnt (n : BitVec 3) (a : Spec) (s : State) : Host.Outcome State Fault Refusal :=
  issue .c 0 none [a] (fun e =>
    (e.sysMay (0x030 + n.toNat) (e.rd a)).bind fun _ => e.sysFly (0x030 + n.toNat) (e.rd a)) s

/-- WRSYS_EVSTAT (R209): write one to clear. -/
def execWrsysEvstat (a : Spec) (s : State) : Host.Outcome State Fault Refusal :=
  issue .c 0 none [a] (fun e => (e.sysMay 0x049 (e.rd a)).bind fun _ => e.sysFly 0x049 (e.rd a)) s

/-- The effect of a kernel write on a context: a new rank governs from the following cycle (01 R22), so that of a context on its core stands
with the end of this one. -/
def Ctx.kernelLand (k : Ctx) (cycle n : Nat) (v : Word) : Ctx :=
  if n = 0x000 ∧ k.onItsCore then { k with rankNext := some (v.setWidth 3) } else k.sysNow cycle n v

/-- A kernel write of register `n` of a context through the context control window (14 R397): an error response and no change
where the write would raise a fault, or where the register may change only while the context is off its core (05 R144,
07 R215, 10 R303), where an ended context's operations in flight still are (01 R27). -/
def kernelWrite (ctx n : Nat) (v : Word) (offCore : Bool) (s : State) : Host.Outcome State Fault Refusal :=
  let err : Host.Outcome State Fault Refusal := .next { s with out := s.out ++ [.window 0 true] }
  match s.ctx ctx with
  | none => err
  | some k =>
    if (offCore && (k.onItsCore || (k.res == .ended && s.atWork ctx k))) || !sysValueOk n v || !s.kernelWriteOk ctx k n v then err
    else .next { s.setCtx ctx (k.both (·.kernelLand s.cycle n v)) with out := s.out ++ [.window 0 false] }

/-- WRSYS_SPBASE (R144): the kernel's write of sys.spbase or sys.spsize. -/
def execWrsysSpbase (ctx : Nat) (size : BitVec 1) (v : Word) (s : State) : Host.Outcome State Fault Refusal :=
  kernelWrite ctx (0x060 + size.toNat) v true s

/-- WRSYS_ACCSET (R215): the kernel's write of sys.accset. -/
def execWrsysAccset (ctx : Nat) (v : Word) (s : State) : Host.Outcome State Fault Refusal := kernelWrite ctx 0x062 v true s

/-- WRSYS_SLOT (R302): the kernel's write of a slot register. -/
def execWrsysSlot (ctx : Nat) (n : BitVec 6) (v : Word) (s : State) : Host.Outcome State Fault Refusal :=
  kernelWrite ctx (0x0C0 + n.toNat) v true s

/-- WRSYS_RECALL (R372): the kernel's write of sys.recall. -/
def execWrsysRecall (ctx : Nat) (v : Word) (s : State) : Host.Outcome State Fault Refusal := kernelWrite ctx 0x058 v false s

/-- WRSYS_CTXAREA (R369): the kernel's write of sys.ctxarea. -/
def execWrsysCtxarea (ctx : Nat) (v : Word) (s : State) : Host.Outcome State Fault Refusal := kernelWrite ctx 0x059 v false s

/-! Traps, returns and the rest (12 R361, R362, R364) -/

/-- TRAP (R362), tenant form: 0x1D is raised, its effect complete, so that ERET resumes after it. -/
def execTrap (a : Spec) (n : BitVec 7) (s : State) : Host.Outcome State Fault Refusal :=
  issue .c 0 none [a] (fun e =>
    e.done (e.k.raise { syncFault e.k0 .c 0x1D (e.rd a) 0 false 0 [] e.s.cycle with skip := true, tag := n.toNat })) s

/-- TRAP_K_EXIT (R362, R48): the context ends, once the kernel answers (14 R411); a token left or a pipe entry left is reported as 0x0E
graded P with the exit status. Judged are the counters' visible tokens and the entries that stand in the pipes: R48 says nothing of
results in flight towards a pipe, of pushes reserved and not yet visible, and of what a handler's trap frame holds [62]. -/
def execTrapKExit (_d a : Spec) (s : State) : Host.Outcome State Fault Refusal :=
  issue .c 0 none [a] (fun e =>
    let l := e.k.lt
    let left := (List.range 4).any (fun j => (l.ctrs[j]?.getD ⟨0, 0⟩).vis != 0) ||
      (List.range 6).any fun j => !(l.pipes[j]?.getD []).isEmpty
    let status : W32 := (e.rd a).setWidth 32
    (Att.when_ (!e.s.kernelDown)).bind fun _ =>
    let s := e.s.endCtx e.id e.k (if left then 0x0E else 0) (if left then some 'P' else none) (some status)
    .ok ⟨s, { e.k with res := .ended, notice := none }, 1, .none⟩) s

/-- TRAP_K_SAVED (R365, R425): with a slice-end notice pending, the light save starts once engine work has drained; otherwise no
effect but its issue cycle. -/
def execTrapKSaved (_d a : Spec) (s : State) : Host.Outcome State Fault Refusal :=
  issue .c 0 none [a] (fun e =>
    if e.k.notice.isNone then e.done e.k
    else (Att.when_ (!e.s.atWork e.id e.k)).bind fun _ =>
      e.done { e.k.setLt { e.k.lt with hold := .saving } with saveAt := e.s.cycle + 1 }) s

/-- TRAP_K_SERVICE (R362): C stops until the kernel replies; the reply's destination is fixed now (03 R76). -/
def execTrapKService (d a : Spec) (n : BitVec 7) (s : State) : Host.Outcome State Fault Refusal :=
  issue .c 0 (some d) [a] (fun e =>
    e.done (e.k.setLt { e.k.lt with hold := .kernel n.toNat (e.rd a) (dstTarget e.k0 .c d) })) s

/-- The streams return to the code that the handler interrupted (12 R361), each passing at once what its path meets there. -/
def Ctx.return_ (k : Ctx) (skip : Bool) : Ctx :=
  Strm.all.foldl (fun k st => k.setStrm st (k.strm st).passHead) (k.leaveHandler skip)

/-- The wait of an ERET is over: L, X and S have come to it on their own paths (04 R119) [67], and every result of every stream has
landed (12 R361). -/
def Ctx.handlerDone (k : Ctx) : Bool :=
  k.lt.flights.isEmpty && [Strm.l, .x, .s].all fun st => laneCount (k.strm st).queue == 0

/-- An ERET whose wait is over returns. -/
def finishEret (ctx : Nat) (s : State) : Host.Outcome State Fault Refusal :=
  match s.ctx ctx with
  | none => .next s
  | some k => match k.lt.hold with
    | .eret skip =>
      if k.res == .resident && k.handlerDone then .next (s.setCtx ctx ((k.setLt { k.lt with hold := .none }).return_ skip)) else .next s
    | _ => .next s

/-- ERET (12 R361): the checks of the handler, the wait, then the return. A counter with a reserved push, or a pipe with a result in flight
towards it, counts as not empty: the model's choice [62]. -/
def eret (skip : Bool) (s : State) : Host.Outcome State Fault Refusal :=
  issue .c 0 none [] (fun e =>
    let l := e.k.lt
    if (e.k0.lane .c).later then .fault 0x02
    else match l.frame with
      | none => .fault 0x02
      | some f =>
        (Att.need l.c.innermost.isNone 0x04).bind fun _ =>
        (Att.need (l.depth == f.depth) 0x02).bind fun _ =>
        (Att.need ((List.range 4).all (fun j => let v := l.ctrs[j]?.getD ⟨0, 0⟩; v.vis == 0 && v.res == 0) &&
          (List.range 6).all (fun j => (l.pipes[j]?.getD []).isEmpty) &&
          l.flights.all fun x => match x.tgt with
            | .pipe _ => false
            | _ => true) 0x0E).bind fun _ =>
        if e.k.handlerDone then
          .ok ⟨e.s, (e.k.setStrm .c { e.k.strm .c with recent := (e.k.strm .c).noteIssue e.s.cycle }).return_ skip, 1, .stays⟩
        else e.done (e.k.setLt { l with hold := .eret skip })) s

/-- ERET (R361). -/
def execEret (s : State) : Host.Outcome State Fault Refusal := eret false s

/-- ERET.SKIP (R361). -/
def execEretSkip (s : State) : Host.Outcome State Fault Refusal := eret true s

/-- RDCYC (R364). -/
def execRdcyc (d : Spec) (s : State) : Host.Outcome State Fault Refusal :=
  issueReg .c 0 d [] 1 (fun e => BitVec.ofNat 64 e.s.cycle) s

/-- BKPT (R364, R374): with a debugger attached C stops after it, n standing in sys.tinfo1; otherwise no effect. -/
def execBkpt (n : BitVec 8) (s : State) : Host.Outcome State Fault Refusal :=
  issue .c 0 none [] (fun e =>
    if e.k.lt.sys.dbgctl.getLsbD 0 then
      e.done { e.k.setSys { e.k.lt.sys with tinfo1 := n.setWidth 64 } with halted := true, bkptHalt := true, stopped := [] }
    else e.done e.k) s

/-- NOP (R364). -/
def execNop (s : State) : Host.Outcome State Fault Refusal := issue .c 0 none [] (fun e => e.done e.k) s

end Sys2Proof.Machine
end

