-- ==== Sys2Proof/Machine/Region.lean ====
section
/-! DEFINITION. The core scratchpad (05): region descriptors and their checks, what a stream's access sees, tile tags, the pending
access that an instruction leaves and its completion; and the scalar accesses LDS and STS (11 R342). -/

namespace Sys2Proof.Machine

open Sys2Proof

/-- A region descriptor (05 R146). -/
structure Rgn where
  base   : Nat
  stride : Int
  count  : Nat
  ty     : Nat
  layout : Nat
  deriving DecidableEq, Repr

/-- The descriptor in a scalar value (05 R146). -/
def Rgn.ofWord (v : Word) : Rgn :=
  ⟨wbits v 23 0, sextN (v.toNat / 2 ^ 24) 16, wbits v 55 40, wbits v 59 56, wbits v 63 60⟩

/-- Whether a type is a sub-byte type (05 R147). -/
def subByte (ty : Nat) : Bool := ty == 7 || ty == 8 || ty == 9

/-- Whether a type is a byte type. -/
def isByteTy (ty : Nat) : Bool := decide (ty ≤ 6) || ty == 10 || ty == 11

/-- The size in bytes of an element of a byte type (05 R147). -/
def elemSize (ty : Nat) : Nat := typeBits ty / 8

/-- The bytes that a region of a sub-byte type spans: CB4 adds a BF16 scale for each 32 elements (05 R149). -/
def Rgn.packedBytes (r : Rgn) : Nat :=
  if r.ty = 9 then r.count / 2 + r.count / 32 * 2 else (r.count * typeBits r.ty + 7) / 8

/-- The linear offset of element k of a byte type (05 R148). -/
def Rgn.lin (r : Rgn) (k : Nat) : Int := r.base + k * r.stride * elemSize r.ty

/-- The offset that a layout mode accesses (05 R148): a 16-byte chunk moves within its own 512-byte run. -/
def layoutOff (layout lin : Nat) : Nat :=
  let chunk := lin / 16 % 32
  let run := lin / 512 % 32
  let moved := match layout with
    | 0 => chunk
    | 1 => chunk ^^^ run
    | _ => (chunk + run) % 32
  lin / 512 * 512 + moved * 16 + lin % 16

/-- The offset accessed for element k of a byte type. -/
def Rgn.off (r : Rgn) (k : Nat) : Nat := layoutOff r.layout (r.lin k).toNat

/-- The lowest offset and the end of a region, judged on lin (05 R150). -/
def Rgn.extent (r : Rgn) : Int × Int :=
  if subByte r.ty then (r.base, r.base + r.packedBytes)
  else
    let a := r.lin 0
    let b := r.lin (r.count - 1)
    ((if a ≤ b then a else b), (if a ≤ b then b else a) + elemSize r.ty)

/-- The alignment of a region's base (05 R150). -/
def Rgn.align (r : Rgn) : Nat := if r.ty = 7 ∨ r.ty = 8 then 1 else if r.ty = 9 then 2 else elemSize r.ty

/-- The checks of a descriptor (05 R150), in order; `accept`: the types this operand of this instruction takes. -/
def Ctx.checkRgn (k : Ctx) (r : Rgn) (accept : Nat → Bool) : Att Unit :=
  if 11 < r.ty ∨ 2 < r.layout then .fault 0x02
  else if !accept r.ty then .fault 0x02
  else if subByte r.ty && (r.stride != 1 || r.layout != 0) then .fault 0x02
  else if r.ty = 9 ∧ r.count % 32 ≠ 0 then .fault 0x02
  else if r.base % r.align ≠ 0 then .faultAt 0x07 r.base
  else if r.count ≠ 0 ∧ (r.extent.1 < 0 ∨ (k.spSize : Int) < r.extent.2) then
    .trap 0x08 (BitVec.ofInt 64 (if r.extent.1 < 0 then r.extent.1 else r.extent.2 - 1)) 0 false 0 []
  else .ok ()

/-- The byte ranges of a region's elements: start and end offsets. -/
def Rgn.ranges (r : Rgn) : List (Nat × Nat) :=
  if r.count = 0 then []
  else if subByte r.ty then [(r.base, r.base + r.packedBytes)]
  else if r.stride = 1 ∧ r.layout = 0 then [(r.base, r.base + r.count * elemSize r.ty)]
  else (List.range r.count).map fun k => (r.off k, r.off k + elemSize r.ty)

/-! What an access sees (05 R151-R154) -/

/-- Masked byte writes in partition offsets, with the size in bits of the writer's elements. -/
abbrev Writes := Nat × List (Nat × Byte × Byte)

/-- The scratchpad as an access of one stream sees it: the partition's base, the core's bytes with the stream's own pending
writes applied (R153), the pending writes of others, and the number of the first free choice (R154) [7]. -/
structure View where
  base   : Nat
  mem    : Memory
  others : List Writes
  free   : Nat

/-- Writes in partition offsets, moved to physical addresses. -/
def shiftWrites (base : Nat) (ws : List (Nat × Byte × Byte)) : List (Nat × Byte × Byte) :=
  ws.map fun w => (base + w.1, w.2.1, w.2.2)

/-- The element size of a courier's writes, whose bytes have no type: the 8-byte word [7]. -/
def courierUnit : Nat := 64

/-- The writes of the engines' batches and chunks under way. -/
def Ctx.engineWrites (k : Ctx) : List Writes :=
  k.crds.filterMap (fun c => c.ahead.map fun b => (32, b.writes)) ++ k.cmds.filterMap fun c => c.ahead.map fun h => (courierUnit, h.writes)

/-- The partition as an access sees it for which the pending writes that `own` tells are done, and all others of any part. -/
def State.viewBy (s : State) (id : Nat) (k : Ctx) (own : Pend → Bool) : View :=
  let others := (k.pends.filter fun p => !(own p)).map (fun p => (p.esz, p.writes)) ++ k.engineWrites
  ⟨k.spBase, (k.pends.filter own).foldl (fun m p => m.putAll (shiftWrites k.spBase p.writes)) (s.core (coreOf id)).sp,
    others.filter (!·.2.isEmpty), s.free⟩

/-- What an access that reads now has read (R154). -/
def State.sawNow (s : State) (id : Nat) (k : Ctx) : Saw := ⟨(s.core (coreOf id)).sp, k.past.length, s.cycle⟩

/-- Noted writes of an access of stream `st` that stands before issue order `ord` (R153). -/
def ownBefore (st : Strm) (ord : Nat) (q : Option (Strm × Nat)) : Bool := q.any fun o => o.1 == st && decide (o.2 < ord)

/-- The bytes that an access of stream `st`, of issue order `ord`, has read, with what the stream's accesses before it have written since
(R153). -/
def Ctx.sinceMem (k : Ctx) (st : Strm) (ord : Nat) (w : Saw) : Memory :=
  ((k.past.drop w.past).filter fun q => ownBefore st ord q.1).foldl (fun m q => m.putAll (shiftWrites k.spBase q.2.2)) w.mem

/-- What others have written since an access of stream `st` has read. -/
def Ctx.sinceOthers (k : Ctx) (st : Strm) (w : Saw) : List Writes :=
  ((k.past.drop w.past).filter fun q => !(q.1.any fun o => o.1 == st)).map (·.2)

/-- The partition as an access under way of stream `st`, of issue order `ord`, may have seen it by now: as it read it, with any part of what
others have written since and are writing (R154) [7]. -/
def State.viewSince (s : State) (id : Nat) (k : Ctx) (st : Strm) (ord : Nat) (w : Saw) : View :=
  let own (p : Pend) : Bool := p.strm == st && decide (p.ord < ord)
  let v := s.viewBy id k own
  { v with
    mem := (k.pends.filter own).foldl (fun m p => m.putAll (shiftWrites k.spBase p.writes)) (k.sinceMem st ord w)
    others := (((k.past.drop w.past).filter fun q => !(ownBefore st ord q.1)).map (·.2)).filter (!·.2.isEmpty) ++ v.others }

/-- What stream `st` of a context sees of its partition. -/
def State.view (s : State) (id : Nat) (k : Ctx) (st : Strm) : View := s.viewBy id k fun p => p.strm == st

/-- Whole bytes written from an offset on, as masked writes. -/
def wholeWrites (off : Nat) (bs : List Byte) : List (Nat × Byte × Byte) := (bs.zipIdx).map fun p => (off + p.2, p.1, 0xFF)

/-- The `n` bytes of one element at a partition offset; `idx` numbers the element's free choice among the pending writes of other
streams, of which any number, oldest first, may already have taken effect (05 R152, R154) [7]. -/
def View.bytes (v : View) (idx off n : Nat) : List Byte :=
  let seen := (v.others.map (·.2)).filter fun ws => ws.any fun w => off ≤ w.1 && w.1 < off + n
  match seen with
  | [] => v.mem.read (v.base + off) n
  | seen =>
    let c := Config.freeNat (v.free + idx) % (seen.length + 1)
    ((seen.take c).foldl (fun m ws => m.putAll (shiftWrites v.base (ws.filter fun w => off ≤ w.1 && w.1 < off + n))) v.mem).read
      (v.base + off) n

/-- The size in bits of the element that a byte write belongs to: a nibble's neighbour of a whole byte is a scale of a CB4 region (05 R149). -/
def unitBits (esz : Nat) (mask : Byte) : Nat := if esz < 8 ∧ mask = 0xFF then 16 else esz

/-- The bits of a byte that belong to chosen elements, of a size in bits: a free choice for each aligned element (05 R152, R154) [7]. -/
def choiceMask (free unit addr : Nat) : Byte :=
  let one (j : Nat) : Bool := Config.freeNat (free + j) % 2 == 1
  if 8 ≤ unit then (if one (8 * addr / unit) then 0xFF else 0)
  else BitVec.ofNat 8 (((List.range 8).map fun b => if one ((8 * addr + b) / unit) then 2 ^ b else 0).sum)

/-- Bytes of a view as an access without elements of its own reads them: of each element that another writes, the old or the new value, by a
free choice (05 R152, R154) [7]. -/
def View.run (v : View) (off n : Nat) : List Byte :=
  ((v.others.zipIdx).foldl (fun m ws => m.putAll (shiftWrites v.base (ws.1.2.filterMap fun w =>
    let mask := w.2.2 &&& choiceMask (v.free + 2 ^ 24 * ws.2) (unitBits ws.1.1 w.2.2) w.1
    if off ≤ w.1 ∧ w.1 < off + n ∧ mask ≠ 0 then some (w.1, w.2.1, mask) else none))) v.mem).read (v.base + off) n

/-- The view whose free choices belong to the j-th source region of an instruction: a region draws at most 2^17 of them. -/
def View.at_ (v : View) (j : Nat) : View := { v with free := v.free + 131072 * j }

/-- A byte string cut into little-endian numbers of e bytes; `n` of them. -/
def chunksOf (e : Nat) : Nat → List Byte → List Nat
  | 0, _ => []
  | n + 1, bs => leNat (bs.take e) :: chunksOf e n (bs.drop e)

/-- The w-bit fields of a byte, lowest first (00 R9). -/
def fieldsOf (w : Nat) (b : Byte) : List Nat := (List.range (8 / w)).map fun j => b.toNat / 2 ^ (w * j) % 2 ^ w

/-- The encodings of a region's elements, in order; for CB4 the indices. -/
def View.elems (v : View) (r : Rgn) : List Nat :=
  if subByte r.ty then
    let w := typeBits r.ty
    let n := (r.count * w + 7) / 8
    (if v.others.isEmpty then (v.mem.read (v.base + r.base) n).flatMap (fieldsOf w)
     else (List.range r.count).map fun k =>
       ((v.bytes k (r.base + k * w / 8) 1).headD 0).toNat / 2 ^ (k * w % 8) % 2 ^ w).take r.count
  else
    let e := elemSize r.ty
    if v.others.isEmpty && r.stride == 1 && r.layout == 0 then chunksOf e r.count (v.mem.read (v.base + r.base) (r.count * e))
    else (List.range r.count).map fun k => leNat (v.bytes k (r.off k) e)

/-- The block scales of a CB4 region, as BF16 encodings (05 R149). -/
def View.scales (v : View) (r : Rgn) : List Nat :=
  (List.range (r.count / 32)).map fun j => leNat (v.bytes (r.count + j) (r.base + r.count / 2 + 2 * j) 2)

/-- The masked byte writes of an element's encoding (05 R152): element k of the region. -/
def Rgn.write (r : Rgn) (k enc : Nat) : List (Nat × Byte × Byte) :=
  if subByte r.ty then
    let w := typeBits r.ty
    let sh := k * w % 8
    [(r.base + k * w / 8, BitVec.ofNat 8 (enc % 2 ^ w * 2 ^ sh), BitVec.ofNat 8 ((2 ^ w - 1) * 2 ^ sh))]
  else (List.range (elemSize r.ty)).map fun j => (r.off k + j, BitVec.ofNat 8 (enc / 2 ^ (8 * j)), 0xFF)

/-- The writes of every element, in ascending element order (05 R151). -/
def Rgn.writes (r : Rgn) (encs : List Nat) : List (Nat × Byte × Byte) :=
  (encs.zipIdx).flatMap fun p => r.write p.2 p.1

/-- The writes of a CB4 region's scales. -/
def Rgn.writeScales (r : Rgn) (scales : List Nat) : List (Nat × Byte × Byte) :=
  (scales.zipIdx).flatMap fun p =>
    (List.range 2).map fun j => (r.base + r.count / 2 + 2 * p.2 + j, BitVec.ofNat 8 (p.1 / 2 ^ (8 * j)), 0xFF)

/-! Tile tags (05 R155-R159) -/

/-- Ranges that meet a tag's range. -/
def touches (rs : List (Nat × Nat)) (t : Tag) : Bool := rs.any fun r => meets r.1 r.2 t.range.1 t.range.2

/-- Tags named by an access, by the part it has under each. -/
structure Admit where
  w : List Nat
  r : List Nat
  u : List Nat

/-- No tag is named. -/
def Admit.isNone (a : Admit) : Bool := a.w.isEmpty && a.r.isEmpty && a.u.isEmpty

/-- The enabled tags that govern an access that reads and writes these ranges, and its part under each (05 R158). -/
def Ctx.governing (k : Ctx) (reads writes : List (Nat × Nat)) : Admit :=
  let on := (List.range 32).filter fun n => (k.lt.sys.tags[n]?.getD Tag.reset).en
  let tag (n : Nat) : Tag := k.lt.sys.tags[n]?.getD Tag.reset
  let rd := on.filter fun n => touches reads (tag n)
  let wr := on.filter fun n => touches writes (tag n)
  ⟨wr.filter fun n => !rd.contains n, rd.filter fun n => !wr.contains n, wr.filter fun n => rd.contains n⟩

/-- A tag replaced. -/
def Ctx.setTag (k : Ctx) (n : Nat) (t : Tag) : Ctx := k.setSys { k.lt.sys with tags := k.lt.sys.tags.setIfInBounds n t }

/-- A WRSYS of tag `n` has issued and its write has not landed. -/
def Ctx.tagWritten (k : Ctx) (n : Nat) : Bool := k.lt.flights.any fun f => f.tgt == .sys (0x080 + n)

/-- An access admitted by every tag that governs it, or not yet (05 R158). While a write of the tag is under way none is: the write sets
the counts of admissions to 0 (R157) [61]. -/
def Ctx.admitBy (k : Ctx) (a : Admit) : Att Ctx :=
  let tag (n : Nat) : Tag := k.lt.sys.tags[n]?.getD Tag.reset
  if (a.w ++ a.r ++ a.u).any k.tagWritten then .wait none
  else if a.w.all (fun n => !(tag n).full && (tag n).wadm ≤ (tag n).wcnt) && a.r.all (fun n => (tag n).full && (tag n).radm ≤ (tag n).rcnt) &&
      a.u.all (fun n => (tag n).full) then
    let k := a.w.foldl (fun k n => let t := k.lt.sys.tags[n]?.getD Tag.reset; k.setTag n { t with wadm := t.wadm + 1 }) k
    .ok (a.r.foldl (fun k n => let t := k.lt.sys.tags[n]?.getD Tag.reset; k.setTag n { t with radm := t.radm + 1 }) k)
  else .wait none

/-- An access of an engine admitted by its tags, for work of issue order `ord`. -/
def Ctx.admitFor (k : Ctx) (ord : Nat) (a : Admit) : Att Ctx :=
  match k.admitBy a with
  | .ok k' => .ok (if ord < k.expOrd then k.upd ord fun m =>
      match m.admitBy a with
      | .ok m' => m'
      | _ => m else k')
  | .wait q => .wait q
  | .trap c i l w n ls => .trap c i l w n ls

/-- Engines are admitted after the streams of a cycle (05 R159): an access that names a tag, once every stream has had its turn. -/
def State.engineTurn (s : State) (a : Admit) : Bool := a.isNone || s.agenda == [.tick]

/-- An access admitted as writer completes: the last of wcnt + 1 makes the range full. -/
def Ctx.wroteTag (k : Ctx) (n : Nat) : Ctx :=
  let t := k.lt.sys.tags[n]?.getD Tag.reset
  if t.wdone = t.wcnt then k.setTag n { t with wdone := t.wdone + 1, full := true, radm := 0, rdone := 0 }
  else k.setTag n { t with wdone := t.wdone + 1 }

/-- An access admitted as reader completes: the last of rcnt + 1 makes the range empty. -/
def Ctx.readTag (k : Ctx) (n : Nat) : Ctx :=
  let t := k.lt.sys.tags[n]?.getD Tag.reset
  if t.rdone = t.rcnt then k.setTag n { t with rdone := t.rdone + 1, full := false, wadm := 0, wdone := 0 }
  else k.setTag n { t with rdone := t.rdone + 1 }

/-- An access completes under its tags. -/
def Ctx.leaveTags (k : Ctx) (w r : List Nat) : Ctx := r.foldl Ctx.readTag (w.foldl Ctx.wroteTag k)

/-! Poison and pre-images -/

/-- The marks among the partition bytes of an access (13 R385). -/
def State.spMarks (s : State) (id : Nat) (k : Ctx) (rs : List (Nat × Nat)) : List Loc :=
  s.poison.filter fun p =>
    match p with
    | .sp c w => c == coreOf id && rs.any fun r => meets (k.spBase + r.1) (k.spBase + r.2) (8 * w) (8 * w + 8)
    | _ => false

/-- Entries of the scratchpad and tile log that a core's contexts hold (13 R381): a tile takes 32. A context that has ended has no next shadow point,
and R381 names no other release: its entries stay counted until its place is taken again, the model's choice [32]. -/
def State.logUsed (s : State) (core : Nat) : Nat :=
  (s.ctxs.map fun p => if p.1 / 4 = core then p.2.preSp.length + 32 * p.2.preTile.length else 0).sum

/-- Units that a core's contexts hold in the accumulator pre-image (13 R381). -/
def State.accUsed (s : State) (core : Nat) : Nat :=
  (s.ctxs.map fun p => if p.1 / 4 = core then p.2.preAcc.length else 0).sum

/-- The marks of data that a pre-image takes, which go with it (13 R385). -/
def State.marksOf (s : State) (here : Loc → Bool) : List Loc := if s.poison.isEmpty then [] else s.poison.filter here

/-- Pre-images of the 512-byte runs that an exposure writes for the first time (13 R381); where no room is left the exposure is
non-recoverable (R382). -/
def State.logRuns (s : State) (id : Nat) (k : Ctx) (writes : List (Nat × Byte × Byte)) : Ctx :=
  let sp := (s.core (coreOf id)).sp
  let used := s.logUsed (coreOf id)
  writes.foldl (fun k w =>
    let run := (k.spBase + w.1) / 512
    if k.preSp.any (fun p => p.1 == run) then k
    else if used + k.preSp.length + 32 * k.preTile.length < 1024 + ((s.ctx id).elim 0 fun o => o.preSp.length + 32 * o.preTile.length)
    then { k with
      preSp := k.preSp ++ [(run, (sp.filter fun c => c.1 / 512 == run))]
      preBad := k.preBad ++ s.marksOf fun p => match p with
        | .sp c w => c == coreOf id && w / 64 == run
        | _ => false }
    else { k with unrecov := true }) k

/-- The pre-image of a tile register that an exposure loads for the first time, 32 entries of the same log. -/
def State.logTile (s : State) (id : Nat) (k : Ctx) (tl : Nat) (old : Tile) : Ctx :=
  let mine := k.preSp.length + 32 * k.preTile.length
  if k.preTile.any (fun q => q.1 == tl) then k
  else if s.logUsed (coreOf id) + mine + 32 ≤ 1024 + ((s.ctx id).elim 0 fun o => o.preSp.length + 32 * o.preTile.length) then
    { k with
      preTile := k.preTile ++ [(tl, old)]
      preBad := k.preBad ++ s.marksOf fun p => match p with
        | .tile c t _ => c == id && t == tl
        | _ => false }
  else { k with unrecov := true }

/-- What is left of masked writes against others that complete first (05 R154): where elements of both meet, those of the smaller size keep
the earlier value as the free choice of each says. -/
def outrun (free : Nat) (first ws : Writes) : List (Nat × Byte × Byte) :=
  ws.2.filterMap fun w =>
    let hit := first.2.foldl (fun (m : Byte) x =>
      if x.1 = w.1 then m ||| (x.2.2 &&& choiceMask free (Nat.min (unitBits ws.1 w.2.2) (unitBits first.1 x.2.2)) w.1) else m) 0
    let m := w.2.2 &&& ~~~hit
    if m = 0 then none else some (w.1, w.2.1, m)

/-- Other writers than stream `st`, or than an engine, have writes under way. -/
def Ctx.contended (k : Ctx) (st : Option Strm) : Bool :=
  (k.pends.any fun p => some p.strm != st && !p.writes.isEmpty) || !k.engineWrites.isEmpty

/-- Writes complete while unordered writers are under way: each element that both write ends with the value of one of them (05 R154). -/
def Ctx.contend (k : Ctx) (free : Nat) (st : Option Strm) (ws : Writes) : Ctx :=
  if ws.2.isEmpty || !(k.contended st) then k else
  { k with
    pends := k.pends.map fun p => if some p.strm == st then p else { p with writes := outrun free ws (p.esz, p.writes) }
    crds := k.crds.map fun c => { c with ahead := c.ahead.map fun b => { b with writes := outrun free ws (32, b.writes) } }
    cmds := k.cmds.map fun c => { c with ahead := c.ahead.map fun b => { b with writes := outrun free ws (courierUnit, b.writes) } } }

/-- An access under way has read the scratchpad. -/
def Ctx.watched (k : Ctx) : Bool :=
  k.pends.any (·.saw.isSome) || k.crds.any (·.ahead.isSome) || k.mats.any (·.saw.isSome) || k.cmds.any (·.ahead.isSome)

/-- Completed writes noted for the accesses under way that may still see them (05 R154). -/
def Ctx.notePast (k : Ctx) (st : Option (Strm × Nat)) (ws : Writes) : Ctx :=
  if ws.2.isEmpty || !k.watched then k else { k with past := k.past ++ [(st, ws)] }

/-- A word of a core's scratchpad that masked writes in partition offsets overwrite whole. -/
def spWhole (core base : Nat) (writes : List (Nat × Byte × Byte)) (p : Loc) : Bool :=
  match p with
  | .sp c w => c == core && (List.range 8).all fun j => writes.any fun x => base + x.1 == 8 * w + j && x.2.2 == 0xFF
  | _ => false

/-- Writes to the partition by stream `st`, or by an engine, noted: unordered writers contend with them; for a rollback, work issued in
this exposure takes pre-images; older work goes on unaffected by a rollback, so that its bytes join the pre-images taken (13 R381,
R383). -/
def State.noteWrites (s : State) (id : Nat) (k : Ctx) (ord : Nat) (st : Option Strm) (ws : Writes) : Ctx :=
  let k := (k.contend s.free st ws).notePast (st.map fun x => (x, ord)) ws
  let writes := ws.2
  if k.expOrd ≤ ord then s.logRuns id k writes
  else { k with
    preSp := k.preSp.map fun p => (p.1, Memory.putAll p.2 ((shiftWrites k.spBase writes).filter fun w => w.1 / 512 == p.1))
    preBad := k.preBad.filter fun p => !(spWhole (coreOf id) k.spBase writes p) }

/-- Pre-images of accumulator units, by run-relative number, taken in the same way. -/
def State.logUnits (s : State) (id : Nat) (k : Ctx) (units : List Nat) : Ctx :=
  let co := s.core (coreOf id)
  let used := s.accUsed (coreOf id)
  units.foldl (fun k u =>
    let phys := k.accBase + u
    if k.preAcc.any (fun p => p.1 == phys) then k
    else if used + k.preAcc.length < 4 + ((s.ctx id).elim 0 fun o => o.preAcc.length) then
      { k with
        preAcc := k.preAcc ++ [(phys, (co.acc.filter fun c => c.1 / 16384 == phys))]
        preBad := k.preBad ++ s.marksOf fun p => match p with
          | .acc c i => c == coreOf id && i / 16384 == phys
          | _ => false }
    else { k with unrecov := true }) k

/-- Scratchpad bytes written in partition offsets: the core's bytes, and the marks of words overwritten whole. The choices of contending
writers are drawn. -/
def State.writeSp (s : State) (id : Nat) (k : Ctx) (writes : List (Nat × Byte × Byte)) : State :=
  if writes.isEmpty then s else
  let s := if k.contended none then { s with free := s.free + 2 ^ 23 } else s
  let n := coreOf id
  let co := s.core n
  let s := s.setCore n { co with sp := co.sp.putAll (shiftWrites k.spBase writes) }
  if s.poison.isEmpty then s else
  { s with poison := s.poison.filter fun p => !(spWhole n k.spBase writes p) }

/-- Accumulator words written, by index within the core's store; marks of words overwritten are dropped. -/
def State.writeAcc (s : State) (id : Nat) (ws : List (Nat × W32)) : State :=
  if ws.isEmpty then s else
  let n := coreOf id
  let co := s.core n
  let acc := ws.foldl (fun a w => if w.2 = 0 then Sparse.erase a w.1 else Sparse.set a w.1 w.2) co.acc
  let s := s.setCore n { co with acc := acc }
  if s.poison.isEmpty then s else
  { s with poison := s.poison.filter fun p =>
      match p with
      | .acc c i => !(c == n && ws.any fun w => w.1 == i)
      | _ => true }

/-! Pending accesses -/

/-- A pending access of a stream with nothing in it. -/
def Pend.new (k : Ctx) (st : Strm) (push : List Ctr) : Pend where
  strm := st
  ord := k.lt.ord
  esz := 0
  writes := []
  due := none
  wtags := []
  rtags := []
  utags := []
  events := Events.zero
  load := none
  reads := []
  units := []
  accw := []
  sram := []
  bnd := none
  book := none
  boundary := false
  quant := false
  push := push
  bad := []
  pc := (k.lane st).addr
  again := none
  saw := none

/-- A pending access added, in issue order. -/
def Ctx.addPend (k : Ctx) (p : Pend) : Ctx :=
  { k.setLt { k.lt with ord := k.lt.ord + 1 } with pends := k.pends ++ [p] }

/-- The byte ranges that the queued and running CORDIC operations read or write (09 R271, R280). -/
def Ctx.crdRanges (k : Ctx) : List (Nat × Nat) :=
  k.crds.flatMap fun c =>
    ([c.d0, c.d1, c.s0, c.s1] ++ (if c.func = 0 ∨ c.func = 2 then [c.s2] else [])).flatMap fun w => (Rgn.ofWord w).ranges

/-- The byte ranges that the quantiser operations under way read or write. -/
def Ctx.quantRanges (k : Ctx) : List (Nat × Nat) :=
  (k.quants.filter fun q => !q.bind.cancelled).flatMap fun q => (Rgn.ofWord q.src).ranges ++ (Rgn.ofWord q.dst).ranges

/-- Some ranges meet some others. -/
def rangesMeet (rs qs : List (Nat × Nat)) : Bool := rs.any fun r => qs.any fun q => meets r.1 r.2 q.1 q.2

/-- An access admitted by its tags at issue, which reads no poisoned data (13 R385): `f` gives the pending access from the context as
admitted. -/
def Env.admitted (e : Env) (reads writes : List (Nat × Nat)) (f : Ctx → Pend → Att Done) : Att Done :=
  let a := e.k.governing reads writes
  (e.k.admitBy a).bind fun k =>
    if !(e.s.spMarks e.id k reads).isEmpty then .consumed (e.s.spMarks e.id k reads)
    else
      let p := { Pend.new e.k0 e.st e.push with wtags := a.w, rtags := a.r, utags := a.u }
      let p := if reads.isEmpty then p else { p with again := some e.k0.lt, saw := some (e.s.sawNow e.id e.k0) }
      f k { p with ord := k.lt.ord }

/-- The shares are zeroed (01 R26), and no CORDIC operation works on the bytes that an instruction of X accesses (09 R280). -/
def Env.spReady (e : Env) (rs : List (Nat × Nat)) : Bool := !e.k.zeroing && !(e.st == .x && rangesMeet rs e.k.crdRanges)

/-- Issue of an instruction that accesses the scratchpad: the share's zeroing, CORDIC and quantiser operations of X on the same bytes (01
R26, 09 R280, 05 R153), and the tags are waited for (R159). -/
def Env.access (e : Env) (reads writes : List (Nat × Nat)) (f : Ctx → Pend → Att Done) : Att Done :=
  (Att.when_ (e.spReady (reads ++ writes) && !(e.st == .x && rangesMeet (reads ++ writes) e.k.quantRanges))).bind fun _ =>
    e.admitted reads writes f

/-- The free choices of a region's elements drawn: the package with the next number to draw [7]. -/
def State.drew (s : State) (n : Nat) : State := { s with free := s.free + n }

/-- Issue of a region instruction that writes a region: its elements and their events, computed from the view. A source of count 1 is
accessed for tile tags and poison where the destination has no element too, which R162 leaves open [65]. -/
def Env.writeRgn (e : Env) (reads : List Rgn) (d : Rgn) (compute : View → List (Nat × Byte × Byte) × Events) : Att Done :=
  e.access (reads.flatMap Rgn.ranges) d.ranges fun k p =>
    let v := e.s.view e.id e.k0 e.st
    let (ws, ev) := compute v
    let s := if v.others.isEmpty then e.s else e.s.drew 524288
    .ok ⟨s, k.addPend { p with writes := ws, events := ev, esz := typeBits d.ty }, 1, .none⟩

/-- The pending access number k is the oldest of its stream: accesses of one stream complete in issue order (05 R153). Those of X's
quantiser operations touch no bytes of the accesses behind them, which pass them (R161); and what only reads, in its own cycles (LDS, EPUSH),
holds up nothing. -/
def Ctx.pendFirst (k : Ctx) (n : Nat) : Option Pend :=
  match k.pends[n]? with
  | some p =>
    if (k.pends.take n).any fun q => q.strm == p.strm && (p.quant || !q.quant) && !(q.due.isSome && q.writes.isEmpty) then none else some p
  | none => none

/-- A tile register of a context. -/
def Ctx.tile (k : Ctx) (n : Nat) : Tile := k.tiles[n]?.getD Tile.reset

/-- A tile register replaced. -/
def Ctx.setTile (k : Ctx) (n : Nat) (t : Tile) : Ctx := { k with tiles := k.tiles.setIfInBounds n t }

/-- The last read of one register by a reader ends (07 R213): a register that a consuming reader drains becomes EMPTY with the
last of its readers. The count of readers includes the consuming one. -/
def Tile.endRead (t : Tile) : Tile :=
  let t := { t with readers := t.readers - 1 }
  if t.st == .draining && t.readers == 0 then { t with st := .empty } else t

/-- A reader's last reads of the registers it reads end. -/
def Ctx.endReads (k : Ctx) (rs : List (Nat × Bool)) : Ctx := rs.foldl (fun k r => k.setTile r.1 (k.tile r.1).endRead) k

/-- The place of a byte of a cluster's SRAM among the places of recorded publications: behind device memory [8]. -/
def sramKey (cluster a : Nat) : Nat := Config.deviceBytes + cluster * 2 ^ 24 + a

/-- A record of what a write of cluster SRAM replaces, word by word (08 R265). -/
def State.sramPubs (s : State) (ws : List (Nat × Nat × Byte)) : List Pub :=
  ((ws.map fun w => (w.1, w.2.1 / 8 * 8)).dedup).map fun p => ⟨s.cycle, 0, sramKey p.1 p.2, (s.cluster p.1).sram.word p.2⟩

/-- Bytes of cluster SRAM written, and recorded; marks of words overwritten whole are dropped (13 R385). -/
def State.sramPut (s : State) (ws : List (Nat × Nat × Byte)) : State :=
  let s := { s with pubs := s.pubs ++ s.sramPubs ws }
  let s := ws.foldl (fun s w =>
    let c := s.cluster w.1
    s.setCluster w.1 { c with sram := c.sram.put w.2.1 w.2.2 }) s
  if s.poison.isEmpty then s else
  { s with poison := s.poison.filter fun p =>
      match p with
      | .sram c w => !((List.range 8).all fun j => ws.any fun x => x.1 == c && x.2.1 == 8 * w + j)
      | _ => true }

/-- The bytes of a context's own run at places of cluster SRAM that the context writes otherwise: the later write stands (09 R289). -/
def SeqRun.without (r : SeqRun) (as : List Nat) : SeqRun :=
  if r.out.isEmpty then r else { r with out := r.out.filter fun b => !(as.contains b.1) }

/-- The address in a slice of a byte of a cluster's SRAM (10 R301). -/
def State.sliceAddr (s : State) (slice : Nat) (w : Nat × Nat × Byte) : Nat := (s.sliceClusters slice).idxOf w.1 * 2 ^ 24 + w.2.1

/-- Bytes of cluster SRAM written by a context: of those that its own run has written there, these stand. -/
def State.sramPutBy (s : State) (id slice : Nat) (ws : List (Nat × Nat × Byte)) : State :=
  if ws.isEmpty then s else
  let s := s.sramPut ws
  let as := ws.map (s.sliceAddr slice)
  let s := match (s.core (coreOf id)).seq.run with
    | some r => if r.ctx = id then
        let co := s.core (coreOf id)
        s.setCore (coreOf id) { co with seq := { co.seq with run := some (r.without as) } }
      else s
    | none => s
  match s.ctx id with
  | some k => match k.xfRun with
    | some r => s.setCtx id { k with xfRun := some (r.without as) }
    | none => s
  | none => s

/-- The units of the boundary buffer, by number within the context's run. -/
def Ctx.bndUnitList (k : Ctx) : List Nat := (List.range k.bndUnits).map fun j => k.accCnt - k.bndUnits + j

/-- The marks of the boundary's units dropped, its elements being written anew. -/
def State.bndClean (s : State) (id : Nat) (k : Ctx) : State :=
  if s.poison.isEmpty then s else
  { s with poison := s.poison.filter fun p =>
      match p with
      | .acc c idx => !(c == coreOf id && k.bndUnitList.any fun u => idx / 16384 == k.accBase + u)
      | _ => true }

/-- The effect of a pending access that completes: its writes, its tags, its events, and its tokens (05 R151, 02 R46). Pre-images
are taken for what an access issued in this exposure writes (13 R381), and its writes to cluster SRAM end recoverability
(R382), and enter the signature of a paired context (R391). A codebook takes its new contents in the next cycle (09 R281). 02 R46 names
neither cluster SRAM nor a codebook: the tokens of an STTC become visible with its completion, those of a CBLD with the new contents [60]. -/
def State.finishPend (s : State) (id : Nat) (k : Ctx) (n : Nat) (p : Pend) : State :=
  let fresh := k.expOrd ≤ p.ord
  let k := s.noteWrites id k p.ord (some p.strm) (p.esz, p.writes)
  let k := if fresh then s.logUnits id k (if p.accw.isEmpty && p.bnd.isNone then [] else p.units) else k
  let k := if fresh && p.bnd.isSome && k.preBnd.isNone then { k with preBnd := some k.bnd } else k
  let k := { k with pends := k.pends.eraseIdx n }
  let k := match p.load with
    | some (tl, data) =>
      let old := k.tiles[tl]?.getD Tile.reset
      let k := if fresh then s.logTile id k tl old else k
      k.upd p.ord fun k => k.setTile tl { k.tile tl with st := .full, data := data }
    | none => k
  let k := k.upd p.ord (·.endReads p.reads)
  let k := match p.bnd with
    | some (b, shape) => { k.upd p.ord fun k => k.setSys { k.lt.sys with bndshape := shape } with bnd := b.getD k.bnd }
    | none => k
  let k := match p.book with
    | some (b, loaded, v) =>
      let now (l : Light) : Light := p.push.foldl (fun l c => l.pushDone p.ord c) { l with books := l.books.setIfInBounds b ⟨loaded, v⟩ }
      { k.fly p.strm (s.cycle + 1) (.book b loaded v) 0 false p.push with
        shadow := if p.ord < k.expOrd then k.shadow.map now else k.shadow }
    | none => k
  let k := if fresh && !p.sram.isEmpty then { k with unrecov := true } else k
  let k := if p.sram.isEmpty then k else k.signBytes (p.sram.foldl (fun m w => Sparse.set m (s.sliceAddr k.slice w) w.2.2) [])
  let k := k.upd p.ord (·.leaveTags p.wtags p.rtags)
  let k := if p.book.isSome then k else k.pushAll p.ord p.push
  let s := (s.setCtx id k).writeSp id k p.writes
  let s := s.writeAcc id p.accw
  let s := if p.bnd.any (·.1.isSome) then s.bndClean id k else s
  let s := s.sramPutBy id k.slice p.sram
  s.addEvents id p.ord p.events

/-- REGION_COMPLETE (R151): the k-th pending access of a context completes, when it is the oldest of its stream and its loads of
tile registers, which complete by TILE_LOAD_COMPLETE and TILE_READ_END, are none. -/
def execRegionComplete (ctx n : Nat) (s : State) : Host.Outcome State Fault Refusal :=
  match s.ctx ctx with
  | none => .next s
  | some k =>
    match k.pendFirst n with
    | none => .next s
    | some p =>
      if p.quant || p.load.isSome || !p.reads.isEmpty || (match p.due with
        | some c => decide (s.cycle < c)
        | none => false) then .next s
      else .next (s.finishPend ctx k n p)

/-- EVENT_WINDOW_CLOSE (R210): a class whose window has been open for win cycles loses its count and its window. -/
def execEventWindowClose (ctx cls : Nat) (s : State) : Host.Outcome State Fault Refusal :=
  match s.ctx ctx with
  | none => .next s
  | some k =>
    if k.lt.sys.windowDue s.cycle cls then
      .next (s.setCtx ctx (k.setSys { k.lt.sys with
        evcnt := k.lt.sys.evcnt.setIfInBounds cls 0, evopen := k.lt.sys.evopen.setIfInBounds cls none }))
    else .next s

/-- The clusters of a context's slice whose SRAM another tenant held last (01 R26). -/
def State.foreignSram (s : State) (k : Ctx) : List Nat :=
  if k.kernelLvl then [] else (s.sliceClusters k.slice).filter fun c => (s.cluster c).tenant.any (· != k.tenant)

/-- The SRAM of every cluster of a slice is a tenant's; that of clusters which passed to it is zeroed (01 R26, 10 R301). A kernel-level context
takes no slice from a tenant, and its SRAM with none. -/
def State.claimSram (s : State) (k : Ctx) : State :=
  if k.kernelLvl then s else
  (s.sliceClusters k.slice).foldl (fun s c =>
    let cl := s.cluster c
    s.setCluster c { cl with sram := if cl.tenant.any (· != k.tenant) then [] else cl.sram, tenant := some k.tenant }) s

/-- Operations in flight of an ended context of another tenant may still write the SRAM of a context's slice (01 R27). -/
def State.sramHeld (s : State) (k : Ctx) : Bool :=
  !k.kernelLvl && s.ctxs.any fun p => p.2.slice == k.slice && p.2.tenant != k.tenant && p.2.res == .ended && s.atWork p.1 p.2

/-- ALLOTTED_SHARE_ZEROED (R26): once nothing of another tenant's is in flight there (R27), the zeroing of a context's shares ends: the pages of its partition and the units of its run that
another tenant held last, and the SRAM of the clusters of its slice that passed to the tenant; zeroed words are good data; stalled
accesses proceed. -/
def execAllottedShareZeroed (ctx : Nat) (s : State) : Host.Outcome State Fault Refusal :=
  match s.ctx ctx with
  | none => .next s
  | some k =>
    if !k.zeroing || s.sramHeld k then .next s else
    let n := coreOf ctx
    let co := s.core n
    let other (m : Sparse Nat) (i : Nat) : Bool := (Sparse.get m i).any (· != k.tenant)
    let mine (a : Nat) : Bool := k.spBase ≤ a && a < k.spBase + k.spSize
    let pages := (List.range (k.spSize / 4096)).map fun j => k.spBase / 4096 + j
    let units := (List.range k.accCnt).map fun j => k.accBase + j
    let co := { co with
      sp := co.sp.filter fun c => !(mine c.1 && other co.spTenant (c.1 / 4096))
      acc := co.acc.filter fun c => !(units.contains (c.1 / 16384) && other co.accTenant (c.1 / 16384))
      spTenant := pages.foldl (fun m p => Sparse.set m p k.tenant) co.spTenant
      accTenant := units.foldl (fun m u => Sparse.set m u k.tenant) co.accTenant }
    let was := s.core n
    let zeroed (p : Loc) : Bool :=
      match p with
      | .sp c w => c == n && mine (8 * w) && other was.spTenant (8 * w / 4096)
      | .acc c i => c == n && units.contains (i / 16384) && other was.accTenant (i / 16384)
      | .sram c _ => (s.foreignSram k).contains c
      | _ => false
    let s := ({ s with poison := s.poison.filter fun p => !(zeroed p) }).claimSram k
    .next ((s.setCore n co).setCtx ctx { k with zeroing := false })

/-! Scalar accesses: LDS and STS (11 R342) -/

/-- Bytes of a width code of LD, ST, LDS and STS (11 R340). -/
def widBytes : Nat → Nat
  | 0 => 1
  | 1 => 2
  | 2 => 4
  | 3 => 8
  | 4 => 1
  | 5 => 2
  | _ => 4

/-- The loaded value extended by its width code (11 R341): 0 to 2 sign-extended, 3 whole, 4 to 6 zero-extended. -/
def widExtend (wid : Nat) (v : Nat) : Word :=
  if wid ≤ 2 then BitVec.ofInt 64 (sextN v (8 * widBytes wid)) else BitVec.ofNat 64 v

/-- The masked byte writes of a store's width code at an offset (11 R340): lo4 and hi4 write one nibble. -/
def storeBytes (wid off : Nat) (v : Word) : List (Nat × Byte × Byte) :=
  if wid = 4 then [(off, BitVec.ofNat 8 (wbits v 3 0), 0x0F)]
  else if wid = 5 then [(off, BitVec.ofNat 8 (wbits v 3 0 * 16), 0xF0)]
  else (List.range (widBytes wid)).map fun j => (off + j, BitVec.ofNat 8 (v.toNat / 2 ^ (8 * j)), 0xFF)

/-- The size of a store's access. -/
def storeSize (wid : Nat) : Nat := if wid = 4 ∨ wid = 5 then 1 else widBytes wid

/-- The checks of a scalar scratchpad offset (11 R342). -/
def Ctx.checkOff (k : Ctx) (off size : Nat) : Att Unit :=
  if off % size ≠ 0 then .faultAt 0x07 off
  else if k.spSize < off + size then .faultAt 0x08 off
  else .ok ()

/-- An access of C that only reads, complete as the result of its word lands (02 R46): it leaves its tags then. -/
def Pend.readTill (p : Pend) (land : Nat) : Pend := { p with due := some land }

/-- LDS (R342): latency 4. -/
def execLds (d a : Spec) (w : BitVec 3) (s : State) : Host.Outcome State Fault Refusal :=
  issue .c 0 (some d) [a] (fun e =>
    let off := (e.rd a).toNat
    let n := widBytes w.toNat
    (e.k.checkOff off n).bind fun _ =>
    e.access [(off, off + n)] [] fun k p =>
      let v := e.s.view e.id e.k0 .c
      let val := widExtend w.toNat (leNat (v.bytes 0 off n))
      let s := if v.others.isEmpty then e.s else e.s.drew 1
      let k := { e with k := k }.result d 4 val e.push
      .ok ⟨s, { k with pends := k.pends ++ [p.readTill (landAt e.s.cycle e.k0 .c 4)] }, 1, .none⟩) s

/-- STS (R342): the element is written one cycle after issue. -/
def execSts (d a : Spec) (w : BitVec 3) (s : State) : Host.Outcome State Fault Refusal :=
  issue .c 0 none [d, a] (fun e =>
    let off := (e.rd a).toNat
    let n := storeSize w.toNat
    (e.k.checkOff off n).bind fun _ =>
    e.access [] [(off, off + n)] fun k p =>
      .ok ⟨e.s, k.addPend { p with writes := storeBytes w.toNat off (e.rd d), due := some (e.s.cycle + 1), esz := 8 * n }, 1, .none⟩) s

end Sys2Proof.Machine
end

