-- ==== Sys2Proof/Machine/Exposure.lean ====
section
/-! DEFINITION. Exposures and publications (11 R322-R327), atomics and fences (R329-R335, R343, R346), acquisition (R337),
SWAP and barriers (R347, R348), and the C stream's accesses to device memory (R340, R341). -/

namespace Sys2Proof.Machine

open Sys2Proof

/-! Exposures -/

/-- The publications that an exposure still under way, or a plan operation (08 R265), may ask about [8]. -/
def State.prunePubs (s : State) : State :=
  { s with pubs := s.pubs.filter fun p => s.ctxs.any fun c =>
      decide (c.2.start < p.cycle) || c.2.mats.any fun m => m.kind == .cplan && decide (m.issued < p.cycle) }

/-- A shadow point (13 R380-R382): the shadow replaced, the pre-images released, the exposure recoverable, unless a mismatch of an
instruction older than the shadow is still to be dealt with. `marks`: those of the g registers, which the shadow holds (R385). -/
def Ctx.shadowPoint (k : Ctx) (cycle : Nat) (marks : List Loc) : Ctx :=
  { k with
    shadow := some k.lt, shTiles := k.tiles, shFrags := k.frags, shAcqs := k.acqs, shArrived := k.arrived, shRank := k.rank, shWd := k.wd, shadowAt := cycle
    preAcc := [], preBnd := none, preSp := [], preTile := [], preBad := marks, expOrd := k.lt.ord
    bkptHalt := false
    unrecov := k.lt.faults.any fun f => f.code == 0x12
    rolls := 0 }

/-- The marks of a context's g registers (13 R385). -/
def State.regMarks (s : State) (id : Nat) : List Loc :=
  s.poison.filter fun p => match p with
    | .reg c _ _ => c == id
    | _ => false

/-- A new exposure of a context begins in the current cycle (R325, R326). -/
def Ctx.newExposure (k : Ctx) (cycle : Nat) : Ctx := { k with start := cycle, snaps := [], frags := [], acqs := [], arrived := [] }

/-- A store word placed in ascending order of address (13 R391). -/
def insertStore (w : StoreWord) : List StoreWord → List StoreWord
  | [] => [w]
  | x :: rest => if w.va ≤ x.va then w :: x :: rest else x :: insertStore w rest

/-- The store words that bytes at an address and its physical address make, for acquisition (11 R337). -/
def wordsAt (va pa : Nat) (bs : List Byte) : List StoreWord :=
  (List.range (bs.length / 8)).map fun j =>
    ⟨va + 8 * j, pa + 8 * j, 0xFFFF, BitVec.ofNat 64 (leNat ((bs.drop (8 * j)).take 8))⟩

/-- One buffered word published (R324): only the nibbles of its mask change. -/
def State.publishWord (s : State) (writer : Nat) (w : StoreWord) : State :=
  { s with pubs := s.pubs ++ pubsOf s writer w.pa 8
           mem := s.mem.publish w.pa w.data w.mask
           poison := if w.mask = 0xFFFF then s.poison.filter (· != .dev (w.pa / 8)) else s.poison }

/-- The store buffer published (R324), with the signature of a paired context (13 R391). -/
def State.publishStores (s : State) (id : Nat) (k : Ctx) : State × Ctx :=
  let ws := k.lt.stores.foldl (fun acc w => insertStore w acc) []
  let k := k.setLt { k.lt with stores := [] }
  (ws.foldl (fun s w => s.publishWord id w) s, if k.paired then { k with sig := ws.foldl signWord k.sig } else k)

/-! Atomics -/

/-- What an atomic writes, if anything, and its entry, from the old word (R343). -/
def atomResult (op : Nat) (old b new : Word) : Option Word × Word :=
  match op with
  | 0 => (some (old + b), old)
  | 1 => (some (old &&& b), old)
  | 2 => (some (old ||| b), old)
  | 3 => (some (old ^^^ b), old)
  | 4 => (some (if old.slt b then old else b), old)
  | 5 => (some (if old.slt b then b else old), old)
  | 6 => (some (if old.ult b then old else b), old)
  | 7 => (some (if old.ult b then b else old), old)
  | 8 => (some b, old)
  | 9 => (if old = b then some new else none, old)
  | 10 => (none, old)
  | _ => (some b, 0)

/-- Whether a scope covers two contexts of the package (R328): scopes are ctx, core, cluster, die, package and system, from 0 on. -/
def covers (scope a b : Nat) : Bool :=
  match scope with
  | 0 => a == b
  | 1 => coreOf a == coreOf b
  | 2 => clusterOf a == clusterOf b
  | 3 => dieOf a == dieOf b
  | _ => true

/-- Two records of what is ordered before a party's accesses, joined: by context, up to which cycle its publications are. -/
def joinSeen (a b : Sparse Nat) : Sparse Nat := b.foldl (fun m p => Sparse.set m p.1 (Nat.max ((Sparse.get m p.1).getD 0) p.2)) a

/-- What a read of a location learns from the releases that its value comes from, or comes after (R331). -/
def State.learns (s : State) (id : Nat) (a : PendAtom) : Sparse Nat :=
  (s.rels.filter fun r => r.pa == a.pa && r.writer != id && covers r.scope r.place id && covers a.scope r.place id).foldl
    (fun m r => joinSeen m (Sparse.set r.seen r.writer r.upto)) []

/-- An atomic acts as an acquire: by its order, or by a FENCE with acquire after it (R331, R332). -/
def Ctx.acquires (k : Ctx) (a : PendAtom) : Bool := a.order % 2 == 1 || a.fence < k.afence

/-- What an atomic of a context releases as it writes: by its order everything so far, after a FENCE with release what came before the
FENCE (R331, R332). -/
def PendAtom.release (a : PendAtom) (id cycle : Nat) (k : Ctx) : Option Release :=
  (if 2 ≤ a.order then some cycle else a.rel.map (·.1)).map fun c => ⟨a.pa, id, id, a.scope, c, k.seen⟩

/-- A release recorded, with what an earlier one of the same context, place, location and scope orders: its value, too, is one after that. -/
def State.addRelease (s : State) (r : Release) : State :=
  let same (x : Release) : Bool := x.pa == r.pa && x.writer == r.writer && x.place == r.place && x.scope == r.scope
  let all := (s.rels.filter same).foldl (fun r x => { r with upto := Nat.max r.upto x.upto, seen := joinSeen r.seen x.seen }) r
  { s with rels := s.rels.filter (fun x => !(same x)) ++ [all] }

/-- One number replaced by another in a record of what is ordered before a party's accesses. -/
def renumber (a b : Nat) (m : Sparse Nat) : Sparse Nat :=
  match Sparse.get m a with
  | some u => Sparse.set (Sparse.erase m a) b u
  | none => m

/-- Publications, releases and arrivals at barriers of party `a`, and what others know of them, under the number `b`. -/
def State.renameWriter (s : State) (a b : Nat) : State :=
  let ren (n : Nat) : Nat := if n = a then b else n
  { s with
    slices := s.slices.map fun p => (p.1, { p.2 with barriers := p.2.barriers.map fun b => { b with arrived := b.arrived.map ren } })
    pubs := s.pubs.map fun p => if p.writer = a then { p with writer := b } else p
    rels := s.rels.map fun r => { r with writer := if r.writer = a then b else r.writer, seen := renumber a b r.seen }
    ctxs := s.ctxs.map fun p => (p.1, { p.2 with seen := renumber a b p.2.seen, heard := renumber a b p.2.heard }) }

/-- The number that what a context has published keeps when another takes its place: no party has it again. -/
def State.pastWriter (s : State) (id : Nat) : Nat := 2 ^ 80 + s.cycle * 2 ^ 20 + id

/-- An atomic takes effect (R329, R343): its place in the coherence order of its location, what it learns and what it releases. An
uncorrectable error that it consumes leaves memory unchanged and marks the entry; AST overwrites the whole word and consumes nothing (13
R385). -/
def State.atomDo (s : State) (id : Nat) (k : Ctx) (a : PendAtom) : State × Ctx × PendAtom :=
  let here : Loc := .dev (a.pa / 8)
  if a.op ≤ 10 ∧ s.poison.contains here then (s, k, { a with done := some ⟨0, [here], []⟩ })
  else
    let (w, v) := atomResult a.op (s.mem.word a.pa) a.b a.new
    let got := if a.op ≤ 10 then s.learns id a else []
    let k := if k.acquires a then { k with seen := joinSeen k.seen got } else { k with heard := joinSeen k.heard got }
    let s := match w with
      | some x => s.publishBytes id a.pa (leBytes 8 x.toNat)
      | none => s
    let s := match w, a.release id s.cycle k with
      | some _, some r => s.addRelease r
      | _, _ => s
    (s, k, { a with done := some ⟨v, [], []⟩ })

/-- Whether atomic `b` must wait for the earlier atomic `a` of its context (R329, R331, R332): one location, an acquire before,
a release after, or a FENCE between. -/
def atomAfter (a b : PendAtom) : Bool := a.pa == b.pa || a.order % 2 == 1 || 2 ≤ b.order || a.fence < b.fence

/-- A program of the transform sequencer reads or writes cluster SRAM: it holds a TXCB (09 R298). -/
def usesSram (ws : List W32) : Bool :=
  ws.any fun w => match decodeSeq w with
    | some (.txcbEnlarge ..) => true
    | some (.txcbReduce ..) => true
    | _ => false

/-- An engine command that a context pushed before an issue order still accesses memory that other parties see (R331): a courier command, a
strip operation or an MMAC, a run of the sequencer on cluster SRAM. One that a trap has paused, and those behind it on its slot, are not waited
for [60]. -/
def State.pushedBefore (s : State) (id : Nat) (k : Ctx) (ord : Nat) : Bool :=
  k.cmds.any (fun c => decide (c.ord < ord) && !(k.cmds.any fun d => d.slot == c.slot && d.paused)) ||
  k.mats.any (fun m => (m.kind == .tcon || m.kind == .cplan || m.kind == .mmac) && !m.bind.isOver && !m.bind.cancelled && decide (m.ord < ord)) ||
  (usesSram k.transform && (k.xf.any (fun q => decide (q.ord < ord)) || k.xfRun.any (fun r => decide (r.ord < ord)) ||
    (s.core (coreOf id)).seq.run.any fun r => r.ctx == id && decide (r.ord < ord)))

/-- The issue order up to which a writing atomic releases engine pushes, if it is a release (R331, R332). -/
def PendAtom.relOrd (a : PendAtom) : Option Nat :=
  if a.op = 10 then none else if 2 ≤ a.order then some a.ord else a.rel.map (·.2)

/-- Whether the n-th pending atomic may take effect: in its place among the context's atomics, and, a release, after the engine
commands pushed before it. -/
def State.atomReady (s : State) (id : Nat) (k : Ctx) (n : Nat) : Bool :=
  match k.atoms[n]? with
  | some a => a.done.isNone && ((k.atoms.take n).all fun e => e.done.isSome || !atomAfter e a) &&
      !(a.relOrd.any (s.pushedBefore id k))
  | none => false

/-- ATOMIC_EFFECT (R343): the n-th pending atomic of a context takes effect; when it has, and it is the oldest, its entry is
posted. -/
def execAtomicEffect (ctx n : Nat) (s : State) : Host.Outcome State Fault Refusal :=
  match s.ctx ctx with
  | none => .next s
  | some k =>
    match k.atoms[n]? with
    | none => .next s
    | some a =>
      match a.done with
      | some e =>
        if n = 0 then .next (s.setCtx ctx ({ k with atoms := k.atoms.drop 1 }.post a.ord .atom e.val e.bad [])) else .next s
      | none =>
        if s.atomReady ctx k n then
          let (s', k', a') := s.atomDo ctx k a
          .next (s'.setCtx ctx { k' with atoms := k.atoms.set n a' })
        else .next s

/-- Which pending atomics must have taken effect before what an acquire orders after itself (R331, R332): the acquires not yet
done, and those they wait for. From the newest to the oldest; `need` holds the ones found. -/
def mustSettle (afence : Nat) : List PendAtom → List PendAtom → List (PendAtom × Bool)
  | [], _ => []
  | a :: older, need =>
    let m := a.done.isNone && (a.order % 2 == 1 || a.fence < afence || need.any fun b => atomAfter a b)
    (a, m) :: mustSettle afence older (if m then a :: need else need)

/-- The acquire atomics of a context, and what they wait for, have taken effect (R331): before a publication or an engine push
that comes after them. -/
def State.settleAtoms (s : State) (id : Nat) (k : Ctx) : State × Ctx :=
  let marked := (mustSettle k.afence k.atoms.reverse []).reverse
  let (s, k, as) := marked.foldl (fun (acc : State × Ctx × List PendAtom) p =>
    if p.2 then let (s, k, a) := acc.1.atomDo id acc.2.1 p.1; (s, k, acc.2.2 ++ [a]) else (acc.1, acc.2.1, acc.2.2 ++ [p.1])) (s, k, [])
  (s, { k with atoms := as })

/-- These atomics may take effect: a release among them waits for the engine commands pushed before it (R331). -/
def State.settleReady (s : State) (id : Nat) (k : Ctx) : Bool :=
  (mustSettle k.afence k.atoms.reverse []).all fun p => !p.2 || !(p.1.relOrd.any (s.pushedBefore id k))

/-- The push of an engine command (11 R331, R336): the acquire atomics before it have taken effect. -/
def Env.pushed (e : Env) (k : Ctx) : Att Done :=
  (Att.when_ (e.s.settleReady e.id e.k)).bind fun _ =>
    let (s, k) := e.s.settleAtoms e.id k
    ({ e with s := s, k := k }).doneNow k

/-- An atomic (R343) of operation `op`: checks, then a place in ret.at; it takes effect later. -/
def atomic (op : Nat) (sc : BitVec 3) (o : BitVec 2) (a : Spec) (bs : List Spec) (s : State) : Host.Outcome State Fault Refusal :=
  issue .c 0 none (a :: bs) (fun e =>
    let ea := (e.rd a).toNat
    if ea % 8 ≠ 0 then .faultAt 0x07 ea
    else
      (e.s.dataAddr e.k ea .readWrite).bind fun pa =>
      (e.k.reserve .atom).bind fun k =>
      let val (n : Nat) : Word := match bs[n]? with
        | some v => e.rd v
        | none => 0
      e.done { k with unrecov := true, atoms := k.atoms ++ [⟨op, o.toNat, sc.toNat, pa, val 0, val 1, none, k.fences, k.rfence, k.lt.ord⟩] }) s

/-- AADD (R343). -/
def execAadd (sc : BitVec 3) (o : BitVec 2) (a b : Spec) (s : State) : Host.Outcome State Fault Refusal := atomic 0 sc o a [b] s

/-- AAND (R343). -/
def execAand (sc : BitVec 3) (o : BitVec 2) (a b : Spec) (s : State) : Host.Outcome State Fault Refusal := atomic 1 sc o a [b] s

/-- AOR (R343). -/
def execAor (sc : BitVec 3) (o : BitVec 2) (a b : Spec) (s : State) : Host.Outcome State Fault Refusal := atomic 2 sc o a [b] s

/-- AXOR (R343). -/
def execAxor (sc : BitVec 3) (o : BitVec 2) (a b : Spec) (s : State) : Host.Outcome State Fault Refusal := atomic 3 sc o a [b] s

/-- AMIN (R343). -/
def execAmin (sc : BitVec 3) (o : BitVec 2) (a b : Spec) (s : State) : Host.Outcome State Fault Refusal := atomic 4 sc o a [b] s

/-- AMAX (R343). -/
def execAmax (sc : BitVec 3) (o : BitVec 2) (a b : Spec) (s : State) : Host.Outcome State Fault Refusal := atomic 5 sc o a [b] s

/-- AMINU (R343). -/
def execAminu (sc : BitVec 3) (o : BitVec 2) (a b : Spec) (s : State) : Host.Outcome State Fault Refusal := atomic 6 sc o a [b] s

/-- AMAXU (R343). -/
def execAmaxu (sc : BitVec 3) (o : BitVec 2) (a b : Spec) (s : State) : Host.Outcome State Fault Refusal := atomic 7 sc o a [b] s

/-- ASWAP (R343). -/
def execAswap (sc : BitVec 3) (o : BitVec 2) (a b : Spec) (s : State) : Host.Outcome State Fault Refusal := atomic 8 sc o a [b] s

/-- ACAS (R343): the new value stands in the register after b. -/
def execAcas (sc : BitVec 3) (o : BitVec 2) (a b : Spec) (s : State) : Host.Outcome State Fault Refusal :=
  atomic 9 sc o a [b, b + 1] s

/-- ALD (R343). -/
def execAld (sc : BitVec 3) (o : BitVec 2) (a : Spec) (s : State) : Host.Outcome State Fault Refusal := atomic 10 sc o a [] s

/-- AST (R343). -/
def execAst (sc : BitVec 3) (o : BitVec 2) (a b : Spec) (s : State) : Host.Outcome State Fault Refusal := atomic 11 sc o a [b] s

/-- A fence of an order in a cycle (R332): the atomics after it wait for those before it; with acquire the pushes and publications after
it wait for them too, and what they have heard of is ordered before it; with release the atomics after it release what came before. -/
def Ctx.fence (k : Ctx) (order cycle : Nat) : Ctx :=
  { k with
    fences := k.fences + 1
    afence := if order % 2 = 1 then k.fences + 1 else k.afence
    rfence := if 2 ≤ order then some (cycle, k.lt.ord) else k.rfence
    seen := if order % 2 = 1 then joinSeen k.seen k.heard else k.seen }

/-- FENCE (R346): every scope of this machine is served by one order of all parties [8]. -/
def execFence (o : BitVec 2) (_sc : BitVec 3) (s : State) : Host.Outcome State Fault Refusal :=
  issue .c 0 none [] (fun e => e.done (e.k.fence o.toNat e.s.cycle)) s

/-! LD and ST -/

/-- The bytes of a loaded word. -/
def wordBytes (w : Word) : List Byte := leBytes 8 w.toNat

/-- The values that the first read of a word in an exposure may take (R325), oldest first: after the last publication up to the
exposure's start, after those of each later cycle, now. -/
def State.momentsOf (s : State) (pa start : Nat) : List Word :=
  let later := s.pubs.filter fun p => p.pa == pa && start < p.cycle
  let firsts := later.zipIdx.filter fun p => !((later.take p.2).any fun q => q.cycle == p.1.cycle)
  firsts.map (fun p => p.1.old) ++ [s.mem.word pa]

/-- The cycle from which the moments of a context's first read of a word start: its exposure's, or that of a later publication of the
word that an acquire has ordered before its accesses (R325, R331). -/
def State.floorOf (s : State) (k : Ctx) (pa : Nat) : Nat :=
  s.pubs.foldl (fun c p => if p.pa == pa && (Sparse.get k.seen p.writer).any (fun u => decide (p.cycle ≤ u)) then Nat.max c p.cycle else c)
    k.start

/-- The snapshot of a word (R325, R326): fixed at its first read, from a moment that is a free choice [8]. -/
def State.snapshot (s : State) (k : Ctx) (pa : Nat) : Word × State × Ctx :=
  match k.snaps.find? (fun w => w.pa == pa) with
  | some w => (w.val, s, k)
  | none =>
    let ms := s.momentsOf pa (s.floorOf k pa)
    let (c, s') := if ms.length ≤ 1 then (0, s) else s.draw
    let v := ms.getD (c % ms.length) 0
    (v, s', { k with snaps := k.snaps ++ [⟨pa, v⟩] })

/-- Store words laid over a value of their aligned word. -/
def overWord (ws : List StoreWord) (pa : Nat) (v : Word) : Word :=
  ws.foldl (fun v w => if w.pa = pa then mergeWord v w.data w.mask else v) v

/-- The aligned word as the context's ordinary reads see it (R326, R337): the snapshot, under the store buffer, under what it has
acquired since. -/
def Ctx.overlaid (k : Ctx) (pa : Nat) (v : Word) : Word := overWord k.frags pa (overWord k.lt.stores pa v)

/-- The nibbles that an access of `n` bytes at an offset within a word names. -/
def nibbleMask (off n : Nat) : BitVec 16 := BitVec.ofNat 16 ((2 ^ (2 * n) - 1) * 2 ^ (2 * off))

/-- Nibbles of a word that the context's own stores and acquisitions supply. -/
def Ctx.ownMask (k : Ctx) (pa : Nat) : BitVec 16 :=
  (k.lt.stores ++ k.frags).foldl (fun m w => if w.pa = pa then m ||| w.mask else m) 0

/-- LD (R340, R341): the value is fixed now; its entry arrives later. -/
def execLd (a : Spec) (w : BitVec 3) (o : BitVec 11) (s : State) : Host.Outcome State Fault Refusal :=
  issue .c 0 none [a] (fun e =>
    let ea := (e.rd a + o.signExtend 64).toNat
    let n := widBytes w.toNat
    if ea % n ≠ 0 then .faultAt 0x07 ea
    else
      (e.s.dataAddr e.k ea .read).bind fun pa =>
      (e.k.reserve .ld).bind fun k =>
      let wa := pa / 8 * 8
      let (v, s, k) := e.s.snapshot k wa
      let bs := ((wordBytes (k.overlaid wa v)).drop (pa % 8)).take n
      let here : Loc := .dev (wa / 8)
      let bad := if s.poison.contains here && nibbleMask (pa % 8) n &&& ~~~(k.ownMask wa) != 0 then [here] else []
      .ok ⟨s, { k with loads := k.loads ++ [⟨widExtend w.toNat (leNat bs), bad, k.lt.ord⟩] }, 1, .none⟩) s

/-- LD_ENTRY_POST (R341): the oldest load's entry arrives in ret.ld. -/
def execLdEntryPost (ctx : Nat) (s : State) : Host.Outcome State Fault Refusal :=
  match s.ctx ctx with
  | none => .next s
  | some k =>
    match k.loads with
    | [] => .next s
    | x :: rest => .next (s.setCtx ctx ({ k with loads := rest }.post x.ord .ld x.val x.bad []))

/-- The buffer entry of a store: its aligned word, nibble mask and data placed (R323). -/
def storeEntry (wid va pa : Nat) (v : Word) : StoreWord :=
  let off := pa % 8
  let mask : BitVec 16 :=
    if wid = 4 then BitVec.ofNat 16 (2 ^ (2 * off))
    else if wid = 5 then BitVec.ofNat 16 (2 ^ (2 * off + 1))
    else nibbleMask off (widBytes wid)
  let data := if wid = 5 then v <<< (8 * off + 4) else v <<< (8 * off)
  ⟨va / 8 * 8, pa / 8 * 8, mask, mergeWord 0 data mask⟩

/-- Words that the store buffer may hold: the store region of sys.ctxarea (12 R369). -/
def Ctx.sbw (k : Ctx) : Nat := wbits k.lt.sys.ctxarea 15 0

/-- ST (R340, R341, R323): nothing is written to memory; a word beyond the limit raises 0x0F. -/
def execSt (d a : Spec) (w : BitVec 3) (o : BitVec 11) (s : State) : Host.Outcome State Fault Refusal :=
  issue .c 0 none [d, a] (fun e =>
    let ea := (e.rd a + o.signExtend 64).toNat
    if ea % storeSize w.toNat ≠ 0 then .faultAt 0x07 ea
    else
      (e.s.dataAddr e.k ea .write).bind fun pa =>
      let x := storeEntry w.toNat ea pa (e.rd d)
      let stores := overNewest e.k.lt.stores x
      (Att.need (decide (stores.length ≤ e.k.sbw) || decide (stores.length ≤ e.k.lt.stores.length)) 0x0F).bind fun _ =>
      e.done { e.k.setLt { e.k.lt with stores := stores } with
        frags := dropNibbles true x e.k.frags
        acqs := e.k.acqs.flatMap fun q => (dropNibbles true x [q.2]).map fun w => (q.1, w) }) s

/-! FIX, SWAP and BAR -/

/-- cur of each pair whose bit is set, inverted (R347). -/
def SysRegs.invertCur (r : SysRegs) (mask : Nat) : SysRegs :=
  (List.range 4).foldl (fun r j =>
    if bit mask j then { r with dbuf := r.dbuf.setIfInBounds j ((r.dbuf[j]?.getD 0) ^^^ BitVec.twoPow 64 49) } else r) r

/-- Whether another context with a higher index has published a word of this store buffer in this very cycle: then this
publication completes in a later cycle, since two in one cycle are applied in ascending index (R324). -/
def State.overtaken (s : State) (id : Nat) (k : Ctx) : Bool :=
  k.lt.stores.any fun w => s.pubs.any fun p => p.cycle == s.cycle && p.pa == w.pa && id < p.writer && p.writer < outsider

/-- The arrival at a barrier whose FIX has completed (R348). -/
def Barrier.arrive (b : Barrier) (id n cycle : Nat) : Barrier :=
  let b := if b.arrived.isEmpty then { b with n := n } else b
  let b := { b with arrived := b.arrived ++ [id] }
  if b.arrived.length = b.n then { b with release := some (cycle + 1) } else b

/-- A barrier of a slice. -/
def Slice.barrier (sl : Slice) (b : Nat) : Barrier := sl.barriers[b]?.getD ⟨0, [], none, 0⟩

/-- The publication cycle of a FIX, SWAP or BAR that waits for it (R324, R345, R347, R348). -/
def State.fixNow (s : State) (id : Nat) (k : Ctx) : State :=
  let (s, k) := s.settleAtoms id k
  let (s, k) := s.publishStores id k
  let k := k.setStrm .c { k.strm .c with ready := Nat.max (k.strm .c).ready (s.cycle + 1) }
  let finish (s : State) (k : Ctx) : State := (s.setCtx id ((k.newExposure s.cycle).shadowPoint s.cycle (s.regMarks id))).prunePubs
  match k.lt.hold with
  | .swap m => finish s ((k.setSys (k.lt.sys.invertCur m)).setLt { (k.setSys (k.lt.sys.invertCur m)).lt with hold := .none })
  | .barFix b n =>
    let sl := s.slice k.slice
    let s := s.setSlice k.slice { sl with barriers := sl.barriers.setIfInBounds b ((sl.barrier b).arrive id n s.cycle) }
    finish s ((k.fence 3 s.cycle).setLt { k.lt with hold := .bar b })
  | _ => finish s (k.setLt { k.lt with hold := .none })

/-- Whether the publication a context waits for may complete now: the acquires before it can take effect (R331), and none does once a mismatch or consumed poison is to be undone (13
R383). -/
def State.fixReady (s : State) (id : Nat) (k : Ctx) : Bool :=
  !s.overtaken id k && s.settleReady id k && !(k.lt.faults.any fun f => (f.code == 0x12 || f.code == 0x13) && k.takeable f) &&
  match k.lt.hold with
  | .fix => true
  | .swap _ => true
  | .barFix b _ => ((s.slice k.slice).barrier b).release.isNone
  | _ => false

/-- FIX_PUBLICATION (R345): in a cycle after the issue, the buffered stores become visible. -/
def execFixPublication (ctx : Nat) (s : State) : Host.Outcome State Fault Refusal :=
  match s.ctx ctx with
  | none => .next s
  | some k =>
    if k.res == .resident && s.fixReady ctx k && (k.strm .c).lastIssue < s.cycle then .next (s.fixNow ctx k) else .next s

/-- With an empty store buffer the publication cycle is the issue cycle (R345). -/
def publishIfEmpty (o : Host.Outcome State Fault Refusal) : Host.Outcome State Fault Refusal :=
  match o with
  | .next s =>
    match s.ctx s.sel.ctx with
    | none => .next s
    | some k =>
      if k.lt.stores.isEmpty && s.fixReady s.sel.ctx k && (k.strm .c).lastIssue == s.cycle then .next (s.fixNow s.sel.ctx k)
      else .next s
  | o => o

/-- FIX (R345). -/
def execFix (s : State) : Host.Outcome State Fault Refusal :=
  publishIfEmpty (issue .c 0 none [] (fun e => e.done (e.k.setLt { e.k.lt with hold := .fix })) s)

/-- SWAP (R347): bits 3:0 name pairs, each of which must be declared. -/
def execSwap (a : Spec) (s : State) : Host.Outcome State Fault Refusal :=
  publishIfEmpty (issue .c 0 none [a] (fun e =>
    let m := wbits (e.rd a) 3 0
    if (List.range 4).any fun j => bit m j && !((e.k.lt.sys.dbuf[j]?.getD 0).getLsbD 48) then .fault 0x02
    else e.done (e.k.setLt { e.k.lt with hold := .swap m })) s)

/-- BAR (R348): n of the generation's first arrival, a FIX, an arrival. -/
def execBar (a : Spec) (s : State) : Host.Outcome State Fault Refusal :=
  publishIfEmpty (issue .c 0 none [a] (fun e =>
    let n := wbits (e.rd a) 15 0
    let b := wbits (e.rd a) 19 16
    let bar := (e.s.slice e.k.slice).barrier b
    if n = 0 ∨ 768 < n ∨ (!bar.arrived.isEmpty && bar.release.isNone && bar.n != n) then .fault 0x02
    else e.done (e.k.setLt { e.k.lt with hold := .barFix b n })) s)

/-- BAR_RELEASE (R348): every arrival of the generation is released in the cycle after the last one's FIX; a context that has
been saved finds itself released when it is restored. -/
def execBarRelease (slice barrier : Nat) (s : State) : Host.Outcome State Fault Refusal :=
  let sl := s.slice slice
  let b := sl.barrier barrier
  match b.release with
  | none => .next s
  | some c =>
    if s.cycle < c then .next s else
    let s' := s.setSlice slice { sl with barriers := sl.barriers.setIfInBounds barrier ⟨0, [], none, b.gen + 1⟩ }
    .next (b.arrived.foldl (fun s id =>
      match s.ctx id with
      | none => s
      | some k =>
        if k.lt.hold == .bar barrier then
          let k := k.setLt { k.lt with hold := .none }
          let k := k.newExposure s.cycle
          s.setCtx id (if k.res == .resident then k.shadowPoint s.cycle (s.regMarks id) else k)
        else s) s').prunePubs

end Sys2Proof.Machine
end

