-- ==== Sys2Proof/Machine/Vector.lean ====
section
/-! DEFINITION. The region instructions of the X stream (05 R162-R180). -/

namespace Sys2Proof.Machine

open Sys2Proof

/-- A rounding mode and a flush bit: what float arithmetic of one instruction is done under (06 R193). -/
structure Fp where
  mode  : RM
  flush : Bool

/-- sys.fpctl in the issue cycle. -/
def Env.fp (e : Env) : Fp := ⟨RM.byNumber (wbits e.k0.lt.sys.fpctl 1 0), e.k0.lt.sys.fpctl.getLsbD 2⟩

/-- To nearest even, without flush: what ignores sys.fpctl (06 R194). -/
def Fp.plain : Fp := ⟨.rne, false⟩

/-- The events of a list of elements summed (06 R208). -/
def sumEvents (es : List (BitVec 8)) : Events := es.foldl (fun a e => if e = 0 then a else a.addBits e) Events.zero

/-- A source of count 1 used for every element (R162). -/
def spread (n : Nat) (xs : List Nat) : List Nat := if xs.length = n then xs else List.replicate n (xs.headD 0)

/-- The check of a source's count (R162), made after that operand's checks of R150. -/
def Ctx.checkSrc (k : Ctx) (r : Rgn) (accept : Nat → Bool) (ok : Bool) (n : Nat) : Att Unit :=
  (k.checkRgn r accept).bind fun _ => Att.need (ok && (r.count == n || r.count == 1)) 0x02

/-! Elementwise functions -/

/-- An element function of two encodings of one type: the encoding it gives, and its events. -/
abbrev Fun2 := Fp → Nat → Nat → Nat → Nat × BitVec 8

/-- A function that works on values of a float type and on integers of an integer type (R163). -/
def onValues (ff : RM → Ex → Ex → Ex × Bool × BitVec 8) (fi : Nat → Int → Int → Int × Bool) : Fun2 := fun fp ty x y =>
  match fmtOf ty with
  | some f =>
    let (vx, ex) := f.read fp.flush x
    let (vy, ey) := f.read fp.flush y
    let (v, sticky, ev) := ff fp.mode vx vy
    let (enc, er) := f.round fp.mode fp.flush false v sticky
    (enc, ex ||| ey ||| ev ||| er)
  | none =>
    let (i, sat) := fi ty (intOf ty x).1 (intOf ty y).1
    (encInt ty i, evIf sat evSaturation)

/-- A sum or product with its invalid event. -/
def exact (r : Ex × Bool) : Ex × Bool × BitVec 8 := (r.1, false, evIf r.2 evInvalid)

/-- VADD (R164). -/
def fAdd : Fun2 := onValues (fun m a b => exact (Ex.add (m == .rdn) a b)) fun _ x y => (x + y, false)

/-- VSUB. -/
def fSub : Fun2 := onValues (fun m a b => exact (Ex.add (m == .rdn) a b.neg)) fun _ x y => (x - y, false)

/-- VMUL. -/
def fMul : Fun2 := onValues (fun _ a b => exact (Ex.mul a b)) fun _ x y => (x * y, false)

/-- VDIV: an integer division by zero gives all ones. -/
def fDiv : Fun2 := onValues (fun _ a b => Ex.div a b) fun _ x y => (if y = 0 then -1 else x.tdiv y, false)

/-- The smaller of two values, -0 below +0; NaN where one is a NaN. -/
def Ex.min (a b : Ex) : Ex :=
  if a.isNan || b.isNan then .nan else if a.lt b then a else if b.lt a then b else if a.sign then a else b

/-- The larger of two values. -/
def Ex.max (a b : Ex) : Ex :=
  if a.isNan || b.isNan then .nan else if a.lt b then b else if b.lt a then a else if a.sign then b else a

/-- VMIN. -/
def fMin : Fun2 := onValues (fun _ a b => (Ex.min a b, false, 0)) fun _ x y => (if x ≤ y then x else y, false)

/-- VMAX. -/
def fMax : Fun2 := onValues (fun _ a b => (Ex.max a b, false, 0)) fun _ x y => (if x ≤ y then y else x, false)

/-- VAND, VOR and VXOR: bitwise on the encodings. -/
def onBits (f : Nat → Nat → Nat) : Fun2 := fun _ _ x y => (f x y, 0)

/-- VSHL: by y mod width. -/
def fShl : Fun2 := fun _ ty x y => (x * 2 ^ (y % typeBits ty) % 2 ^ typeBits ty, 0)

/-- VSHR. -/
def fShr : Fun2 := fun _ ty x y => (x / 2 ^ (y % typeBits ty), 0)

/-- VSAR. -/
def fSar : Fun2 := fun _ ty x y => (encInt ty ((intOf ty x).1 / 2 ^ (y % typeBits ty)), 0)

/-- VADDS. -/
def fAdds : Fun2 := onValues (fun m a b => exact (Ex.add (m == .rdn) a b)) fun ty x y => clampInt ty (x + y)

/-- VSUBS. -/
def fSubs : Fun2 := onValues (fun m a b => exact (Ex.add (m == .rdn) a b.neg)) fun ty x y => clampInt ty (x - y)

/-- Half of a value. -/
def Ex.half : Ex → Ex
  | .fin n m e => .fin n m (e - 1)
  | x => x

/-- VAVG. -/
def fAvg : Fun2 :=
  onValues (fun m a b => let r := Ex.add (m == .rdn) a b; exact (r.1.half, r.2)) fun _ x y => ((x + y + 1) / 2, false)

/-- VFMA (R165): rounded once. -/
def fFma (fp : Fp) (ty x y z : Nat) : Nat × BitVec 8 :=
  match fmtOf ty with
  | some f =>
    let (vx, ex) := f.read fp.flush x
    let (vy, ey) := f.read fp.flush y
    let (vz, ez) := f.read fp.flush z
    let (p, inv) := Ex.mul vx vy
    let (v, inv') := Ex.add (fp.mode == .rdn) p vz
    let (enc, er) := f.round fp.mode fp.flush false v false
    (enc, ex ||| ey ||| ez ||| evIf (inv || inv') evInvalid ||| er)
  | none => (encInt ty ((intOf ty x).1 * (intOf ty y).1 + (intOf ty z).1), 0)

/-- A computing integer type. -/
def intTy (ty : Nat) : Bool := isCompInt ty

/-- A computing float type. -/
def floatTy (ty : Nat) : Bool := ty ≤ 2

/-- Every type. -/
def anyTy (_ : Nat) : Bool := true

/-- Every type but CB4. -/
def noCb4 (ty : Nat) : Bool := ty != 9

/-- VBIN (R164): d, a and b of one type. -/
def vbin (t : Tok) (d a b : Spec) (accept : Nat → Bool) (f : Fun2) (s : State) : Host.Outcome State Fault Refusal :=
  issue .x t none [d, a, b] (fun e =>
    let rd := Rgn.ofWord (e.rd d)
    let ra := Rgn.ofWord (e.rd a)
    let rb := Rgn.ofWord (e.rd b)
    let n := rd.count
    (e.k.checkRgn rd accept).bind fun _ =>
    (e.k.checkSrc ra accept (ra.ty == rd.ty) n).bind fun _ =>
    (e.k.checkSrc rb accept (rb.ty == rd.ty) n).bind fun _ =>
    e.writeRgn [ra, rb] rd fun v =>
      let rs := List.zipWith (f e.fp rd.ty) (spread n (v.elems ra)) (spread n ((v.at_ 1).elems rb))
      (rd.writes (rs.map (·.1)), sumEvents (rs.map (·.2)))) s

/-- VADD (R164). -/
def execVadd (t : Tok) (d a b : Spec) (s : State) : Host.Outcome State Fault Refusal := vbin t d a b isComputing fAdd s

/-- VSUB (R164). -/
def execVsub (t : Tok) (d a b : Spec) (s : State) : Host.Outcome State Fault Refusal := vbin t d a b isComputing fSub s

/-- VMUL (R164). -/
def execVmul (t : Tok) (d a b : Spec) (s : State) : Host.Outcome State Fault Refusal := vbin t d a b isComputing fMul s

/-- VDIV (R164). -/
def execVdiv (t : Tok) (d a b : Spec) (s : State) : Host.Outcome State Fault Refusal := vbin t d a b isComputing fDiv s

/-- VMIN (R164). -/
def execVmin (t : Tok) (d a b : Spec) (s : State) : Host.Outcome State Fault Refusal := vbin t d a b isComputing fMin s

/-- VMAX (R164). -/
def execVmax (t : Tok) (d a b : Spec) (s : State) : Host.Outcome State Fault Refusal := vbin t d a b isComputing fMax s

/-- VAND (R164). -/
def execVand (t : Tok) (d a b : Spec) (s : State) : Host.Outcome State Fault Refusal :=
  vbin t d a b isComputing (onBits Nat.land) s

/-- VOR (R164). -/
def execVor (t : Tok) (d a b : Spec) (s : State) : Host.Outcome State Fault Refusal :=
  vbin t d a b isComputing (onBits Nat.lor) s

/-- VXOR (R164). -/
def execVxor (t : Tok) (d a b : Spec) (s : State) : Host.Outcome State Fault Refusal :=
  vbin t d a b isComputing (onBits Nat.xor) s

/-- VSHL (R164). -/
def execVshl (t : Tok) (d a b : Spec) (s : State) : Host.Outcome State Fault Refusal := vbin t d a b intTy fShl s

/-- VSHR (R164). -/
def execVshr (t : Tok) (d a b : Spec) (s : State) : Host.Outcome State Fault Refusal := vbin t d a b intTy fShr s

/-- VSAR (R164). -/
def execVsar (t : Tok) (d a b : Spec) (s : State) : Host.Outcome State Fault Refusal := vbin t d a b intTy fSar s

/-- VADDS (R164). -/
def execVadds (t : Tok) (d a b : Spec) (s : State) : Host.Outcome State Fault Refusal := vbin t d a b intTy fAdds s

/-- VSUBS (R164). -/
def execVsubs (t : Tok) (d a b : Spec) (s : State) : Host.Outcome State Fault Refusal := vbin t d a b intTy fSubs s

/-- VAVG (R164). -/
def execVavg (t : Tok) (d a b : Spec) (s : State) : Host.Outcome State Fault Refusal := vbin t d a b isComputing fAvg s

/-- VFMA (R165). -/
def execVfma (t : Tok) (d a b : Spec) (s : State) : Host.Outcome State Fault Refusal :=
  issue .x t none [d, a, b] (fun e =>
    let rd := Rgn.ofWord (e.rd d)
    let ra := Rgn.ofWord (e.rd a)
    let rb := Rgn.ofWord (e.rd b)
    let n := rd.count
    (e.k.checkRgn rd isComputing).bind fun _ =>
    (e.k.checkSrc ra isComputing (ra.ty == rd.ty) n).bind fun _ =>
    (e.k.checkSrc rb isComputing (rb.ty == rd.ty) n).bind fun _ =>
    e.writeRgn [ra, rb, rd] rd fun v =>
      let xy := (spread n (v.elems ra)).zip (spread n ((v.at_ 1).elems rb))
      let rs := List.zipWith (fun p z => fFma e.fp rd.ty p.1 p.2 z) xy ((v.at_ 2).elems rd)
      (rd.writes (rs.map (·.1)), sumEvents (rs.map (·.2)))) s

/-! VUN (R166) -/

/-- A function of one encoding. -/
abbrev Fun1 := Fp → Nat → Nat → Nat × BitVec 8

/-- A float function of one value and an integer function. -/
def onValue (ff : Ex → Ex × Bool × BitVec 8) (fi : Int → Int) : Fun1 := fun fp ty x =>
  match fmtOf ty with
  | some f =>
    let (vx, ex) := f.read fp.flush x
    let (v, sticky, ev) := ff vx
    let (enc, er) := f.round fp.mode fp.flush false v sticky
    (enc, ex ||| ev ||| er)
  | none => (encInt ty (fi (intOf ty x).1), 0)

/-- VABS. -/
def fAbs : Fun1 := onValue (fun x => (x.abs, false, 0)) fun i => (i.natAbs : Int)

/-- VNEG. -/
def fNeg : Fun1 := onValue (fun x => (x.neg, false, 0)) fun i => -i

/-- VNOT. -/
def fNot : Fun1 := fun _ ty x => (2 ^ typeBits ty - 1 - x, 0)

/-- VRSQ. -/
def fRsq : Fun1 := onValue Ex.rsqrt id

/-- VRCP. -/
def fRcp : Fun1 := onValue (fun x => Ex.div (.fin false 1 0) x) id

/-- VUN of computed elements: d and a of one type. -/
def vun (t : Tok) (d a : Spec) (accept : Nat → Bool) (f : Fun1) (s : State) : Host.Outcome State Fault Refusal :=
  issue .x t none [d, a] (fun e =>
    let rd := Rgn.ofWord (e.rd d)
    let ra := Rgn.ofWord (e.rd a)
    (e.k.checkRgn rd accept).bind fun _ =>
    (e.k.checkSrc ra accept (ra.ty == rd.ty) rd.count).bind fun _ =>
    e.writeRgn [ra] rd fun v =>
      let rs := (spread rd.count (v.elems ra)).map (f e.fp rd.ty)
      (rd.writes (rs.map (·.1)), sumEvents (rs.map (·.2)))) s

/-- VABS (R166). -/
def execVabs (t : Tok) (d a : Spec) (s : State) : Host.Outcome State Fault Refusal := vun t d a isComputing fAbs s

/-- VNEG (R166). -/
def execVneg (t : Tok) (d a : Spec) (s : State) : Host.Outcome State Fault Refusal := vun t d a isComputing fNeg s

/-- VNOT (R166). -/
def execVnot (t : Tok) (d a : Spec) (s : State) : Host.Outcome State Fault Refusal := vun t d a isComputing fNot s

/-- VCPY (R166): every type; for CB4 the scales as well, the counts being equal. -/
def execVcpy (t : Tok) (d a : Spec) (s : State) : Host.Outcome State Fault Refusal :=
  issue .x t none [d, a] (fun e =>
    let rd := Rgn.ofWord (e.rd d)
    let ra := Rgn.ofWord (e.rd a)
    (e.k.checkRgn rd anyTy).bind fun _ =>
    (e.k.checkSrc ra anyTy (ra.ty == rd.ty) rd.count).bind fun _ =>
    e.writeRgn [ra] rd fun v =>
      (rd.writes (spread rd.count (v.elems ra)) ++ (if rd.ty = 9 then rd.writeScales (v.scales ra) else []), Events.zero)) s

/-- VFILL (R166): the low bits of a scalar. -/
def execVfill (t : Tok) (d a : Spec) (s : State) : Host.Outcome State Fault Refusal :=
  issue .x t none [d, a] (fun e =>
    let rd := Rgn.ofWord (e.rd d)
    (e.k.checkRgn rd noCb4).bind fun _ =>
    e.writeRgn [] rd fun _ =>
      (rd.writes (List.replicate rd.count ((e.rd a).toNat % 2 ^ typeBits rd.ty)), Events.zero)) s

/-- VRSQ (R166). -/
def execVrsq (t : Tok) (d a : Spec) (s : State) : Host.Outcome State Fault Refusal := vun t d a floatTy fRsq s

/-- VRCP (R166). -/
def execVrcp (t : Tok) (d a : Spec) (s : State) : Host.Outcome State Fault Refusal := vun t d a floatTy fRcp s

/-- VCVT (R167): `sat` the saturation bit, `r` the rounding code. -/
def execVcvt (t : Tok) (d a : Spec) (sat : BitVec 1) (r : BitVec 3) (s : State) : Host.Outcome State Fault Refusal :=
  issue .x t none [d, a] (fun e =>
    let rd := Rgn.ofWord (e.rd d)
    let ra := Rgn.ofWord (e.rd a)
    let fp := if r = 0 then e.fp else ⟨RM.byNumber (r.toNat - 1), false⟩
    (e.k.checkRgn rd noCb4).bind fun _ =>
    (Att.need (sat = 0 || isFloat rd.ty) 0x02).bind fun _ =>
    (e.k.checkSrc ra noCb4 true rd.count).bind fun _ =>
    e.writeRgn [ra] rd fun v =>
      let rs := (spread rd.count (v.elems ra)).map fun x =>
        let (val, ev) := elemValue ra.ty fp.flush x
        convert rd.ty fp.mode fp.flush (sat = 1) val ev
      (rd.writes (rs.map (·.1)), sumEvents (rs.map (·.2)))) s

/-! VRED (R168) -/

/-- The largest or smallest element's index and value, by the VMIN and VMAX rules; the first NaN where there is one. -/
def pickFrom (big : Bool) : Nat → List Ex → Option (Nat × Ex) → Option (Nat × Ex)
  | _, [], best => best
  | k, x :: rest, best =>
    if x.isNan then some (k, .nan)
    else match best with
      | none => pickFrom big (k + 1) rest (some (k, x))
      | some (j, b) =>
        let better := if big then b.lt x || (b.eq x && b.sign && !x.sign) else x.lt b || (x.eq b && x.sign && !b.sign)
        pickFrom big (k + 1) rest (if better then some (k, x) else some (j, b))

/-- The values of a region's elements under a flush bit. -/
def valuesOf (ty : Nat) (flush : Bool) (xs : List Nat) : List Ex := xs.map fun x => (elemValue ty flush x).1

/-- The NaN-input events of some elements read: one for each NaN (06 R185). -/
def nanEvents (vs : List Ex) : List (BitVec 8) := (vs.filter Ex.isNan).map fun _ => evNan

/-- VRED SUM of a region's encodings to a type. -/
def redSum (aty dty : Nat) (xs : List Nat) : Nat × List (BitVec 8) :=
  match fmtOf dty with
  | some f =>
    let vs := valuesOf aty false xs
    let (v, inv, _) := pairSum 17 vs
    let (enc, ev) := f.round .rne false false v false
    (enc, (ev ||| evIf inv evInvalid) :: nanEvents vs)
  | none =>
    let (i, cl) := clampInt dty (xs.foldl (fun acc x => acc + (intOf aty x).1) 0)
    (encInt dty i, [evIf cl evSaturation])

/-- VRED MAX and MIN. -/
def redPick (big : Bool) (ty : Nat) (flush : Bool) (xs : List Nat) : Nat × List (BitVec 8) :=
  let vs := valuesOf ty flush xs
  match pickFrom big 0 vs none, fmtOf ty with
  | some (_, v), some f => ((f.round .rne false false v false).1, nanEvents vs)
  | some (j, _), none => (xs.getD j 0, [])
  | none, some f => ((f.round .rne false false (.inf big) false).1, [])
  | none, none => (encInt ty (if big then (intRange ty).1 else (intRange ty).2), [])

/-- VRED ARGMAX and ARGMIN. -/
def redArg (big : Bool) (ty : Nat) (flush : Bool) (xs : List Nat) : Nat × List (BitVec 8) :=
  let vs := valuesOf ty flush xs
  match pickFrom big 0 vs none with
  | some (j, _) => (j, nanEvents vs)
  | none => (2 ^ 32 - 1, [])

/-- VRED: `dOk` the types of d, `rel` how a's type stands to d's; only d[0] is written. -/
def vred (t : Tok) (d a : Spec) (dOk : Nat → Bool) (rel : Nat → Nat → Bool) (f : Fp → Nat → Nat → List Nat → Nat × List (BitVec 8))
    (s : State) : Host.Outcome State Fault Refusal :=
  issue .x t none [d, a] (fun e =>
    let rd := Rgn.ofWord (e.rd d)
    let ra := Rgn.ofWord (e.rd a)
    (e.k.checkRgn rd dOk).bind fun _ =>
    (Att.need (decide (1 ≤ rd.count)) 0x02).bind fun _ =>
    (e.k.checkRgn ra isComputing).bind fun _ =>
    (Att.need (rel rd.ty ra.ty) 0x02).bind fun _ =>
    e.writeRgn [ra] { rd with count := 1 } fun v =>
      let (enc, evs) := f e.fp ra.ty rd.ty (v.elems ra)
      (rd.write 0 enc, sumEvents evs)) s

/-- VRED SUM (R168). -/
def execVredSum (t : Tok) (d a : Spec) (s : State) : Host.Outcome State Fault Refusal :=
  vred t d a isComputing (fun x y => isFloat x == isFloat y) (fun _ aty dty xs => redSum aty dty xs) s

/-- VRED MAX (R168). -/
def execVredMax (t : Tok) (d a : Spec) (s : State) : Host.Outcome State Fault Refusal :=
  vred t d a isComputing (fun x y => x == y) (fun fp aty _ xs => redPick true aty fp.flush xs) s

/-- VRED MIN (R168). -/
def execVredMin (t : Tok) (d a : Spec) (s : State) : Host.Outcome State Fault Refusal :=
  vred t d a isComputing (fun x y => x == y) (fun fp aty _ xs => redPick false aty fp.flush xs) s

/-- VRED ARGMAX (R168). -/
def execVredArgmax (t : Tok) (d a : Spec) (s : State) : Host.Outcome State Fault Refusal :=
  vred t d a (· == 10) (fun _ _ => true) (fun fp aty _ xs => redArg true aty fp.flush xs) s

/-- VRED ARGMIN (R168). -/
def execVredArgmin (t : Tok) (d a : Spec) (s : State) : Host.Outcome State Fault Refusal :=
  vred t d a (· == 10) (fun _ _ => true) (fun fp aty _ xs => redArg false aty fp.flush xs) s

/-! VSCAN (R169) -/

/-- The inclusive results after `acc`, with the events of each: a NaN counts for the element that it stands in (06 R185). -/
def scanFrom (f : Fun2) (fp : Fp) (ty : Nat) : Nat → List Nat → List (Nat × BitVec 8)
  | _, [] => []
  | acc, x :: rest =>
    let (v, ev) := f fp ty acc x
    let here := (elemValue ty fp.flush x).1.isNan
    (v, if here then ev else ev &&& ~~~evNan) :: scanFrom f fp ty v rest

/-- The first element as the scan takes it: a float value read under flush, its NaN counted. -/
def scanFirst (fp : Fp) (ty x : Nat) : Nat × BitVec 8 :=
  match fmtOf ty with
  | some f => let (v, ev) := f.read fp.flush x; ((f.round .rne false false v false).1, ev)
  | none => (x, 0)

/-- The inclusive scan. -/
def scanAll (f : Fun2) (fp : Fp) (ty : Nat) : List Nat → List (Nat × BitVec 8)
  | [] => []
  | x :: rest => let first := scanFirst fp ty x; first :: scanFrom f fp ty first.1 rest

/-- The encoding of the least and the greatest value of a computing type: an infinity, or an integer bound. -/
def extreme (top : Bool) (ty : Nat) : Nat :=
  match fmtOf ty with
  | some f => (f.round .rne false false (.inf (!top)) false).1
  | none => encInt ty (if top then (intRange ty).2 else (intRange ty).1)

/-- VSCAN: `ident` the operation's identity; with ex = 1 the results move one element up. -/
def vscan (t : Tok) (d a : Spec) (ex : BitVec 1) (f : Fun2) (ident : Nat → Nat) (s : State) : Host.Outcome State Fault Refusal :=
  issue .x t none [d, a] (fun e =>
    let rd := Rgn.ofWord (e.rd d)
    let ra := Rgn.ofWord (e.rd a)
    (e.k.checkRgn rd isComputing).bind fun _ =>
    (e.k.checkRgn ra isComputing).bind fun _ =>
    (Att.need (ra.ty == rd.ty && ra.count == rd.count) 0x02).bind fun _ =>
    e.writeRgn [ra] rd fun v =>
      let rs := scanAll f e.fp rd.ty (v.elems ra)
      let rs := if ex = 1 then ((ident rd.ty, 0) :: rs).take rd.count else rs
      (rd.writes (rs.map (·.1)), sumEvents (rs.map (·.2)))) s

/-- VSCAN SUM (R169). -/
def execVscanSum (t : Tok) (d a : Spec) (e : BitVec 1) (s : State) : Host.Outcome State Fault Refusal :=
  vscan t d a e fAdd (fun _ => 0) s

/-- VSCAN MAX (R169). -/
def execVscanMax (t : Tok) (d a : Spec) (e : BitVec 1) (s : State) : Host.Outcome State Fault Refusal :=
  vscan t d a e fMax (extreme false) s

/-- VSCAN MIN (R169). -/
def execVscanMin (t : Tok) (d a : Spec) (e : BitVec 1) (s : State) : Host.Outcome State Fault Refusal :=
  vscan t d a e fMin (extreme true) s

/-! VSEL, VCMP, PART -/

/-- INT8 or UINT8. -/
def byteInt (ty : Nat) : Bool := ty == 5 || ty == 6

/-- VSEL (R170): the predicate region's descriptor is in the register after b. -/
def execVsel (t : Tok) (d a b : Spec) (i : BitVec 1) (s : State) : Host.Outcome State Fault Refusal :=
  issue .x t none [d, a, b, b + 1] (fun e =>
    let rd := Rgn.ofWord (e.rd d)
    let ra := Rgn.ofWord (e.rd a)
    let rb := Rgn.ofWord (e.rd b)
    let rp := Rgn.ofWord (e.rd (b + 1))
    let n := rd.count
    (e.k.checkRgn rd noCb4).bind fun _ =>
    (e.k.checkSrc ra noCb4 (ra.ty == rd.ty) n).bind fun _ =>
    (e.k.checkSrc rb noCb4 (rb.ty == rd.ty) n).bind fun _ =>
    (e.k.checkSrc rp byteInt true n).bind fun _ =>
    e.writeRgn [ra, rb, rp] rd fun v =>
      let xy := (spread n (v.elems ra)).zip (spread n ((v.at_ 1).elems rb))
      (rd.writes (List.zipWith (fun p q => if (q != 0) != (i = 1) then p.1 else p.2) xy (spread n ((v.at_ 2).elems rp))),
        Events.zero)) s

/-- One comparison (R171): whether it holds, and whether an operand is a NaN. -/
def compareElem (cc : Nat) (u flush : Bool) (ty x y : Nat) : Bool × Bool :=
  let (lt, gt, nan) : Bool × Bool × Bool :=
    match fmtOf ty with
    | some f =>
      let a := (f.read flush x).1
      let b := (f.read flush y).1
      (a.lt b, b.lt a, a.isNan || b.isNan)
    | none =>
      if u then (decide (x < y), decide (y < x), false)
      else (decide ((intOf ty x).1 < (intOf ty y).1), decide ((intOf ty y).1 < (intOf ty x).1), false)
  let holds := match cc with
    | 0 => !lt && !gt && !nan
    | 1 => lt || gt || nan
    | 2 => lt
    | 3 => !gt && !nan
    | 4 => gt
    | 5 => !lt && !nan
    | 6 => nan
    | _ => !nan
  (holds, nan)

/-- VCMP (R171). -/
def execVcmp (t : Tok) (d a b : Spec) (u : BitVec 1) (c : BitVec 3) (s : State) : Host.Outcome State Fault Refusal :=
  issue .x t none [d, a, b] (fun e =>
    let rd := Rgn.ofWord (e.rd d)
    let ra := Rgn.ofWord (e.rd a)
    let rb := Rgn.ofWord (e.rd b)
    let n := rd.count
    (e.k.checkRgn rd byteInt).bind fun _ =>
    (e.k.checkSrc ra isComputing true n).bind fun _ =>
    (Att.need (if isFloat ra.ty then u = 0 else decide (c.toNat ≤ 5)) 0x02).bind fun _ =>
    (e.k.checkSrc rb isComputing (rb.ty == ra.ty) n).bind fun _ =>
    e.writeRgn [ra, rb] rd fun v =>
      let rs := List.zipWith (compareElem c.toNat (u = 1) e.fp.flush ra.ty) (spread n (v.elems ra))
        (spread n ((v.at_ 1).elems rb))
      (rd.writes (rs.map fun r => if r.1 then 1 else 0), sumEvents (rs.map fun r => evIf r.2 evNan))) s

/-- Whether every earlier X instruction that accesses the scratchpad has completed (R173). -/
def Ctx.xQuiet (k : Ctx) : Bool := !(k.pends.any fun p => p.strm == .x) && k.crds.isEmpty && k.quants.isEmpty

/-- The index list of PART and its true count (R172). -/
def partition (xs : List Nat) : List Nat × Nat :=
  let idx := xs.zipIdx
  let yes := (idx.filter fun p => p.1 != 0).map (·.2)
  let no := (idx.filter fun p => p.1 == 0).map (·.2)
  (yes ++ no, yes.length)

/-- PART (R172, R173): the count lands at a fixed time; the index list, which its access writes, and the tokens come after it (02 R46). -/
def execPart (t : Tok) (d a b : Spec) (s : State) : Host.Outcome State Fault Refusal :=
  issue .x t (some d) [a, b] (fun e =>
    let ra := Rgn.ofWord (e.rd a)
    let rb := Rgn.ofWord (e.rd b)
    (e.k.checkRgn ra noCb4).bind fun _ =>
    (e.k.checkRgn rb (· == 10)).bind fun _ =>
    (Att.need (rb.count == ra.count) 0x02).bind fun _ =>
    (Att.when_ e.k0.xQuiet).bind fun _ =>
    e.access ra.ranges rb.ranges fun k p =>
      let v := e.s.view e.id e.k0 .x
      let (idx, n) := partition (v.elems ra)
      let s := if v.others.isEmpty then e.s else e.s.drew 524288
      let lat := 4 + (ra.count + 511) / 512
      let e := { e with k := k.addPend { p with writes := rb.writes idx, esz := 32, due := some (landAt e.s.cycle e.k0 .x lat) } }
      .ok ⟨s, e.result d lat (BitVec.ofNat 64 n) [], 1, .none⟩) s

/-! VGATH, VSCAT, VPERM (R174, R175, R179) -/

/-- The first index outside a table, by element number (R175). -/
def firstBad (ty count : Nat) (xs : List Nat) : Option (Nat × Int) :=
  (xs.zipIdx).findSome? fun p =>
    let i := (intOf ty p.1).1
    if i < 0 ∨ (count : Int) ≤ i then some (p.2, i) else none

/-- VGATH and VSCAT up to their effect: `tab` the table region, `f` the writes from the indices and the elements of a. Indices
are judged as the instruction issues, so that a bad one leaves the state as before (R175). For tile tags and poison the access is to the
whole table region: R174 does not say that only the indexed elements count [65]. -/
def indexed (e : Env) (tab ra rb : Rgn) (reads writes : List (Nat × Nat)) (esz : Nat)
    (f : List Nat → View → List (Nat × Byte × Byte)) : Att Done :=
  e.access (rb.ranges ++ reads) writes fun k p =>
    let v := e.s.view e.id e.k0 .x
    let xs := (v.at_ 1).elems rb
    match firstBad rb.ty tab.count xs with
    | some (j, i) => .trap 0x08 (BitVec.ofInt 64 (tab.base + i * tab.stride * elemSize ra.ty)) 0 false j []
    | none =>
      let s := if v.others.isEmpty then e.s else e.s.drew 524288
      .ok ⟨s, k.addPend { p with writes := f (xs.map fun x => (intOf rb.ty x).1.toNat) v, esz := esz }, 1, .none⟩

/-- INT32 or INT16. -/
def indexTy (ty : Nat) : Bool := ty == 10 || ty == 11

/-- VGATH (R174). -/
def execVgath (t : Tok) (d a b : Spec) (s : State) : Host.Outcome State Fault Refusal :=
  issue .x t none [d, a, b] (fun e =>
    let rd := Rgn.ofWord (e.rd d)
    let ra := Rgn.ofWord (e.rd a)
    let rb := Rgn.ofWord (e.rd b)
    (e.k.checkRgn rd isByteTy).bind fun _ =>
    (e.k.checkRgn ra isByteTy).bind fun _ =>
    (Att.need (ra.ty == rd.ty) 0x02).bind fun _ =>
    (e.k.checkRgn rb indexTy).bind fun _ =>
    (Att.need (rb.count == rd.count) 0x02).bind fun _ =>
    indexed e ra ra rb ra.ranges rd.ranges (typeBits rd.ty) fun idx v =>
      let xs := v.elems ra
      rd.writes (idx.map fun i => xs.getD i 0)) s

/-- VSCAT (R174): the highest k remains where indices repeat. -/
def execVscat (t : Tok) (d a b : Spec) (s : State) : Host.Outcome State Fault Refusal :=
  issue .x t none [d, a, b] (fun e =>
    let rd := Rgn.ofWord (e.rd d)
    let ra := Rgn.ofWord (e.rd a)
    let rb := Rgn.ofWord (e.rd b)
    (e.k.checkRgn rd isByteTy).bind fun _ =>
    (e.k.checkRgn ra isByteTy).bind fun _ =>
    (Att.need (ra.ty == rd.ty) 0x02).bind fun _ =>
    (e.k.checkRgn rb indexTy).bind fun _ =>
    (Att.need (rb.count == ra.count) 0x02).bind fun _ =>
    indexed e rd ra rb ra.ranges rd.ranges (typeBits rd.ty) fun idx v =>
      (List.zipWith (fun i x => rd.write i x) idx (v.elems ra)).flatten) s

/-- VPERM (R179): `ok` the condition on the count, `src n k` the element that goes to place k. -/
def vperm (t : Tok) (d a : Spec) (ok : Nat → Bool) (src : Nat → Nat → Nat) (s : State) : Host.Outcome State Fault Refusal :=
  issue .x t none [d, a] (fun e =>
    let rd := Rgn.ofWord (e.rd d)
    let ra := Rgn.ofWord (e.rd a)
    let n := rd.count
    (e.k.checkRgn rd isByteTy).bind fun _ =>
    (Att.need (ok n) 0x02).bind fun _ =>
    (e.k.checkRgn ra isByteTy).bind fun _ =>
    (Att.need (ra.ty == rd.ty && ra.count == n) 0x02).bind fun _ =>
    e.writeRgn [ra] rd fun v =>
      let xs := (v.elems ra).toArray
      (rd.writes ((List.range n).map fun k => xs.getD (src n k) 0), Events.zero)) s

/-- VPERM rev (R179). -/
def execVpermRev (t : Tok) (d a : Spec) (s : State) : Host.Outcome State Fault Refusal :=
  vperm t d a (fun _ => true) (fun n k => n - 1 - k) s

/-- VPERM trn (R179): place j × rows + i takes element i × cols + j. -/
def execVpermTrn (t : Tok) (d a : Spec) (b : BitVec 6) (s : State) : Host.Outcome State Fault Refusal :=
  let cols := 2 ^ b.toNat
  vperm t d a (fun n => n % cols == 0) (fun n k => let rows := n / cols; k % rows * cols + k / rows) s

/-- VPERM zip (R179). -/
def execVpermZip (t : Tok) (d a : Spec) (s : State) : Host.Outcome State Fault Refusal :=
  vperm t d a (fun n => n % 2 == 0) (fun n k => k / 2 + k % 2 * (n / 2)) s

/-- VPERM unzip (R179). -/
def execVpermUnzip (t : Tok) (d a : Spec) (s : State) : Host.Outcome State Fault Refusal :=
  vperm t d a (fun n => n % 2 == 0) (fun n k => if k < n / 2 then 2 * k else 2 * (k - n / 2) + 1) s

/-- VPERM rot (R179). -/
def execVpermRot (t : Tok) (d a : Spec) (b : BitVec 6) (s : State) : Host.Outcome State Fault Refusal :=
  vperm t d a (fun _ => true) (fun n k => (k + b.toNat) % n) s

end Sys2Proof.Machine
end

