-- ==== Sys2Proof/Machine/Tile.lean ====
section
/-! DEFINITION. Tile registers (07 R212-R214), cluster SRAM and the tile operands in it (10 R301, 07 R223), the loads and stores of
tile registers (R221-R224), masks (R219, R220) and the format link (R245). -/

namespace Sys2Proof.Machine

open Sys2Proof

/-! Cluster SRAM (10 R301) -/

/-- The cluster and byte that a cluster SRAM address names; none where it names no cluster of the slice (R301). -/
def State.sramPlace (s : State) (slice addr : Nat) : Option (Nat × Nat) :=
  if 2 ^ 29 ≤ addr then none
  else ((s.sliceClusters slice)[addr / 2 ^ 24]?).map fun c => (c, addr % 2 ^ 24)

/-- Whether `n` bytes from an address on all lie in the slice's SRAM. -/
def State.sramOk (s : State) (slice addr n : Nat) : Bool :=
  n == 0 || ((s.sramPlace slice addr).isSome && (s.sramPlace slice (addr + n - 1)).isSome)

/-- `n` bytes of the slice's SRAM. -/
def State.sramRead (s : State) (slice addr n : Nat) : List Byte :=
  (List.range n).map fun j =>
    match s.sramPlace slice (addr + j) with
    | some (c, a) => (s.cluster c).sram.get a
    | none => 0

/-- The bytes at an address of the slice's SRAM as a run sees them, with what it has written there itself. -/
def SeqRun.over (r : SeqRun) (addr : Nat) (bs : List Byte) : List Byte :=
  if r.out.isEmpty then bs else (bs.zipIdx).map fun b => (Sparse.get r.out (addr + b.2)).getD b.1

/-- The run that a context has, on its core's sequencer or taken from it. -/
def State.ownRun (s : State) (k : Ctx) : Option SeqRun :=
  match (s.core (coreOf k.place)).seq.run with
  | some r => if r.ctx = k.place then some r else k.xfRun
  | none => k.xfRun

/-- `n` bytes of the slice's SRAM as a context sees them: what its own run has written, which is published at the run's end, is seen by its
commands, as 09 R289 has it after a WAITK; where nothing orders them, new bytes are as good as old ones (05 R154). -/
def State.sramSeen (s : State) (k : Ctx) (addr n : Nat) : List Byte :=
  let bs := s.sramRead k.slice addr n
  match s.ownRun k with
  | some r => r.over addr bs
  | none => bs

/-- The writes of bytes to the slice's SRAM: cluster, byte address, byte. -/
def State.sramWrites (s : State) (slice addr : Nat) (bs : List Byte) : List (Nat × Nat × Byte) :=
  (bs.zipIdx).filterMap fun p => (s.sramPlace slice (addr + p.2)).map fun q => (q.1, q.2, p.1)

/-- The marks in a byte range of the slice's SRAM (13 R385). -/
def State.sramMarks (s : State) (slice addr n : Nat) : List Loc :=
  s.poison.filter fun p =>
    match p with
    | .sram c w => (List.range n).any fun j =>
        match s.sramPlace slice (addr + j) with
        | some (c', a) => c == c' && w == a / 8
        | none => false
    | _ => false

/-- A tile operand in cluster SRAM, as a register pair describes it (07 R223). -/
structure SramTile where
  base  : Nat
  pitch : Nat
  tpitch : Nat
  rot   : Nat
  rows  : Nat
  cols  : Nat

/-- The operand that two register values give. -/
def SramTile.ofWords (g0 g1 : Word) : SramTile :=
  ⟨wbits g0 31 0, wbits g0 55 32, wbits g1 23 0, [0, 1, 2, 3, 5, 7, 9, 11].getD (wbits g1 26 24) 0, wbits g1 39 32, wbits g1 47 40⟩

/-- The address of row r of tile t: a nonzero rotation moves the bank bits 11:7. -/
def SramTile.row (m : SramTile) (t r : Nat) : Nat :=
  let a0 := m.base + t * m.tpitch
  let ar := a0 + r * m.pitch
  if m.rot = 0 then ar else ar / 2 ^ 12 * 2 ^ 12 + (bits a0 11 7 + r * m.rot) % 32 * 2 ^ 7 + ar % 2 ^ 7

/-- rows and cols within 1 to 128. -/
def SramTile.sizeOk (m : SramTile) : Bool := decide (1 ≤ m.rows) && decide (m.rows ≤ 128) && decide (1 ≤ m.cols) && decide (m.cols ≤ 128)

/-- The first of some rows whose address is not a multiple of 16. -/
def SramTile.misaligned (m : SramTile) (t : Nat) (rows : List Nat) : Option Nat :=
  (rows.map (m.row t)).find? fun a => a % 16 != 0

/-- The first of some rows that leaves the slice's SRAM. -/
def State.rowOutside (s : State) (slice : Nat) (m : SramTile) (t : Nat) (rows : List Nat) : Option Nat :=
  (rows.map (m.row t)).find? fun a => !s.sramOk slice a m.cols

/-- The checks of LDTC and STTC at issue (R223). -/
def State.checkSramTile (s : State) (slice : Nat) (m : SramTile) (t : Nat) : Att Unit :=
  if !m.sizeOk then .fault 0x02
  else match m.misaligned t (List.range m.rows) with
    | some a => .faultAt 0x07 a
    | none => match s.rowOutside slice m t (List.range m.rows) with
      | some a => .faultAt 0x08 a
      | none => .ok ()

/-! Tile registers -/

/-- A load may issue (R213). -/
def Ctx.mayLoad (k : Ctx) (n : Nat) (w : Bool) : Bool :=
  let t := k.tile n
  t.st == .empty || (w && t.st == .full && t.readers == 0)

/-- Registers that a reader names, each once, with their free options. -/
def readerOf (l : List (Nat × Bool)) : List (Nat × Bool) := l.dedup

/-- A reader may issue: each register is FULL (R213). -/
def Ctx.mayRead (k : Ctx) (rs : List (Nat × Bool)) : Bool := rs.all fun r => (k.tile r.1).st == .full

/-- A reader has issued: it counts as pending, and a free option drains (R213). -/
def Ctx.beginReads (k : Ctx) (rs : List (Nat × Bool)) : Ctx :=
  rs.foldl (fun k r =>
    let t := k.tile r.1
    k.setTile r.1 { t with readers := t.readers + 1, st := if r.2 then .draining else t.st }) k

/-- The marks among some bytes of a tile register (13 R385). -/
def State.tileMarks (s : State) (id tl lo hi : Nat) : List Loc :=
  s.poison.filter fun p =>
    match p with
    | .tile c t w => c == id && t == tl && decide (8 * w < hi) && decide (lo < 8 * w + 8)
    | _ => false

/-- The checks of a region that a tile register moves to or from (R221, R222). -/
def Ctx.checkTileRgn (k : Ctx) (r : Rgn) : Att Unit :=
  (k.checkRgn r (· == 6)).bind fun _ => Att.need (r.count % 128 == 0 && decide (r.count ≤ 16384)) 0x02

/-- A number of bytes as bytes. -/
def asBytes (xs : List Nat) : List Byte := xs.map fun x => BitVec.ofNat 8 x

/-- LDT (R221). -/
def execLdt (t : Tok) (n : BitVec 3) (a : Spec) (w : BitVec 1) (s : State) : Host.Outcome State Fault Refusal :=
  issue .l t none [a] (fun e =>
    let r := Rgn.ofWord (e.rd a)
    (e.k.checkTileRgn r).bind fun _ =>
    (Att.when_ (e.k.mayLoad n.toNat (w = 1))).bind fun _ =>
    e.access r.ranges [] fun k p =>
      let v := e.s.view e.id e.k0 .l
      let k := k.setTile n.toNat { k.tile n.toNat with st := .loading }
      .ok ⟨if v.others.isEmpty then e.s else e.s.drew 524288,
        k.addPend { p with load := some (n.toNat, cellsAt 0 (asBytes (v.elems r))), esz := 8 }, 1, .none⟩) s

/-- The 128 bytes of row r of an operand in cluster SRAM; rows and bytes beyond its sizes are zero (R223, R224). -/
def State.sramRow (s : State) (k : Ctx) (m : SramTile) (t r : Nat) : List Byte :=
  if r < m.rows then s.sramSeen k (m.row t r) m.cols ++ List.replicate (128 - m.cols) 0 else List.replicate 128 0

/-- LDTC (R224). -/
def execLdtc (t : Tok) (n : BitVec 3) (a b : Spec) (w : BitVec 1) (s : State) : Host.Outcome State Fault Refusal :=
  issue .l t none [a, b, b + 1] (fun e =>
    let m := SramTile.ofWords (e.rd b) (e.rd (b + 1))
    let ti := (e.rd a).toNat
    let sl := e.k.slice
    (e.s.checkSramTile sl m ti).bind fun _ =>
    (Att.when_ (e.k.mayLoad n.toNat (w = 1))).bind fun _ =>
    e.access [] [] fun k p =>
      let k := k.setTile n.toNat { k.tile n.toNat with st := .loading }
      let data := cellsAt 0 ((List.range m.rows).flatMap fun r => e.s.sramRow e.k m ti r)
      let bad := (List.range m.rows).flatMap fun r => e.s.sramMarks sl (m.row ti r) m.cols
      e.done (k.addPend { p with load := some (n.toNat, data), bad := bad, esz := 8 })) s

/-- STT (R222). -/
def execStt (t : Tok) (d : Spec) (f : BitVec 1) (n : BitVec 3) (s : State) : Host.Outcome State Fault Refusal :=
  issue .s t none [d] (fun e =>
    let r := Rgn.ofWord (e.rd d)
    let rs := [(n.toNat, f == 1)]
    (e.k.checkTileRgn r).bind fun _ =>
    (Att.when_ (e.k.mayRead rs)).bind fun _ =>
    let bad := e.s.tileMarks e.id n.toNat 0 r.count
    if !bad.isEmpty then .consumed bad
    else e.access [] r.ranges fun k p =>
      let bs := (k.tile n.toNat).data.read 0 r.count
      e.done ((k.beginReads rs).addPend { p with writes := r.writes (bs.map (·.toNat)), reads := rs, esz := 8 })) s

/-- STTC (R224). -/
def execSttc (t : Tok) (d : Spec) (f : BitVec 1) (n : BitVec 3) (b : Spec) (s : State) : Host.Outcome State Fault Refusal :=
  issue .s t none [d, b, b + 1] (fun e =>
    let m := SramTile.ofWords (e.rd b) (e.rd (b + 1))
    let ti := (e.rd d).toNat
    let sl := e.k.slice
    let rs := [(n.toNat, f == 1)]
    (e.s.checkSramTile sl m ti).bind fun _ =>
    (Att.when_ (e.k.mayRead rs)).bind fun _ =>
    let bad := (List.range m.rows).flatMap fun r => e.s.tileMarks e.id n.toNat (128 * r) (128 * r + m.cols)
    if !bad.isEmpty then .consumed bad
    else e.access [] [] fun k p =>
      let ws := (List.range m.rows).flatMap fun r =>
        e.s.sramWrites sl (m.row ti r) ((k.tile n.toNat).data.read (128 * r) m.cols)
      e.done ((k.beginReads rs).addPend { p with sram := ws, reads := rs, esz := 8 })) s

/-- TILE_LOAD_COMPLETE (R213, R224): the load of a tile register that is the oldest access of its stream completes; a load that
consumed an uncorrectable error leaves the register EMPTY and raises 0x13 in L. -/
def execTileLoadComplete (ctx tl : Nat) (s : State) : Host.Outcome State Fault Refusal :=
  match s.ctx ctx with
  | none => .next s
  | some k =>
    match (List.range k.pends.length).find? fun n => (k.pendFirst n).any fun p => p.load.any fun q => q.1 == tl with
    | none => .next s
    | some n =>
      match k.pends[n]? with
      | none => .next s
      | some p =>
        let k := if k.expOrd ≤ p.ord then s.logTile ctx k tl (k.tiles[tl]?.getD Tile.reset) else { k with preBad := k.preBad.filter fun q =>
          match q with
          | .tile c t _ => !(c == ctx && t == tl)
          | _ => true }
        let s := { s with poison := s.poison.filter fun q =>
          match q with
          | .tile c t _ => !(c == ctx && t == tl)
          | _ => true }
        if !p.bad.isEmpty then
          let k := k.upd p.ord fun k => (k.setTile tl { k.tile tl with st := .empty }).raise
            { asyncFault p.strm 0x13 (BitVec.ofNat 64 p.pc) 0 0 s.cycle with locs := p.bad }
          .next (s.finishPend ctx k n { p with load := none })
        else .next (s.finishPend ctx k n p)

/-- TILE_READ_END (R213): the oldest reader of a tile register that has made its last read of it, a store that is the oldest
access of its stream or a matrix operation whose last block has ended, no longer counts. -/
def execTileReadEnd (ctx tl : Nat) (s : State) : Host.Outcome State Fault Refusal :=
  match s.ctx ctx with
  | none => .next s
  | some k =>
    let has (rs : List (Nat × Bool)) : Bool := rs.any fun r => r.1 == tl
    let drop (rs : List (Nat × Bool)) : List (Nat × Bool) := rs.filter fun r => r.1 != tl
    match (List.range k.mats.length).find? fun n => (k.mats[n]?).any fun m => has m.reads && (m.bind.isOver || (m.kind == .tcon && m.bind.loaded)) with
    | some n =>
      match k.mats[n]? with
      | some m => .next (s.setCtx ctx { k.upd m.ord fun k => k.setTile tl (k.tile tl).endRead with mats := k.mats.set n { m with reads := drop m.reads } })
      | none => .next s
    | none =>
      match (List.range k.pends.length).find? fun n => (k.pendFirst n).any fun p => has p.reads with
      | some n =>
        match k.pends[n]? with
        | some p => .next (s.setCtx ctx { k.upd p.ord fun k => k.setTile tl (k.tile tl).endRead with pends := k.pends.set n { p with reads := drop p.reads } })
        | none => .next s
      | none => .next s

/-! Masks and the format link -/

/-- A mask lands one cycle after its MASK (R220). -/
def Env.maskAt (e : Env) (k : Ctx) (p : BitVec 2) (c : BitVec 1) (v : BitVec 128) : Ctx :=
  k.fly .x (landAt e.s.cycle e.k0 .x 1) (.mask p.toNat (c == 1) v) 0 false e.push

/-- MASK in its range form (R220). -/
def execMaskRange (t : Tok) (p : BitVec 2) (a : Spec) (c : BitVec 1) (s : State) : Host.Outcome State Fault Refusal :=
  issue .x t none [a] (fun e =>
    let first := wbits (e.rd a) 6 0
    let n := wbits (e.rd a) 15 8
    if 128 < first + n then .fault 0x02
    else e.done (e.maskAt e.k p c (BitVec.ofNat 128 ((2 ^ n - 1) * 2 ^ first)))) s

/-- MASK in its region form (R220): its 16 bytes are read in the issue cycle. -/
def execMaskRegion (t : Tok) (p : BitVec 2) (a : Spec) (c : BitVec 1) (s : State) : Host.Outcome State Fault Refusal :=
  issue .x t none [a] (fun e =>
    let r := Rgn.ofWord (e.rd a)
    (e.k.checkRgn r (· == 6)).bind fun _ =>
    (Att.need (r.count == 16) 0x02).bind fun _ =>
    (Att.when_ e.k0.xQuiet).bind fun _ =>
    e.access r.ranges [] fun k q =>
      let v := e.s.view e.id e.k0 .x
      let s := if v.others.isEmpty then e.s else e.s.drew 524288
      .ok ⟨s, e.maskAt (k.leaveTags [] q.rtags) p c (BitVec.ofNat 128 (leNat (asBytes (v.elems r)))), 1, .none⟩) s

/-- FTSEL (R245): sys.ftlink takes lvl, base and len one cycle after issue. -/
def execFtsel (t : Tok) (a : Spec) (s : State) : Host.Outcome State Fault Refusal :=
  issue .x t none [a] (fun e =>
    let v := e.rd a
    let len := wbits v 12 8
    if wbits v 1 0 ≠ 3 ∧ (len = 0 ∨ 16 < len) then .fault 0x02
    else e.done (e.k.fly .x (landAt e.s.cycle e.k0 .x 1) .ftlink (v &&& 0x1FF3) false e.push)) s

/-- The format table entry that an operation issued by X selects (06 R206, 04 R124): 0x02 without a link. -/
def Env.formatEntry (e : Env) (fsel : Nat) : Att Word :=
  let r := e.k.lt.sys
  if fsel ≠ 15 then .ok (r.ft[fsel]?.getD 0)
  else
    let lvl := wbits r.ftlink 1 0
    if lvl = 3 then .fault 0x02
    else .ok (r.ft[((e.k0.strm .x).index lvl + wbits r.ftlink 7 4) % wbits r.ftlink 12 8]?.getD 0)

end Sys2Proof.Machine
end

