-- ==== Sys2Proof/Machine/Matrix.lean ====
section
/-! DEFINITION. Matrix arithmetic (06 R197-R203, R447), MMA, MMAT and MMAC (07 R225-R231), and the accumulator instructions
(R239-R243). -/

namespace Sys2Proof.Machine

open Sys2Proof

/-! One accumulator element -/

/-- Rounding to FP32, to nearest even and without flush. -/
def rne32 (x : Ex) : W32 × BitVec 8 :=
  let (enc, ev) := fp32.round .rne false false x false
  (BitVec.ofNat 32 enc, ev)

/-- The value of an FP32 word. -/
def val32 (w : W32) : Ex := fp32.decode w.toNat

/-- The canonical NaN of FP32. -/
def nan32 : W32 := 0x7FC00000

/-- A block sum folded into a compensated pair (06 R199), with the events of R447: the rounding of the high word counts neither
inexact nor, unless it is tiny, anything else. A finite high word that a block sum which is itself infinite makes infinite counts no
inexact: nothing is rounded there, and R447 leaves the case open; the model's choice [39]. -/
def foldPair (hi lo : W32) (t : Ex) : (W32 × W32) × BitVec 8 :=
  let (s, inv) := Ex.add false (val32 hi) t
  if s.isNan then ((nan32, 0), evIf inv evInvalid)
  else
    let (h, ev) := rne32 s
    if (val32 h).isInf then ((h, 0), ev)
    else
      let (e, lost) := w48 (Ex.add false s (val32 h).neg).1
      let (x, inv) := Ex.add false (val32 lo) e
      let (l, el) := rne32 x
      ((h, l), (ev &&& evUnderflow) ||| el ||| evIf lost evInexact ||| evIf inv evInvalid)

/-- A block sum folded into a plain float element (06 R200). -/
def foldPlain (hi : W32) (t : Ex) : W32 × BitVec 8 :=
  let (s, inv) := Ex.add false (val32 hi) t
  let (h, ev) := rne32 s
  (h, ev ||| evIf inv evInvalid)

/-- A compensated pair scaled by gamma (06 R199). -/
def scalePair (gamma hi lo : W32) : (W32 × W32) × BitVec 8 :=
  let g := val32 gamma
  let (u, inv) := Ex.mul g (val32 hi)
  let (h, ev) := rne32 u
  if u.isNan then ((nan32, 0), evIf inv evInvalid)
  else if (val32 h).isInf then ((h, 0), ev)
  else
    let (gl, inv) := Ex.mul g (val32 lo)
    let (x, inv') := Ex.add false gl (Ex.add false u (val32 h).neg).1
    let (l, el) := rne32 x
    ((h, l), (ev &&& evUnderflow) ||| el ||| evIf (inv || inv') evInvalid)

/-- A plain float element scaled by gamma (06 R200). -/
def scalePlain (gamma hi : W32) : W32 × BitVec 8 :=
  let (u, inv) := Ex.mul (val32 gamma) (val32 hi)
  let (h, ev) := rne32 u
  (h, ev ||| evIf inv evInvalid)

/-- The integer that the words of an element hold (07 R217). -/
def accInt (cm : Bool) (w0 w1 : W32) : Int := if cm then (w1 ++ w0).toInt else w0.toInt

/-- The words of an integer element. -/
def accWords (cm : Bool) (v : Int) : W32 × W32 :=
  let b : Word := BitVec.ofInt 64 v
  (b.setWidth 32, if cm then (b >>> 32).setWidth 32 else 0)

/-- An exact block sum added to an integer element and clamped (06 R201). -/
def foldInt (cm : Bool) (w0 w1 : W32) (t : Int) : (W32 × W32) × BitVec 8 :=
  let v := accInt cm w0 w1 + t
  let lim : Int := if cm then 2 ^ 63 else 2 ^ 31
  let c := if v < -lim then -lim else if lim ≤ v then lim - 1 else v
  (accWords cm c, evIf (c != v) evSaturation)

/-! Operands (07 R214, R226) -/

/-- An operand element: its exact value and the events of reading it (06 R185, R187, R188). -/
abbrev OpVal := Ex × BitVec 8

/-- The value of an element of an operand format; a CB4 element has a codebook and a scale. -/
def opVal (fmt : Nat) (book : Book) (enc scale : Nat) : OpVal :=
  if fmt = 9 then
    let a := bf16.decode (book.v.getD enc 0).toNat
    let b := bf16.decode scale
    let (v, inv) := Ex.mul a b
    (v, evIf (a.isNan || b.isNan) evNan ||| evIf inv evInvalid)
  else elemValue fmt false enc

/-- The byte ranges of a row that block `blk` of K values reads. -/
def blockRanges (fmt kk blk : Nat) : List (Nat × Nat) :=
  let n := 4 * typeBits fmt
  (blk * n, blk * n + n) :: (if fmt = 9 then [(kk / 2 + 2 * blk, kk / 2 + 2 * blk + 2)] else [])

/-- The 32 values of block `blk` of an operand row. -/
def rowBlock (fmt : Nat) (book : Book) (kk blk : Nat) (row : List Byte) : List OpVal :=
  let w := typeBits fmt
  let n := 4 * w
  let bs := (row.drop (blk * n)).take n
  let encs := if 8 ≤ w then chunksOf (w / 8) 32 bs else bs.flatMap (fieldsOf w)
  let scale := leNat ((row.drop (kk / 2 + 2 * blk)).take 2)
  encs.map fun e => opVal fmt book e scale

/-- Whether both formats are integer formats (06 R201). -/
def MatOp.intPath (m : MatOp) : Bool := (5 ≤ m.afmt && m.afmt ≤ 8) && (5 ≤ m.bfmt && m.bfmt ≤ 8)

/-- The values that an operand row of the B operand, or of A outside MMAT, holds: 128 bytes of elements. -/
def MatOp.rowK (m : MatOp) : Nat := if m.afmt = 1 ∨ m.afmt = 2 ∨ m.bfmt = 1 ∨ m.bfmt = 2 then 64 else 128

/-- The contraction length (R226). -/
def MatOp.kk (m : MatOp) : Nat := if m.kind = .mmat then 256 else m.rowK

/-- Cycles of a block on the dedicated array (R226). -/
def MatOp.dedicated (m : MatOp) : Nat := if m.kind = .mmat then 8 else if m.rowK = 64 then 64 else 16

/-- The operand in cluster SRAM of an MMAC. -/
def MatOp.sram (m : MatOp) : SramTile := SramTile.ofWords m.g0 m.g1

/-- The rows of a 128-bit mask. -/
def maskRows (m : BitVec 128) : List Nat := (List.range 128).filter fun i => m.getLsbD i

/-- Values of block `blk` of row i of A. -/
def Ctx.aBlock (k : Ctx) (m : MatOp) (blk i : Nat) : List OpVal :=
  rowBlock m.afmt m.abook m.kk blk ((k.tile m.ta).data.read (128 * i) 128)

/-- Values of block `blk` of row j of B: a tile register, two for MMAT, or a row of cluster SRAM, as the block or an APEEK before it has read
it. -/
def State.bBlock (s : State) (k : Ctx) (m : MatOp) (blk j : Nat) : List OpVal :=
  match m.kind with
  | .mmat => rowBlock m.bfmt m.bbook 128 (blk % 4) ((k.tile (m.tb + blk / 4)).data.read (128 * j) 128)
  | .mmac => rowBlock m.bfmt m.bbook m.kk blk
      (((m.early.find? fun r => r.1 == blk && r.2.1 == j).map (·.2.2)).getD (s.sramRow k m.sram m.t j))
  | _ => rowBlock m.bfmt m.bbook m.kk blk ((k.tile m.tb).data.read (128 * j) 128)

/-- The integer of an exact value that is one. -/
def exInt : Ex → Int
  | .fin neg m _ => if neg then -(m : Int) else m
  | _ => 0

/-- One block of one element (R228): the words after it and its events. -/
def MatOp.fold (m : MatOp) (blk : Nat) (a b : List OpVal) (w0 w1 : W32) : (W32 × W32) × BitVec 8 :=
  let read := (a ++ b).foldl (fun e v => e ||| v.2) 0
  if m.intPath then
    let (x0, x1) : W32 × W32 := if blk = 0 ∧ m.mode = 0 then (0, 0) else (w0, w1)
    let t := (List.zipWith (fun x y => exInt x.1 * exInt y.1) a b).sum
    let (r, ev) := foldInt m.cm x0 x1 t
    (r, read ||| ev)
  else
    let ((x0, x1), ev0) : (W32 × W32) × BitVec 8 :=
      if blk = 0 ∧ m.mode = 0 then ((0, 0), 0)
      else if blk = 0 then
        let nan := (val32 w0).isNan || (m.cm && (val32 w1).isNan) || (m.mode == 2 && (val32 m.gamma).isNan)
        let (r, ev) : (W32 × W32) × BitVec 8 :=
          if m.mode = 2 then
            if m.cm then scalePair m.gamma w0 w1 else let (h, ev) := scalePlain m.gamma w0; ((h, w1), ev)
          else ((w0, w1), 0)
        (r, ev ||| evIf nan evNan)
      else ((w0, w1), 0)
    let ps := List.zipWith (fun x y => Ex.mul x.1 y.1) a b
    let (t, inv, lost) := pairSum 5 (ps.map (·.1))
    let bad := inv || ps.any (·.2)
    let ((y0, y1), ev) := if m.cm then foldPair x0 x1 t else let (h, ev) := foldPlain x0 t; ((h, x1), ev)
    ((y0, y1), read ||| ev0 ||| ev ||| evIf bad evInvalid ||| evIf lost evInexact)

/-! The accumulator store -/

/-- The index in a core's store of word e of a context's unit u. -/
def Ctx.accIdx (k : Ctx) (u e : Nat) : Nat := (k.accBase + u) * 16384 + e

/-- An accumulator word. -/
def State.accWord (s : State) (id : Nat) (k : Ctx) (u e : Nat) : W32 :=
  (Sparse.get (s.core (coreOf id)).acc (k.accIdx u e)).getD 0

/-- The unmasked elements in row-major order (07 R219, R239), as word numbers. -/
def unmasked (rowm colm : BitVec 128) : List (Nat × Nat) :=
  (maskRows rowm).flatMap fun i => (maskRows colm).map fun j => (i, j)

/-- The marks among a core's accumulator words of some elements of some units (13 R385). -/
def State.accMarks (s : State) (id : Nat) (k : Ctx) (units : List Nat) (els : List (Nat × Nat)) : List Loc :=
  s.poison.filter fun p =>
    match p with
    | .acc c idx => c == coreOf id && units.any fun u => els.any fun x => k.accIdx u (128 * x.1 + x.2) == idx
    | _ => false

/-- The units of an operation. -/
def unitList (n : Nat) (cm : Bool) : List Nat := if cm then [n, n + 1] else [n]

/-- The fault with which an operation ends before block `blk` (R229): 0 where there is none, or an APEEK has read the block's operands. -/
def State.matFault (s : State) (id : Nat) (k : Ctx) (m : MatOp) : Nat :=
  let blk := m.bind.blk
  let rows := maskRows m.rowm
  let cols := maskRows m.colm
  let used := cols.filter (· < m.sram.rows)
  let hit (rs : List (Nat × Nat)) (f : Nat → Nat → Bool) : Bool := rs.any fun r => f r.1 r.2
  if blk < m.shown then 0
  else if m.kind = .mmac ∧ blk = 0 ∧ (s.rowOutside k.slice m.sram m.t used).isSome then 0x08
  else if s.poison.isEmpty then 0
  else if rows.any (fun i => hit (blockRanges m.afmt m.kk blk) fun lo hi => !(s.tileMarks id m.ta (128 * i + lo) (128 * i + hi)).isEmpty) ||
      (match m.kind with
       | .mmac => used.any fun j => hit (blockRanges m.bfmt m.kk blk) fun lo hi =>
           !(s.sramMarks k.slice (m.sram.row m.t j + lo) (Nat.min hi m.sram.cols - lo)).isEmpty
       | .mmat => cols.any fun j => hit (blockRanges m.bfmt 128 (blk % 4)) fun lo hi =>
           !(s.tileMarks id (m.tb + blk / 4) (128 * j + lo) (128 * j + hi)).isEmpty
       | _ => cols.any fun j => hit (blockRanges m.bfmt m.kk blk) fun lo hi =>
           !(s.tileMarks id m.tb (128 * j + lo) (128 * j + hi)).isEmpty) ||
      (blk == 0 && m.mode != 0 && !(s.accMarks id k (unitList m.acc m.cm) (unmasked m.rowm m.colm)).isEmpty) then 0x13
  else 0

/-- Folds that an APEEK has shown beyond those done, after one more fold of some elements (R240). -/
def Ctx.peeked (k : Ctx) (m : MatOp) : Ctx :=
  { k with peek := (k.peek.map fun p =>
      let e := p.1 % 16384
      if (unitList m.acc m.cm).contains (p.1 / 16384) && m.rowm.getLsbD (e / 128) && m.colm.getLsbD (e % 128)
      then (p.1, p.2 - 1) else p).filter fun p => p.2 != 0 }

/-- The block under way of a matrix operation has run (R228): its folds are in the store, its events with the operation. -/
def State.matBlock (s : State) (id : Nat) (k : Ctx) (m : MatOp) : State × Ctx × MatOp :=
  let blk := m.bind.blk
  let avs := (maskRows m.rowm).map fun i => (i, k.aBlock m blk i)
  let bvs := (maskRows m.colm).map fun j => (j, s.bBlock k m blk j)
  let res := avs.flatMap fun a => bvs.map fun b =>
    let e := 128 * a.1 + b.1
    let r := m.fold blk a.2 b.2 (s.accWord id k m.acc e) (if m.cm then s.accWord id k (m.acc + 1) e else 0)
    (e, r.1.1, r.1.2, r.2)
  let k := if k.expOrd ≤ m.ord && !res.isEmpty then s.logUnits id k (unitList m.acc m.cm) else k
  let k := k.peeked m
  let evs := res.map (·.2.2.2)
  let evs := if m.evs.isEmpty then evs else List.zipWith (· ||| ·) m.evs evs
  let s := s.writeAcc id (res.map fun r => (k.accIdx m.acc r.1, r.2.1))
  let s := if m.cm then s.writeAcc id (res.map fun r => (k.accIdx (m.acc + 1) r.1, r.2.2.1)) else s
  (s, k, { m with evs := evs })

/-- The four exception flags of a status word from all the events (06 R203). -/
def flagBits (int : Bool) (ev : BitVec 8) : BitVec 4 :=
  (if ev &&& evInvalid != 0 then 1 else 0) ||| (if ev &&& (if int then evSaturation else evOverflow) != 0 then 2 else 0) |||
  (if ev &&& evUnderflow != 0 then 4 else 0) ||| (if ev &&& evNan != 0 then 8 else 0)

/-- A matrix-format status word (R231). -/
def statusWord (b : Bind) (tag : Nat) (flags : BitVec 4) (fault cb : Nat) (range : Bool) : Word :=
  let sat (n : Nat) : Nat := Nat.min n 4095
  BitVec.ofNat 64 (tag % 2 ^ 8 + b.first * 2 ^ 8 + (if 2 ≤ b.changes then 2 else b.last) * 2 ^ 10 + sat b.kded * 2 ^ 12 +
    sat b.klan * 2 ^ 24 + flags.toNat * 2 ^ 36 + fault % 2 ^ 8 * 2 ^ 40 + cb % 2 ^ 3 * 2 ^ 48 + (if range then 2 ^ 51 else 0))

/-! Issue (R225-R227) -/

/-- A bound operation that has not dispatched, of `n` blocks. -/
def Bind.new (n : Nat) (loaded : Bool) : Bind := ⟨false, false, false, false, loaded, false, false, 0, 0, 0, n, 0, 0, 0, 0, 0, false⟩

/-- A codebook whose new contents have not yet taken effect: X issues nothing that names it (09 R281). -/
def Ctx.bookBusy (k : Ctx) (n : Nat) : Bool :=
  (k.pends.any fun p => p.book.any fun b => b.1 == n) ||
  k.lt.flights.any fun f => match f.tgt with
    | .book b _ _ => b == n
    | _ => false

/-- A codebook. -/
def Ctx.book (k : Ctx) (n : Nat) : Book := k.lt.books[n]?.getD ⟨false, []⟩

/-- Units that accN names must lie below the boundary buffer (R216). -/
def Ctx.unitsOk (k : Ctx) (n : Nat) (cm : Bool) : Bool := (unitList n cm).all fun u => decide (u + k.bndUnits < k.accCnt)

/-- The formats that each operation takes (R226). -/
def matFormatsOk (kind : MatKind) (a b : Nat) : Bool :=
  match kind with
  | .mmat => a == 8 && (b == 5 || b == 6)
  | _ => (1 ≤ a && a ≤ 9) && (1 ≤ b && b ≤ 9)

/-- An operation of the matrix class with nothing in it. -/
def MatOp.new (kind : MatKind) (k : Ctx) (cycle tag cb nblk : Nat) (loaded : Bool) : MatOp where
  kind := kind
  ord := k.lt.ord
  issued := cycle
  tag := tag
  cb := cb
  afmt := 0
  bfmt := 0
  abook := default
  bbook := default
  acc := 0
  cm := false
  mode := 0
  ta := 0
  tb := 0
  rowm := 0
  colm := 0
  gamma := 0
  g0 := 0
  g1 := 0
  t := 0
  reads := []
  word := 0
  form := 0
  vec := []
  bonds := []
  books := []
  dcur := 0
  seen := []
  saw := none
  step := 0
  last := 1
  frame := []
  rows := 0
  trail := 0
  work := []
  evs := []
  counted := Events.zero
  flags := 0
  fault := 0
  findex := 0
  shown := 0
  early := []
  bind := Bind.new nblk loaded

/-- An operation accepted into the matrix queue: a member of its barrier, with its place in ret.mx, counted at its registers. It holds one
of the eight places until it completes, since R227 does not say that a dispatch frees it [56]. -/
def Ctx.queueMat (k : Ctx) (m : MatOp) : Att Ctx :=
  (k.joinCbar m.cb).bind fun k =>
  (k.reserve .mx).bind fun k =>
  (Att.when_ (k.mayRead m.reads && decide (k.mats.length < 8))).bind fun _ =>
  .ok ({ k.setLt { k.lt with ord := k.lt.ord + 1 } with mats := k.mats ++ [m] }.beginReads m.reads)

/-- MMA, MMAT and MMAC at issue (R227): the checks in order, then the wait for the registers and the queue. -/
def matIssue (e : Env) (kind : MatKind) (n : Nat) (fsel : BitVec 4) (mode : BitVec 2) (cm : Bool) (mk : BitVec 2) (cb : BitVec 3)
    (tag : BitVec 8) (f : MatOp → MatOp) (check : MatOp → Att Unit) : Att Done :=
  let k := e.k
  (e.formatEntry fsel.toNat).bind fun ft =>
  let a := wbits ft 3 0
  let b := wbits ft 7 4
  let ca := wbits ft 9 8
  let cbk := wbits ft 11 10
  let m := f { MatOp.new kind k e.s.cycle tag.toNat cb.toNat 0 true with
    afmt := a, bfmt := b, abook := k.book ca, bbook := k.book cbk, acc := n, cm := cm, mode := mode.toNat
    rowm := k.lt.rowmask[mk.toNat]?.getD 0, colm := k.lt.colmask[mk.toNat]?.getD 0
    gamma := k.lt.sys.decay.setWidth 32 }
  let m := { m with bind := { m.bind with nblk := m.kk / 32 } }
  (Att.need (matFormatsOk kind a b) 0x02).bind fun _ =>
  (Att.need (mode != 2 || !m.intPath) 0x02).bind fun _ =>
  (Att.when_ (!(a == 9 && k.bookBusy ca) && !(b == 9 && k.bookBusy cbk))).bind fun _ =>
  (Att.need ((a != 9 || m.abook.loaded) && (b != 9 || m.bbook.loaded)) 0x1A).bind fun _ =>
  (check m).bind fun _ =>
  (Att.need (k.unitsOk n cm) 0x15).bind fun _ =>
  (Att.when_ (!k.zeroing)).bind fun _ =>
  (k.queueMat m).bind fun k => e.pushed k

/-- MMA (R225-R228). -/
def execMma (t : Tok) (n ta : BitVec 3) (fa : BitVec 1) (tb : BitVec 3) (fb : BitVec 1) (fsel : BitVec 4) (mode : BitVec 2)
    (cm : BitVec 1) (mk : BitVec 2) (cb : BitVec 3) (tag : BitVec 8) (s : State) : Host.Outcome State Fault Refusal :=
  issue .x t none [] (fun e =>
    matIssue e .mma n.toNat fsel mode (cm = 1) mk cb tag
      (fun m => { m with ta := ta.toNat, tb := tb.toNat, reads := readerOf [(ta.toNat, fa = 1), (tb.toNat, fb = 1)] })
      fun _ => .ok ()) s

/-- MMAT (R225-R228): B stands in two registers. -/
def execMmat (t : Tok) (n ta : BitVec 3) (fa : BitVec 1) (tb : BitVec 3) (fb : BitVec 1) (fsel : BitVec 4) (mode : BitVec 2)
    (cm : BitVec 1) (mk : BitVec 2) (cb : BitVec 3) (tag : BitVec 8) (s : State) : Host.Outcome State Fault Refusal :=
  issue .x t none [] (fun e =>
    matIssue e .mmat n.toNat fsel mode (cm = 1) mk cb tag
      (fun m => { m with
        ta := ta.toNat, tb := tb.toNat
        reads := readerOf [(ta.toNat, fa = 1), (tb.toNat, fb = 1), (tb.toNat + 1, fb = 1)] })
      fun _ => .ok ()) s

/-- MMAC (R223, R225-R229): B stands in cluster SRAM. -/
def execMmac (t : Tok) (n ta : BitVec 3) (fa : BitVec 1) (b : Spec) (fsel : BitVec 4) (mode : BitVec 2) (cm : BitVec 1)
    (mk : BitVec 2) (cb : BitVec 3) (tag : BitVec 8) (tsrc : BitVec 2) (s : State) : Host.Outcome State Fault Refusal :=
  issue .x t none [b, b + 1] (fun e =>
    matIssue e .mmac n.toNat fsel mode (cm = 1) mk cb tag
      (fun m => { m with
        ta := ta.toNat, reads := [(ta.toNat, fa = 1)], g0 := e.rd b, g1 := e.rd (b + 1)
        t := if tsrc = 0 then 0 else (e.k0.strm .x).index (tsrc.toNat - 1) })
      fun m =>
        if !m.sram.sizeOk then .fault 0x02
        else match m.sram.misaligned m.t ((maskRows m.colm).filter (· < m.sram.rows)) with
          | some a => .faultAt 0x07 a
          | none => .ok ()) s

/-! ACCRD, APEEK, ACCWR, ACCZ (R239-R243) -/

/-- Whether every unit is full (R218). -/
def Ctx.unitsFull (k : Ctx) (us : List Nat) : Bool :=
  !(k.pends.any fun p => p.units.any us.contains) &&
  !(k.mats.any fun m => (m.kind == .mma || m.kind == .mmat || m.kind == .mmac) && (unitList m.acc m.cm).any us.contains)

/-- The value of a float element and whether a word of it is a NaN. -/
def accFloat (cm : Bool) (w0 w1 : W32) : Ex × BitVec 8 :=
  if cm then
    let (x, inv) := Ex.add false (val32 w0) (val32 w1)
    (x, evIf ((val32 w0).isNan || (val32 w1).isNan) evNan ||| evIf inv evInvalid)
  else (val32 w0, evIf (val32 w0).isNan evNan)

/-- The encodings that one element gives a region, and its events (R239). -/
def accOut (ty : Nat) (words int cm sat : Bool) (w : W32 × W32) : List Nat × BitVec 8 :=
  if words then (if cm then [w.1.toNat, w.2.toNat] else [w.1.toNat], 0)
  else
    let (x, ev) := if int then (Ex.ofInt (accInt cm w.1 w.2), 0) else accFloat cm w.1 w.2
    let (enc, ev) := convert ty .rne false sat x ev
    ([enc], ev)

/-- The types of a region of these instructions (R239). -/
def accTypeOk (words int : Bool) (ty : Nat) : Bool := if words then (if int then ty == 10 else ty == 0) else ty != 9

/-- ACCRD and APEEK: `words` gives the words of an element of the view's units. An APEEK behind an ACCWR under way on its units follows what
that may still see (05 R154). -/
def accRead (e : Env) (d : Spec) (m : BitVec 2) (cm : Bool) (n : Nat) (int sat words wait : Bool)
    (get : List (Nat × Nat) → List (W32 × W32) × State × Ctx) : Att Done :=
  let r := Rgn.ofWord (e.rd d)
  let els := unmasked (e.k.lt.rowmask[m.toNat]?.getD 0) (e.k.lt.colmask[m.toNat]?.getD 0)
  let us := unitList n cm
  (e.k.checkRgn r (accTypeOk words int)).bind fun _ =>
  (Att.need (words || !sat || isFloat r.ty) 0x02).bind fun _ =>
  (Att.need (r.count == (if words && cm then 2 else 1) * els.length) 0x02).bind fun _ =>
  (Att.need (e.k.unitsOk n cm) 0x15).bind fun _ =>
  (Att.when_ (!wait || e.k.unitsFull us)).bind fun _ =>
  if !(e.s.accMarks e.id e.k us els).isEmpty then .consumed (e.s.accMarks e.id e.k us els)
  else
    let (ws, s, k1) := get els
    ({ e with s := s, k := k1 }).access [] r.ranges fun k p =>
      let outs : List (List Nat × BitVec 8) := ws.map (accOut r.ty words int cm sat)
      let wr := r.writes (outs.flatMap fun (o : List Nat × BitVec 8) => o.1)
      let ev := sumEvents (outs.map fun (o : List Nat × BitVec 8) => o.2)
      let under := !wait && k.pends.any fun q => q.saw.isSome && q.units.any us.contains
      let p := if under then { p with again := some e.k0.lt, saw := some (e.s.sawNow e.id e.k0) } else p
      .ok ⟨s, k.addPend { p with writes := wr, events := ev, esz := typeBits r.ty, units := us }, 1, .none⟩

/-- ACCRD (R239). -/
def execAccrd (t : Tok) (d : Spec) (m : BitVec 2) (c : BitVec 1) (n : BitVec 3) (i sat v : BitVec 1) (s : State) :
    Host.Outcome State Fault Refusal :=
  issue .x t none [d] (fun e =>
    let cm := c == 1
    accRead e d m cm n.toNat (i == 1) (sat == 1) (v == 1) true fun els =>
      (els.map fun x =>
        let w := 128 * x.1 + x.2
        (e.s.accWord e.id e.k n.toNat w, if cm then e.s.accWord e.id e.k (n.toNat + 1) w else 0), e.s, e.k)) s

/-- An accumulator word as X's own order gives it (05 R153, R243): what its ACCWR or ACCZ still in progress writes, or the store's word. -/
def State.accSeen (s : State) (id : Nat) (k : Ctx) (u e : Nat) : W32 :=
  match (k.pends.flatMap (·.accw)).reverse.find? fun w => w.1 == k.accIdx u e with
  | some w => w.2
  | none => s.accWord id k u e

/-- The folds of the operations in flight on some units that element (i, j) has yet to see, in their order (R202, R230); none from a
block on that consumes poisoned data and so ends its operation, nor of an operation that ends unfolded at its dispatch (R229). -/
def State.foldsLeft (s : State) (id : Nat) (k : Ctx) (us : List Nat) (x : Nat × Nat) : List (MatOp × Nat) :=
  (k.mats.filter fun m => (m.kind == .mma || m.kind == .mmat || m.kind == .mmac) && !m.bind.isOver && !m.bind.cancelled && m.fault == 0 &&
    (unitList m.acc m.cm).any us.contains && m.rowm.getLsbD x.1 && m.colm.getLsbD x.2).flatMap fun m =>
      (((List.range (m.bind.nblk - m.bind.blk)).map fun j => m.bind.blk + j).takeWhile fun b =>
        s.matFault id k { m with bind := { m.bind with blk := b } } == 0).map fun b => (m, b)

/-- The words of units 0 to 7 of one element position after some folds; `ws` holds those that differ from the store's. -/
def State.afterFolds (s : State) (id : Nat) (k : Ctx) (x : Nat × Nat) : List (MatOp × Nat) → List (Nat × W32) → List (Nat × W32)
  | [], ws => ws
  | (m, blk) :: rest, ws =>
    let get (u : Nat) : W32 := ((ws.find? fun p => p.1 == u).map (·.2)).getD (s.accSeen id k u (128 * x.1 + x.2))
    let r := m.fold blk (k.aBlock m blk x.1) (s.bBlock k m blk x.2) (get m.acc) (if m.cm then get (m.acc + 1) else 0)
    let ws := (m.acc, r.1.1) :: ws
    s.afterFolds id k x rest (if m.cm then (m.acc + 1, r.1.2) :: ws else ws)

/-- The blocks below `n` of the operation of issue order `ord` have read their operands: an APEEK shows their folds, which no later write or
mark can change (R240) [7]. -/
def State.readAhead (s : State) (k : Ctx) (ord n : Nat) : Ctx :=
  { k with mats := k.mats.map fun m =>
      if m.ord = ord ∧ m.shown < n then
        let blks := (List.range n).filter fun b => decide (Nat.max m.shown m.bind.blk ≤ b)
        { m with
          shown := n
          early := if m.kind = .mmac then m.early ++ blks.flatMap fun b => (maskRows m.colm).map fun j => (b, j, s.sramRow k m.sram m.t j)
            else m.early }
      else m }

/-- How many of some folds act on a unit. -/
def foldsOn (j : Nat) (fs : List (MatOp × Nat)) : Nat := (fs.filter fun f => (unitList f.1.acc f.1.cm).contains j).length

/-- The fewest of the folds left on some units that hold all that earlier APEEKs have shown of each of these units at element `w` (R240). -/
def Ctx.foldsSeen (k : Ctx) (us : List Nat) (w : Nat) (left : List (MatOp × Nat)) : Nat :=
  ((List.range left.length).find? fun n => us.all fun j => (Sparse.get k.peek (j * 16384 + w)).getD 0 ≤ foldsOn j (left.take n)).getD left.length

/-- APEEK (R240): each element after a free number of whole folds, never fewer than an earlier APEEK showed [7]. -/
def execApeek (t : Tok) (d : Spec) (m : BitVec 2) (c : BitVec 1) (n : BitVec 3) (i sat v : BitVec 1) (s : State) :
    Host.Outcome State Fault Refusal :=
  issue .x t none [d] (fun e =>
    let cm := c == 1
    let u := n.toNat
    let us := unitList u cm
    accRead e d m cm u (i == 1) (sat == 1) (v == 1) false fun els =>
      els.foldl (fun (acc : List (W32 × W32) × State × Ctx) x =>
        let (out, s, k) := acc
        let w := 128 * x.1 + x.2
        let left := e.s.foldsLeft e.id k us x
        let seen := k.foldsSeen us w left
        let (cnt, s') : Nat × State :=
          if left.isEmpty then (0, s) else let (f, s') := s.draw; (seen + f % (left.length - seen + 1), s')
        let ws := e.s.afterFolds e.id k x (left.take cnt) []
        let get (j : Nat) : W32 := ((ws.find? fun p => p.1 == j).map (·.2)).getD (e.s.accSeen e.id k j w)
        let k := if cnt = 0 then k
          else { k with peek := us.foldl (fun p j =>
            let n := foldsOn j (left.take cnt)
            if n = 0 then p else Sparse.set p (j * 16384 + w) n) k.peek }
        let k := (left.take cnt).foldl (fun k f => e.s.readAhead k f.1.ord (f.2 + 1)) k
        (out ++ [(get u, if cm then get (u + 1) else 0)], s', k)) ([], e.s, e.k)) s

/-- The words that a region element gives an accumulator element in the value view, and its events (R241). -/
def accIn (ty : Nat) (int cm : Bool) (enc : Nat) : (W32 × W32) × BitVec 8 :=
  if int then (accWords cm (intOf ty enc).1, (intOf ty enc).2)
  else
    let (x, ev) := elemValue ty false enc
    let (h, eh) := rne32 x
    if cm then
      if x.isNan || (val32 h).isInf then ((h, 0), ev)
      else ((h, (rne32 (Ex.add false x (val32 h).neg).1).1), ev)
    else ((h, 0), ev ||| eh)

/-- The integer types. -/
def anyInt (ty : Nat) : Bool := ty == 5 || ty == 6 || ty == 7 || ty == 8 || ty == 10 || ty == 11

/-- Pairs of a list. -/
def pairsOf : List Nat → List (W32 × W32)
  | a :: b :: rest => (BitVec.ofNat 32 a, BitVec.ofNat 32 b) :: pairsOf rest
  | _ => []

/-- The store's words of some elements of units n and, when compensated, n + 1. -/
def Ctx.accWrites (k : Ctx) (n : Nat) (cm : Bool) (els : List (Nat × Nat)) (ws : List (W32 × W32)) : List (Nat × W32) :=
  let z : List ((Nat × Nat) × (W32 × W32)) := els.zip ws
  (z.map fun p => (k.accIdx n (128 * p.1.1 + p.1.2), p.2.1)) ++
    (if cm then z.map fun p => (k.accIdx (n + 1) (128 * p.1.1 + p.1.2), p.2.2) else [])

/-- ACCWR (R241). -/
def execAccwr (t : Tok) (m : BitVec 2) (c : BitVec 1) (n : BitVec 3) (a : Spec) (i v : BitVec 1) (s : State) :
    Host.Outcome State Fault Refusal :=
  issue .x t none [a] (fun e =>
    let cm := c == 1
    let words := v == 1
    let int := i == 1
    let r := Rgn.ofWord (e.rd a)
    let els := unmasked (e.k.lt.rowmask[m.toNat]?.getD 0) (e.k.lt.colmask[m.toNat]?.getD 0)
    let us := unitList n.toNat cm
    (Att.need (e.k.unitsOk n.toNat cm) 0x15).bind fun _ =>
    (e.k.checkRgn r (if words || !int then accTypeOk words int else anyInt)).bind fun _ =>
    (Att.need (r.count == (if words && cm then 2 else 1) * els.length) 0x02).bind fun _ =>
    (Att.when_ (e.k.unitsFull us)).bind fun _ =>
    e.access r.ranges [] fun k p =>
      let vw := e.s.view e.id e.k0 .x
      let xs := vw.elems r
      let ws : List ((W32 × W32) × BitVec 8) :=
        if words then (if cm then pairsOf xs else xs.map fun x => ((BitVec.ofNat 32 x : W32), (0 : W32))).map fun w => (w, 0)
        else xs.map (accIn r.ty int cm)
      .ok ⟨if vw.others.isEmpty then e.s else e.s.drew 524288, k.addPend { p with
        accw := k.accWrites n.toNat cm els (ws.map (·.1)), events := sumEvents (ws.map (·.2)), esz := typeBits r.ty, units := us },
        1, .none⟩) s

/-- ACCZ (R242). -/
def execAccz (t : Tok) (m : BitVec 2) (c : BitVec 1) (n : BitVec 3) (s : State) : Host.Outcome State Fault Refusal :=
  issue .x t none [] (fun e =>
    let cm := c == 1
    let els := unmasked (e.k.lt.rowmask[m.toNat]?.getD 0) (e.k.lt.colmask[m.toNat]?.getD 0)
    let us := unitList n.toNat cm
    (Att.need (e.k.unitsOk n.toNat cm) 0x15).bind fun _ =>
    (Att.when_ (e.k.unitsFull us)).bind fun _ =>
    e.access [] [] fun k p =>
      e.done (k.addPend { p with accw := k.accWrites n.toNat cm els (els.map fun _ => (0, 0)), esz := 32, units := us })) s

end Sys2Proof.Machine
end

