-- ==== Sys2Proof/Machine/Quant.lean ====
section
/-! DEFINITION. Quantisation to CB4 and back (05 R176-R178). -/

namespace Sys2Proof.Machine

open Sys2Proof

/-- The entries of a codebook with their numbers, without the NaNs (06 R188). -/
def Book.entries (b : Book) : List (Nat × Ex) :=
  ((b.v.zipIdx).map fun p => (p.2, bf16.decode p.1.toNat)).filter fun p => !p.2.isNan

/-- The distance of a value from an entry. -/
def distance (y c : Ex) : Ex := (Ex.add false y c.neg).1.abs

/-- The index that quantising a finite value gives (R176): the nearest finite entry, the lowest of equals. `n` numbers the element,
for a codebook that has no finite entry. -/
def Book.nearest (b : Book) (n : Nat) (y : Ex) : Nat :=
  let best := (b.entries.filter fun p => !p.2.isInf).foldl (fun (acc : Option (Nat × Ex)) p =>
    let d := distance y p.2
    match acc with
    | none => some (p.1, d)
    | some (j, m) => if d.lt m then some (p.1, d) else some (j, m)) none
  match best with
  | some (j, _) => j
  | none => Config.freeIndex n % 16

/-- Whether a value lies above every entry or below every entry (R176). -/
def Book.outside (b : Book) (y : Ex) : Bool :=
  let es := b.entries
  !es.isEmpty && (es.all (fun p => p.2.lt y) || es.all fun p => y.lt p.2)

/-- One block of 32 values quantised (R176): the scale as a BF16 encoding, the indices and the events of each element. `n` numbers
the first element. -/
def quantBlock (b : Book) (n : Nat) (xs : List OpVal) : Nat × List (Nat × BitVec 8) :=
  let clean : List OpVal := xs.map fun x =>
    if x.1.isNan then (.fin false 0 0, evNan) else if x.1.isInf then (.fin false 0 0, evOverflow) else (x.1, 0)
  let m := clean.foldl (fun (m : Ex) x => if m.lt x.1.abs then x.1.abs else m) (.fin false 0 0)
  let s := (bf16.round .rne false false m false).1
  let sv := bf16.decode s
  (s, (clean.zipIdx).map fun p =>
    let y : Ex := if sv.isZero then .fin false 0 0 else
      let (q, rest, _) := Ex.div p.1.1 sv
      fp32.decode (fp32.round .rne false false q rest).1
    (b.nearest (n + p.2) y, p.1.2 ||| evIf (b.outside y) evBook))

/-- Consecutive blocks of 32 values quantised. Fuel: the number of blocks. -/
def quantBlocks (b : Book) : Nat → Nat → List OpVal → List (Nat × List (Nat × BitVec 8))
  | 0, _, _ => []
  | fuel + 1, n, xs => quantBlock b n (xs.take 32) :: quantBlocks b fuel (n + 32) (xs.drop 32)

/-- The result of a quantiser-class operation, computed from a view (R176, R178): its writes, the scales of VQUANT after its indices, and
the events of each element. -/
def QuantOp.run (q : QuantOp) (v : View) : List (Nat × Byte × Byte) × List (BitVec 8) :=
  let a := Rgn.ofWord q.src
  let d := Rgn.ofWord q.dst
  if q.post then
    let bs := quantBlocks q.book (a.count / 32) 0 ((v.elems a).map fun x => elemValue a.ty false x)
    let es := bs.flatMap fun b => b.2
    (d.writes (es.map fun (x : Nat × BitVec 8) => x.1) ++ d.writeScales (bs.map fun b => b.1), es.map fun (x : Nat × BitVec 8) => x.2)
  else
    let sc := (v.scales a).toArray
    let rs := ((v.elems a).zipIdx).map fun p =>
      let x := opVal 9 q.book p.1 (sc.getD (p.2 / 32) 0)
      convert d.ty .rne false false x.1 x.2
    (d.writes (rs.map fun (x : Nat × BitVec 8) => x.1), rs.map fun (x : Nat × BitVec 8) => x.2)

/-- The tags that govern an operation's access. -/
def Ctx.quantTags (k : Ctx) (q : QuantOp) : Admit := k.governing (Rgn.ofWord q.src).ranges (Rgn.ofWord q.dst).ranges

/-- An operation that has its result, and its pending access with the result's writes and events. -/
def QuantOp.fill (q : QuantOp) (p : Pend) (v : View) : QuantOp × Pend :=
  let (ws, evs) := q.run v
  ({ q with waits := false, bind := { q.bind with loaded := true }, flags := flagBits false (evs.foldl (· ||| ·) 0) }, { p with writes := ws, events := sumEvents evs })

/-- The issue of a quantiser-class operation. Where no tile tag governs its access and none before it waits, its result, computed from
the view, waits as a pending access of X until the operation completes; else the access waits in the quantiser (R159) [61]. -/
def quantIssue (e : Env) (d a : Word) (book : Book) (post : Bool) (tag : Nat) : Att Done :=
  (if post then e.k.reserve .mx else .ok e.k).bind fun k =>
  let e := { e with k := k }
  let q : QuantOp := ⟨e.s.cycle, 0, a, d, book, true, post, tag, 0, 0, Bind.new ((Rgn.ofWord a).count / 32) true⟩
  (Att.when_ (e.spReady ((Rgn.ofWord a).ranges ++ (Rgn.ofWord d).ranges) && e.s.settleReady e.id k)).bind fun _ =>
    if (k.quantTags q).isNone && k.quants.all (!·.waits) then
      e.admitted (Rgn.ofWord a).ranges (Rgn.ofWord d).ranges fun k p =>
        let v := e.s.view e.id e.k0 .x
        let (q, p) := { q with ord := p.ord }.fill { p with esz := typeBits (Rgn.ofWord d).ty, quant := true } v
        let (s, k) := (if v.others.isEmpty then e.s else e.s.drew 524288).settleAtoms e.id { k.addPend p with quants := k.quants ++ [q] }
        .ok ⟨s, k, 1, .none⟩
    else
      let p := { Pend.new e.k0 .x e.push with ord := k.lt.ord, esz := typeBits (Rgn.ofWord d).ty, quant := true }
      let (s, k) := e.s.settleAtoms e.id { k.addPend p with quants := k.quants ++ [{ q with ord := p.ord, bind := { q.bind with loaded := false } }] }
      .ok ⟨s, k, 1, .none⟩

/-- The conditions of the codebook that an instruction of X names (R176, 09 R281). -/
def Ctx.bookReady (k : Ctx) (c : Nat) : Att Unit :=
  (Att.when_ (!k.bookBusy c)).bind fun _ => Att.need (k.book c).loaded 0x1A

/-- VQUANT (R176, R177). -/
def execVquant (t : Tok) (d a : Spec) (c : BitVec 2) (g : BitVec 4) (s : State) : Host.Outcome State Fault Refusal :=
  issue .x t none [d, a] (fun e =>
    let rd := Rgn.ofWord (e.rd d)
    let ra := Rgn.ofWord (e.rd a)
    (e.k.checkRgn rd (· == 9)).bind fun _ =>
    (e.k.checkRgn ra isFloat).bind fun _ =>
    (Att.need (ra.count == rd.count) 0x02).bind fun _ =>
    (e.k.bookReady c.toNat).bind fun _ => quantIssue e (e.rd d) (e.rd a) (e.k.book c.toNat) true g.toNat) s

/-- VDEQ (R178). -/
def execVdeq (t : Tok) (d a : Spec) (c : BitVec 2) (s : State) : Host.Outcome State Fault Refusal :=
  issue .x t none [d, a] (fun e =>
    let rd := Rgn.ofWord (e.rd d)
    let ra := Rgn.ofWord (e.rd a)
    (e.k.checkRgn rd isFloat).bind fun _ =>
    (e.k.checkRgn ra (· == 9)).bind fun _ =>
    (Att.need (ra.count == rd.count) 0x02).bind fun _ =>
    (e.k.bookReady c.toNat).bind fun _ => quantIssue e (e.rd d) (e.rd a) (e.k.book c.toNat) false 0) s

/-- The head operation waits for its tags and is admitted now (R159): the operation, its pending access's place and the context as
admitted. -/
def State.quantReady (s : State) (k : Ctx) : Option (QuantOp × Nat × Ctx) :=
  match k.quants with
  | [] => none
  | q :: _ =>
    if !q.waits || q.fault != 0 || q.bind.cancelled || k.zeroing || s.cycle < q.issued + 4 || !(k.res == .resident || k.res == .ended) then none
    else
      let a := k.quantTags q
      match (List.range k.pends.length).find? (fun n => (k.pends[n]?).any fun p => p.ord == q.ord), k.admitFor q.ord a with
      | some n, .ok k' => if s.engineTurn a then some (q, n, k') else none
      | _, _ => none

end Sys2Proof.Machine
end

