-- ==== Sys2Proof/Machine/Strip.lean ====
section
/-! DEFINITION. Strips (08): what an engine command reads from device memory and cluster SRAM (11 R336, R347), the boundary, one
step of a strip operation and its folds, TCON, CPLAN and BDSET. -/

namespace Sys2Proof.Machine

open Sys2Proof

/-! Reads of engine commands -/

/-- The cur bits of the four double buffers (11 R347), which an engine command captures at its push. -/
def SysRegs.curMask (r : SysRegs) : Nat :=
  (List.range 4).foldl (fun m j => if (r.dbuf[j]?.getD 0).getLsbD 49 then m + 2 ^ j else m) 0

/-- The double buffers under captured cur bits. -/
def SysRegs.withCur (r : SysRegs) (cur : Nat) : SysRegs :=
  { r with dbuf := Vector.ofFn fun j =>
      let w := r.dbuf[j.val]?.getD 0
      if bit cur j.val then w ||| BitVec.twoPow 64 49 else w &&& ~~~(BitVec.twoPow 64 49) }

/-- A byte range cut at multiples of 64 KiB, the smallest page. Fuel: the number of pieces. -/
def pieces : Nat → Nat → Nat → List (Nat × Nat)
  | 0, _, _ => []
  | fuel + 1, a, n =>
    let room := 65536 - a % 65536
    if n = 0 then [] else if n ≤ room then [(a, n)] else (a, room) :: pieces fuel (a + room) (n - room)

/-- The physical pieces of a range of a context's device addresses, under captured cur bits; the first piece that fails gives the
fault (11 R349 to R352). -/
def State.devPieces (s : State) (k : Ctx) (cur va n : Nat) (need : Need) : Att (List (Nat × Nat)) :=
  let r := k.lt.sys.withCur cur
  Att.foldl (fun acc p => (s.translate k.place r.ptroot (r.swapAddr p.1) need).bind fun pa => .ok (acc ++ [(pa, p.2)]))
    [] (pieces (n / 65536 + 2) va n)

/-- The buffered stores of a context as a command of a stream sees them over memory (11 R336): without the nibbles over which C, or that
stream by a WAITC, has acquired a later write, since memory holds it (R337, 10 R307). -/
def Ctx.storesOver (k : Ctx) (st : Strm) : List StoreWord :=
  let newer := k.frags ++ (k.acqs.filter fun q => q.1 == st).map (·.2)
  newer.foldl (fun ws w => dropNibbles true w ws) k.lt.stores

/-- The buffered stores that a command sees whose push found `seen` in the buffer: one made since, which nothing orders before the push, by a
free choice for each word (08 R265, 11 R336). -/
def Ctx.storesSeen (k : Ctx) (st : Strm) (seen : List StoreWord) (free : Nat) : List StoreWord :=
  (k.storesOver st).filterMap fun w =>
    if seen.contains w ∨ Config.freeNat (free + w.pa / 8) % 2 = 1 then some w
    else (seen.find? fun o => o.pa == w.pa).map fun o => { o with mask := o.mask &&& w.mask }

/-- Store words laid over the bytes at a physical address. -/
def overBytes (ws : List StoreWord) (pa : Nat) (bs : List Byte) : List Byte :=
  if ws.isEmpty then bs else
  (bs.zipIdx).map fun b =>
    let a := pa + b.2
    ws.foldl (fun v w => if w.pa = a / 8 * 8 then
      mergeByte v (BitVec.ofNat 8 (w.data.toNat / 2 ^ (8 * (a % 8)))) (nibbleByte w.mask (a % 8)) else v) b.1

/-- The marks in a range of physical device memory (13 R385). -/
def State.devMarks (s : State) (pa n : Nat) : List Loc :=
  s.poison.filter fun p =>
    match p with
    | .dev w => meets pa (pa + n) (8 * w) (8 * w + 8)
    | _ => false

/-- The package after a command has read device memory: its choices among the stores made since its push are drawn. -/
def State.drewStores (s : State) (k : Ctx) : State := if k.lt.stores.isEmpty then s else { s with free := s.free + 2 ^ 44 }

/-- The bytes that an engine command of stream `st` of a context reads: space 0 device memory, with the context's own unpublished stores,
of which its push found `seen`; space 1 cluster SRAM (11 R336). Poisoned data gives 0x13 (13 R385). -/
def State.cmdRead (s : State) (k : Ctx) (st : Strm) (seen : List StoreWord) (cur space addr n : Nat) : Att (List Byte) :=
  if space = 0 then
    (s.devPieces k cur addr n .read).bind fun ps =>
      if ps.any fun p => !(s.devMarks p.1 p.2).isEmpty then .consumed (ps.flatMap fun p => s.devMarks p.1 p.2)
      else .ok (ps.flatMap fun p => overBytes (k.storesSeen st seen s.free) p.1 (s.mem.read p.1 p.2))
  else if !s.sramOk k.slice addr n then .faultAt 0x08 addr
  else if !(s.sramMarks k.slice addr n).isEmpty then .consumed (s.sramMarks k.slice addr n)
  else .ok (s.sramSeen k addr n)

/-! The boundary (R251-R254) -/

/-- Rows of sys.bndshape. -/
def Ctx.bndRows (k : Ctx) : Nat := wbits k.lt.sys.bndshape 23 0

/-- Trailing dimension of sys.bndshape. -/
def Ctx.bndTrail (k : Ctx) : Nat := wbits k.lt.sys.bndshape 47 24

/-- A sys.bndshape word of a valid boundary with the error fields of `old`. -/
def shapeWord (rows trail : Nat) (old : Word) : Word :=
  BitVec.ofNat 64 (rows % 2 ^ 24 + trail % 2 ^ 24 * 2 ^ 24 + 2 ^ 48) ||| (old &&& 0xFF02000000000000)

/-- sys.bndshape with err set and an error code (R260). -/
def shapeErr (old : Word) (code : Nat) : Word :=
  (old &&& 0x00FFFFFFFFFFFFFF) ||| BitVec.ofNat 64 (2 ^ 49 + code % 256 * 2 ^ 56)

/-- The marks in the boundary's units (13 R385). The placement of its elements is not visible, so any such word counts for the
boundary. -/
def State.bndMarks (s : State) (id : Nat) (k : Ctx) : List Loc :=
  if k.bnd.isEmpty then [] else s.poison.filter fun p =>
    match p with
    | .acc c idx => c == coreOf id && k.bndUnitList.any fun u => idx / 16384 == k.accBase + u
    | _ => false

/-! One step (R256-R260, R265) -/

/-- Bytes of a frame up to element number `last` (R257). -/
def frameBytes (fmt last : Nat) : Nat :=
  match fmt with
  | 1 => 2 * (last + 1)
  | 9 => 18 * (last / 32) + 18
  | _ => last + 1

/-- Element L of a frame: its encoding, and for CB4 its index with the scale of its block above bit 4 (R257). -/
def frameElem (fmt : Nat) (bs : Array Byte) (l : Nat) : Nat :=
  let at_ (j : Nat) : Nat := (bs.getD j 0).toNat
  match fmt with
  | 1 => at_ (2 * l) + 256 * at_ (2 * l + 1)
  | 9 =>
    let o := 18 * (l / 32)
    let j := l % 32
    at_ (o + j / 2) / 16 ^ (j % 2) % 16 + 16 * (at_ (o + 16) + 256 * at_ (o + 17))
  | _ => at_ l

/-- The value of a frame element. -/
def frameVal (fmt : Nat) (book : Book) (x : Nat) : OpVal := if fmt = 9 then opVal 9 book (x % 16) (x / 16) else opVal fmt book x 0

/-- The fields that TCON's second word and word 1 of a plan step share. -/
def MatOp.l (m : MatOp) : Nat := bits m.form.toNat 3 0

/-- Right bond register. -/
def MatOp.r (m : MatOp) : Nat := bits m.form.toNat 7 4

/-- Bond register of n. -/
def MatOp.nb (m : MatOp) : Nat := bits m.form.toNat 11 8

/-- The mode bit: n is contracted with the mode vector. -/
def MatOp.vecMode (m : MatOp) : Bool := bit m.form.toNat 13

/-- The fold bit. -/
def MatOp.foldCols (m : MatOp) : Bool := bit m.form.toNat 12

/-- The format code. -/
def MatOp.ffmt (m : MatOp) : Nat := bits m.form.toNat 17 14

/-- The codebook number. -/
def MatOp.fbk (m : MatOp) : Nat := bits m.form.toNat 19 18

/-- The value of a captured bond register (R250). -/
def MatOp.bond (m : MatOp) (n : Nat) : Nat := m.bonds.getD n 1

/-- New elements of the step under way. -/
def MatOp.elems (m : MatOp) : Nat := m.rows * m.trail

/-- Fields of a frame word and a form that R261 and R265 reserve. -/
def formOk (form : Nat) : Bool :=
  let fmt := bits form 17 14
  (fmt == 1 || fmt == 3 || fmt == 4 || fmt == 9) && (fmt == 9 || bits form 19 18 == 0) && !(bit form 12 && bit form 13)

/-- The frame of a step read, for all its used elements (R257). For poison every byte up to the last used one counts, unused elements between
them included, which R259 leaves open [65]. A misaligned frame is found before its address is translated: R259 orders no two of the read
failures [54]. -/
def State.readFrame (s : State) (id : Nat) (k : Ctx) (m : MatOp) (w n b : Nat) : Att (List Nat) :=
  let fmt := m.ffmt
  let p := wbits m.word 61 50 + 1
  let space := wbits m.word 63 62
  let addr := wbits m.word 47 0
  let len := frameBytes fmt ((w * n - 1) * p + b - 1)
  (if space = 2 then
    if !(s.tileMarks id (addr % 8) 0 len).isEmpty then .consumed (s.tileMarks id (addr % 8) 0 len) else .ok ((k.tile (addr % 8)).data.read 0 len)
  else if (fmt = 1 ∨ fmt = 9) ∧ addr % 2 ≠ 0 then .faultAt 0x07 addr
  else s.cmdRead k .x m.seen m.dcur space addr len).bind fun bs =>
    let arr := bs.toArray
    .ok ((List.range (w * n)).flatMap fun j => (List.range b).map fun c => frameElem fmt arr (j * p + c))

/-- The partition as a plan step sees it: X's accesses before the CPLAN are ordered before it; of all others since its issue it sees any part
(R265). -/
def State.stripView (s : State) (id : Nat) (k : Ctx) (m : MatOp) : View :=
  match m.saw with
  | some w => s.viewSince id k .x m.ord w
  | none => s.viewBy id k fun p => p.strm == .x && decide (p.ord < m.ord)

/-- The mode vector of a plan step read at the start of its step (R265), once its tile tags admit the access (05 R158), which is complete
with the read [61]: the context as it leaves its tags, the vector, and whether a tag has admitted it. -/
def State.readVec (s : State) (id : Nat) (k : Ctx) (m : MatOp) (off n : Nat) : Att (Ctx × List Nat × Bool) :=
  if off % 2 ≠ 0 then .faultAt 0x07 off
  else if k.spSize < off + 2 * n then .faultAt 0x08 off
  else
    let rs := [(off, off + 2 * n)]
    let a := k.governing rs []
    if k.zeroing || !(s.engineTurn a) then .wait none else
    (k.admitFor m.ord a).bind fun k =>
      if !(s.spMarks id k rs).isEmpty then .consumed (s.spMarks id k rs)
      else
        let v := s.stripView id k m
        .ok (k.upd m.ord (·.leaveTags [] a.r), (List.range n).map fun j => leNat (v.bytes j (off + 2 * j) 2), !a.isNone)

/-- The bytes that couriers have moved and not yet published, by their places (11 R337). -/
def State.outBytes (s : State) : List (Nat × Byte) :=
  s.ctxs.flatMap fun p => (p.2.cmds.filter (·.kind == .store)).flatMap fun c => c.out.flatMap fun o =>
    if o.1 = 0 then (o.2.2.2.zipIdx).map fun b => (o.2.2.1 + b.2, b.1)
    else (s.sramWrites p.2.slice o.2.2.1 o.2.2.2).map fun w => (sramKey w.1 w.2.1, w.2.2)

/-- An aligned word of a plan as its step reads it (R265): by a free choice what it held at any moment since the CPLAN, or what a courier has
moved there and will publish; the context's own stores from before the CPLAN stand in each [7]. -/
def State.planWord (s : State) (id : Nat) (k : Ctx) (m : MatOp) (key : Nat) (cur : Word) : Word :=
  let wordOver (ws : List StoreWord) (w : Word) : Word := BitVec.ofNat 64 (leNat (overBytes ws key (leBytes 8 w.toNat)))
  let was := s.pubs.filter fun p => p.pa == key && decide (m.issued < p.cycle)
  let mine := was.findIdx? (·.writer == id)
  let old := (was.zipIdx).map fun p => if mine.all (p.2 ≤ ·) then wordOver m.seen p.1.old else p.1.old
  let out := s.outBytes
  let next : Word := BitVec.ofNat 64 (leNat ((leBytes 8 cur.toNat).zipIdx.map fun b =>
    out.foldl (fun v o => if o.1 = key + b.2 then o.2 else v) b.1))
  let own := k.storesSeen .x m.seen s.free
  let all := old ++ [wordOver own cur, wordOver own next]
  all.getD (Config.freeNat (s.free + 2 ^ 45 + key / 8) % all.length) cur

/-- The 16 bytes of a plan step read from memory, word by word, where they can be read. -/
def State.planRead (s : State) (id : Nat) (k : Ctx) (m : MatOp) (space addr : Nat) : Att (List Byte) :=
  (s.cmdRead k .x m.seen m.dcur space addr 16).bind fun _ =>
  if space = 0 then
    (s.devPieces k m.dcur addr 16 .read).bind fun ps => .ok (ps.flatMap fun p => (List.range (p.2 / 8)).flatMap fun j =>
      leBytes 8 (s.planWord id k m (p.1 + 8 * j) (s.mem.word (p.1 + 8 * j))).toNat)
  else .ok ((List.range 2).flatMap fun j => match s.sramPlace k.slice (addr + 8 * j) with
    | some (c, a) => leBytes 8 (s.planWord id k m (sramKey c a) ((s.cluster c).sram.word a)).toNat
    | none => List.replicate 8 0)

/-- A plan step fetched (R265): the operation with its frame word and form, and the offset of its mode vector. -/
def State.planStep (s : State) (id : Nat) (k : Ctx) (m : MatOp) : Att (MatOp × Nat) :=
  if m.kind ≠ .cplan then .ok (m, 0) else
  (s.planRead id k m (wbits m.g0 63 62) (wbits m.g0 47 0 + 16 * m.step)).bind fun bs =>
    let w0 := leNat (bs.take 8)
    let w1 := leNat (bs.drop 8)
    if 2 ≤ bits w0 63 62 ∨ bits w0 49 48 ≠ 0 ∨ bits w1 23 20 ≠ 0 ∨ bits w1 63 48 ≠ 0 ∨ !formOk w1 ∨
      (!(bit w1 13) ∧ bits w1 47 24 ≠ 0) then .fault 0x02
    else .ok ({ m with word := BitVec.ofNat 64 w0, form := BitVec.ofNat 32 (w1 % 2 ^ 20) }, bits w1 47 24)

/-- The checks and reads of a step (R259): the context, and the operation with its next step loaded; one that a tile tag has admitted,
after the streams of the cycle, goes on in the next. -/
def State.stripLoad (s : State) (id : Nat) (k : Ctx) (m : MatOp) : Att (Ctx × MatOp) :=
  let shape := k.lt.sys.bndshape
  if shape.getLsbD 49 then .fault (wbits shape 63 56)
  else
    (s.planStep id k m).bind fun (m, off) =>
    let w := m.bond m.l
    let n := m.bond m.nb
    let b := m.bond m.r
    let rows := if m.vecMode || m.foldCols then k.bndRows else k.bndRows * n
    let trail := if m.vecMode then b else if m.foldCols then n * b else b
    (Att.need (w == k.bndTrail) 0x0C).bind fun _ =>
    (Att.need (decide (b ≤ wbits m.word 61 50 + 1)) 0x02).bind fun _ =>
    (Att.need (decide (rows * trail ≤ capacity k.lt.sys.bndcap)) 0x0B).bind fun _ =>
    (Att.need (decide (rows < 2 ^ 24) && decide (trail < 2 ^ 24)) 0x0B).bind fun _ =>
    (Att.need (m.ffmt != 9 || (m.books.getD m.fbk default).loaded) 0x1A).bind fun _ =>
    (s.readFrame id k m w n b).bind fun frame =>
    (if m.vecMode ∧ m.kind = .cplan then s.readVec id k m off n else .ok (k, m.vec, false)).bind fun (k, vec, tagged) =>
    if !(s.bndMarks id k).isEmpty then .consumed (s.bndMarks id k)
    else
      let t := (2 * w * (if m.vecMode then n else 1) + 31) / 32
      let b := { m.bind with loaded := true, nblk := t, blk := 0 }
      .ok (k, { m with frame := frame, vec := vec, rows := rows, trail := trail, work := [], evs := []
                       bind := if !tagged then b else { b with since := s.cycle + 1, ended := if b.placed then s.cycle else b.ended } })

/-- One product of a term sequence rounded to W48 (R258, 06 R447): beyond the range it counts overflow or underflow, and inexact
where it rounds. -/
def stripTerm (y : Ex) : Ex × BitVec 8 :=
  let (t, lost) := w48Product y
  if !lost then (t, 0)
  else match y with
    | .fin _ _ _ =>
      (t, evInexact ||| (if t.isInf then evOverflow else if t.isZero then evUnderflow else 0))
    | _ => (t, 0)

/-- Term number t of the sequence of a new element (R258): of its row i of the old boundary and its frame elements. -/
def MatOp.term (m : MatOp) (h : Array (W32 × W32)) (f : Array OpVal) (v : Array OpVal) (w n nb i p b t : Nat) : Ex × BitVec 8 :=
  let per := w * n
  if 2 * per ≤ t then (.fin false 0 0, 0) else
  let r := t % per
  let q := if m.vecMode then r / w else p
  let a := r % w
  let e := h.getD (i * w + a) (0, 0)
  let x := val32 (if t < per then e.1 else e.2)
  let y := f.getD ((a * m.bond m.nb + q) * nb + b) (.fin false 0 0, 0)
  let (z, inv) := Ex.mul x y.1
  let (z, inv, ev) : Ex × Bool × BitVec 8 :=
    if m.vecMode then
      let u := v.getD q (.fin false 0 0, 0)
      let (z', inv') := Ex.mul z u.1
      (z', inv || inv', u.2)
    else (z, inv, 0)
  let (s, er) := stripTerm z
  (s, evIf x.isNan evNan ||| y.2 ||| ev ||| evIf inv evInvalid ||| er)

/-- Block `blk` of every new element of the step folded (R258): the elements and their events. -/
def Ctx.stripBlock (k : Ctx) (m : MatOp) : List ((W32 × W32) × BitVec 8) :=
  let w := m.bond m.l
  let n := m.bond m.nb
  let nb := m.bond m.r
  let book := m.books.getD m.fbk default
  let h := k.bnd.toArray
  let f := (m.frame.map (frameVal m.ffmt book)).toArray
  let v := (m.vec.map fun x => opVal 1 book x 0).toArray
  let old := m.work.toArray
  let evs := m.evs.toArray
  (List.range m.elems).map fun x =>
    let b := x % nb
    let (i, p) : Nat × Nat := if m.vecMode then (x / nb, 0) else (x / nb / n, x / nb % n)
    let ts := (List.range 32).map fun j =>
      m.term h f v w (if m.vecMode then n else 1) nb i p b (32 * m.bind.blk + j)
    let (t, inv, lost) := pairSum 5 (ts.map (·.1))
    let (hi, lo) := if m.bind.blk = 0 then (0, 0) else old.getD x (0, 0)
    let (r, ev) := foldPair hi lo t
    (r, ts.foldl (fun e y => e ||| y.2) (evs.getD x 0) ||| ev ||| evIf inv evInvalid ||| evIf lost evInexact)

/-- The step whose last block has been folded swaps the halves (R260); its events and flags join the operation's. -/
def State.stripSwap (s : State) (id : Nat) (k : Ctx) (m : MatOp) : State × Ctx × MatOp :=
  let fresh := k.expOrd ≤ m.ord
  let k := if fresh then s.logUnits id k k.bndUnitList else k
  let k := if fresh && k.preBnd.isNone then { k with preBnd := some k.bnd } else k
  let k := { k.upd m.ord fun k => k.setSys { k.lt.sys with bndshape := shapeWord m.rows m.trail k.lt.sys.bndshape } with bnd := m.work }
  let all := m.evs.foldl (· ||| ·) 0
  (s.bndClean id k, k,
    { m with counted := m.counted.add (sumEvents m.evs), flags := m.flags ||| flagBits false all, step := m.step + 1
             frame := [], work := [], evs := [] })

/-- One block of a strip operation run (R258, R263). -/
def State.stripRun (s : State) (id : Nat) (k : Ctx) (m : MatOp) : State × Ctx × MatOp :=
  let res : List ((W32 × W32) × BitVec 8) := k.stripBlock m
  let m : MatOp := { m with work := res.map (·.1), evs := res.map (·.2) }
  if m.bind.blk + 1 < m.bind.nblk then (s, k, m) else s.stripSwap id k m

/-! TCON and CPLAN at issue -/

/-- All bond values (R250). -/
def Ctx.bondList (k : Ctx) : List Nat := (List.range 16).map fun j => wbits (k.lt.sys.bd[j]?.getD 1) 12 0

/-- A strip operation ready to be queued. -/
def stripOp (e : Env) (kind : MatKind) (cb tag : Nat) : MatOp :=
  { MatOp.new kind e.k e.s.cycle tag cb 0 false with
    bonds := e.k.bondList, books := e.k.lt.books.toList, dcur := e.k.lt.sys.curMask, seen := e.k.storesOver .x }

/-- The checks of a frame word at issue (R256, R262). -/
def frameWordOk (v : Word) (fmt last : Nat) : Bool :=
  wbits v 63 62 != 3 && wbits v 49 48 == 0 &&
  (wbits v 63 62 != 2 || (wbits v 47 4 == 0 && decide (frameBytes fmt last ≤ 16384)))

/-- TCON (R261, R262). -/
def execTcon (t : Tok) (d a : Spec) (l r nb : BitVec 4) (fold mode : BitVec 1) (fmt : BitVec 4) (cbk : BitVec 2) (cb : BitVec 3)
    (tag : BitVec 8) (s : State) : Host.Outcome State Fault Refusal :=
  issue .x t none (d :: (if mode = 1 then [a] else [])) (fun e =>
    let w := e.rd d
    let m := stripOp e .tcon cb.toNat tag.toNat
    let m := { m with
      word := w
      form := BitVec.ofNat 32 (l.toNat + r.toNat * 2 ^ 4 + nb.toNat * 2 ^ 8 + fold.toNat * 2 ^ 12 + mode.toNat * 2 ^ 13 +
        fmt.toNat * 2 ^ 14 + cbk.toNat * 2 ^ 18) }
    let last := (m.bond m.l * m.bond m.nb - 1) * (wbits w 61 50 + 1) + m.bond m.r - 1
    let reads := if wbits w 63 62 = 2 then [(wbits w 2 0, bit w.toNat 3)] else []
    let rg := Rgn.ofWord (e.rd a)
    (Att.need (frameWordOk w fmt.toNat last) 0x02).bind fun _ =>
    (if mode = 1 then
      (e.k.checkRgn rg (· == 1)).bind fun _ => Att.need (rg.count == m.bond m.nb) 0x02
    else .ok ()).bind fun _ =>
    (Att.when_ (!(fmt == 9 && e.k.bookBusy cbk.toNat))).bind fun _ =>
    if mode = 1 then
      e.access rg.ranges [] fun k p =>
        let v := e.s.view e.id e.k0 .x
        let s := if v.others.isEmpty then e.s else e.s.drew 524288
        ((k.leaveTags [] p.rtags).queueMat { m with vec := v.elems rg, reads := reads }).bind fun k =>
          ({ e with s := s }).pushed k
    else (e.k.queueMat { m with reads := reads }).bind fun k => e.pushed k) s

/-- CPLAN (R264). -/
def execCplan (t : Tok) (d a : Spec) (q : BitVec 3) (s : State) : Host.Outcome State Fault Refusal :=
  issue .x t none [d, a] (fun e =>
    let w := e.rd d
    let v := e.rd a
    let start := wbits v 15 0
    let last := wbits v 31 16
    let m := { stripOp e .cplan q.toNat (wbits v 39 32) with g0 := w, step := start, last := last, saw := some (e.s.sawNow e.id e.k0) }
    (Att.need (decide (start < last) && decide (wbits w 63 62 ≤ 1) && wbits w 61 48 == 0) 0x02).bind fun _ =>
    (if wbits w 47 0 % 16 ≠ 0 then Att.faultAt 0x07 (wbits w 47 0) else Att.ok ()).bind fun _ =>
    (Att.when_ ((List.range 4).all fun j => !e.k.bookBusy j)).bind fun _ =>
    (e.k.queueMat m).bind fun k => e.pushed k) s

/-! BDSET (R267, R268) -/

/-- BDSET of a bond register: one cycle after issue. -/
def execBdset (t : Tok) (n : BitVec 4) (a : Spec) (s : State) : Host.Outcome State Fault Refusal :=
  issue .x t none [a] (fun e =>
    let v := (e.rd a).toNat
    if v = 0 ∨ 4096 < v then .fault 0x02
    else e.done (e.k.fly .x (landAt e.s.cycle e.k0 .x 1) (.bond n.toNat) (e.rd a) false e.push)) s

/-- What the boundary forms wait for (R268, R421): every unit of the buffer full (07 R218: an operation that has named one before it joined
the buffer may still write it), no strip operation queued or in flight, no earlier form still to complete, no move in progress. -/
def Ctx.bndReady (k : Ctx) : Bool :=
  !k.unitsBusy (k.accCnt - k.bndUnits) k.accCnt &&
  !(k.mats.any fun m => m.kind == .tcon || m.kind == .cplan) && !(k.pends.any fun p => p.boundary) &&
  (match k.lt.hold with
    | .move _ _ => false
    | _ => true)

/-- A boundary form's pending access: the boundary that it writes, if it writes one, and the shape it leaves. -/
def Env.bndDone (e : Env) (k : Ctx) (p : Pend) (b : Option (List (W32 × W32))) (shape : Word) : Att Done :=
  e.done (k.addPend { p with bnd := some (b, shape), boundary := true, units := k.bndUnitList })

/-- BDSET.LD and .LDW: `per` region elements for each boundary element, `conv` the pairs and events. -/
def bdsetLoad (t : Tok) (d a : Spec) (accept : Nat → Bool) (per : Nat) (conv : Nat → List Nat → List ((W32 × W32) × BitVec 8))
    (s : State) : Host.Outcome State Fault Refusal :=
  issue .x t none [d, a] (fun e =>
    let w := (e.rd d).toNat
    let r := Rgn.ofWord (e.rd a)
    (Att.when_ e.k.bndReady).bind fun _ =>
    (e.k.checkRgn r accept).bind fun _ =>
    (Att.need (decide (1 ≤ w) && r.count % (per * w) == 0) 0x02).bind fun _ =>
    (Att.need (decide (r.count / per ≤ capacity e.k.lt.sys.bndcap)) 0x0B).bind fun _ =>
    e.access r.ranges [] fun k p =>
      let v := e.s.view e.id e.k0 .x
      let xs : List ((W32 × W32) × BitVec 8) := conv r.ty (v.elems r)
      let bs : List (W32 × W32) := xs.map fun (x : (W32 × W32) × BitVec 8) => x.1
      let ev := sumEvents (xs.map fun (x : (W32 × W32) × BitVec 8) => x.2)
      let s := if v.others.isEmpty then e.s else e.s.drew 524288
      ({ e with s := s }).bndDone k { p with events := ev, esz := typeBits r.ty } (some bs)
        (shapeWord (r.count / per / w) w k.lt.sys.bndshape)) s

/-- FP32 or BF16. -/
def bndTy (ty : Nat) : Bool := ty == 0 || ty == 1

/-- BDSET.LD (R267): each element converted exactly, the low word zero. -/
def execBdsetLd (t : Tok) (d a : Spec) (s : State) : Host.Outcome State Fault Refusal :=
  bdsetLoad t d a bndTy 1 (fun ty xs => xs.map fun x =>
    let (v, ev) := elemValue ty false x
    (((rne32 v).1, 0), ev)) s

/-- BDSET.LDW (R267): bits copied. -/
def execBdsetLdw (t : Tok) (d a : Spec) (s : State) : Host.Outcome State Fault Refusal :=
  bdsetLoad t d a (· == 0) 2 (fun _ xs => (pairsOf xs).map fun p => (p, 0)) s

/-- BDSET.ST and .STW. -/
def bdsetStore (t : Tok) (d : Spec) (accept : Nat → Bool) (per : Nat) (conv : Nat → W32 × W32 → List Nat × BitVec 8)
    (s : State) : Host.Outcome State Fault Refusal :=
  issue .x t none [d] (fun e =>
    let r := Rgn.ofWord (e.rd d)
    (Att.when_ e.k.bndReady).bind fun _ =>
    (e.k.checkRgn r accept).bind fun _ =>
    (Att.need (e.k.lt.sys.bndshape.getLsbD 48 && r.count == per * e.k.bnd.length) 0x02).bind fun _ =>
    if !(e.s.bndMarks e.id e.k).isEmpty then .consumed (e.s.bndMarks e.id e.k)
    else e.access [] r.ranges fun k p =>
      let outs := k.bnd.map (conv r.ty)
      let wr := r.writes (outs.flatMap fun (o : List Nat × BitVec 8) => o.1)
      let ev := sumEvents (outs.map fun (o : List Nat × BitVec 8) => o.2)
      e.done (k.addPend { p with writes := wr, events := ev, boundary := true, esz := typeBits r.ty })) s

/-- BDSET.ST (R267): hi + lo rounded as the value view of ACCRD (07 R239). -/
def execBdsetSt (t : Tok) (d : Spec) (s : State) : Host.Outcome State Fault Refusal :=
  bdsetStore t d bndTy 1 (fun ty w => accOut ty false false true false w) s

/-- BDSET.STW (R267): bits copied. -/
def execBdsetStw (t : Tok) (d : Spec) (s : State) : Host.Outcome State Fault Refusal :=
  bdsetStore t d (· == 0) 2 (fun _ w => ([w.1.toNat, w.2.toNat], 0)) s

/-- BDSET.ACK (R267): err and ecode cleared. -/
def execBdsetAck (t : Tok) (s : State) : Host.Outcome State Fault Refusal :=
  issue .x t none [] (fun e =>
    (Att.when_ e.k.bndReady).bind fun _ =>
    e.access [] [] fun k p => e.bndDone k p none (k.lt.sys.bndshape &&& 0x0001FFFFFFFFFFFF)) s

/-- BDSET.CLR (R267). -/
def execBdsetClr (t : Tok) (s : State) : Host.Outcome State Fault Refusal :=
  issue .x t none [] (fun e =>
    (Att.when_ e.k.bndReady).bind fun _ => e.access [] [] fun k p => e.bndDone k p (some []) 0) s

/-- Where the mark of an accumulator word stands after the boundary of a context has moved to the last `new` of its units, out of those from
`low` on (R253, 13 R385): the boundary's marks stay in the buffer, whose units' placement is not visible, and what else stood in the units
that leave or join it reads as zero. -/
def Ctx.markMoved (k : Ctx) (core low new : Nat) : Loc → Option Loc
  | .acc c i =>
    let u := i / 16384
    if c != core || u < k.accBase + low || k.accBase + k.accCnt ≤ u then some (.acc c i)
    else if u < k.accBase + k.accCnt - k.bndUnits || k.bnd.isEmpty then none
    else if k.accBase + k.accCnt - new ≤ u then some (.acc c i)
    else some (.acc c ((k.accBase + k.accCnt - 1) * 16384 + i % 16384))
  | l => some l

/-- BOUNDARY_MOVE_END (R253): sys.bndcap takes its new value, and units that leave or join the buffer read as zero. -/
def execBoundaryMoveEnd (ctx : Nat) (s : State) : Host.Outcome State Fault Refusal :=
  match s.ctx ctx with
  | none => .next s
  | some k =>
    match k.lt.hold with
    | .move till v =>
      if s.cycle < till then .next s else
      let n := Nat.max k.bndUnits (wbits v 3 0)
      let us := (List.range n).map fun j => k.accCnt - n + j
      let k := s.logUnits ctx k us
      let k := if k.preBnd.isNone then { k with preBnd := some k.bnd } else k
      let c := coreOf ctx
      let co := s.core c
      let gone (i : Nat) : Bool := us.any fun u => i / 16384 == k.accBase + u
      let s := { s.setCore c { co with acc := co.acc.filter fun p => !gone p.1 } with
        poison := (s.poison.filterMap (k.markMoved c (k.accCnt - n) (wbits v 3 0))).dedup }
      .next (s.setCtx ctx ((k.setSys { k.lt.sys with bndcap := v }).setLt { k.lt with sys := { k.lt.sys with bndcap := v }, hold := .none }))
    | _ => .next s

end Sys2Proof.Machine
end

