-- ==== Sys2Proof/Machine/Binding.lean ====
section
/-! DEFINITION. Binding (07 R230-R235, R448, 15 R418-R420): the arbiter of a core's matrix array, quantiser and CORDIC unit, the
dispatch of operations, their block boundaries and their completion. -/

namespace Sys2Proof.Machine

open Sys2Proof

/-! The operation at the head of each class -/

/-- Binding of the operation that heads a context's class. -/
def Ctx.headBind (k : Ctx) : UnitClass → Option Bind
  | .matrix => k.mats.head?.map (·.bind)
  | .quantiser => k.quants.head?.map (·.bind)
  | .cordic => k.crds.head?.map (·.bind)

/-- That binding replaced. -/
def Ctx.setHeadBind (k : Ctx) (cls : UnitClass) (b : Bind) : Ctx :=
  match cls with
  | .matrix => match k.mats with
    | m :: rest => { k with mats := { m with bind := b } :: rest }
    | [] => k
  | .quantiser => match k.quants with
    | m :: rest => { k with quants := { m with bind := b } :: rest }
    | [] => k
  | .cordic => match k.crds with
    | m :: rest => { k with crds := { m with bind := b } :: rest }
    | [] => k

/-- The arbiter of a class. -/
def Core.arb (c : Core) : UnitClass → Arb
  | .matrix => c.mat
  | .quantiser => c.quant
  | .cordic => c.cordic

/-- An arbiter's state replaced. -/
def State.setArb (s : State) (core : Nat) (cls : UnitClass) (a : Arb) : State :=
  let c := s.core core
  s.setCore core (match cls with
    | .matrix => { c with mat := a }
    | .quantiser => { c with quant := a }
    | .cordic => { c with cordic := a })

/-- The rank of a context, which decides (R232). -/
def State.rankOf (s : State) (id : Nat) : Nat := match s.ctx id with
  | some k => k.rank.toNat
  | none => 0

/-- Whether one context goes before another: by rank, then by the lower index (01 R29). -/
def State.before (s : State) (a b : Nat) : Bool := decide (s.rankOf b < s.rankOf a) || (s.rankOf a == s.rankOf b && decide (a < b))

/-- The first of some contexts in that order. -/
def State.best (s : State) (ids : List Nat) : Option Nat :=
  ids.foldl (fun acc i => match acc with
    | none => some i
    | some j => if s.before i j then some i else some j) none

/-- The contexts whose operation of a class runs on lanes of a core. -/
def State.onLanes (s : State) (core : Nat) (cls : UnitClass) : List Nat :=
  (s.ctxs.filter fun p => p.1 / 4 == core && (p.2.headBind cls).any fun b => b.dispatched && b.onLanes && !b.isOver).map (·.1)

/-- Point 2 of R232: a free array without a reservation is reserved for the best operation on lanes. -/
def State.reserveBest (s : State) (core : Nat) (cls : UnitClass) : State :=
  let a := (s.core core).arb cls
  if a.reserve.isNone then s.setArb core cls { a with reserve := s.best (s.onLanes core cls) } else s

/-- An operation that has reserved the array and started no block loses its reservation and runs on lanes (R232 point 1). -/
def State.displace (s : State) (core : Nat) (cls : UnitClass) : State :=
  match ((s.core core).arb cls).reserve with
  | none => s
  | some r =>
    match s.ctx r with
    | none => s
    | some k =>
      match k.headBind cls with
      | some b => if b.waiting then s.setCtx r (k.setHeadBind cls { b with waiting := false, onLanes := true }) else s
      | none => s

/-- Where a dispatching operation goes. -/
inductive BindTo where
  | array | lanes | reserve
  deriving DecidableEq, Repr

/-- Point 1 of R232 with R419, against the holder and the reservation as they stand. -/
def Arb.decide (a : Arb) (rank : Nat → Nat) (me : Nat) : BindTo :=
  match a.holder, a.reserve with
  | none, none => .array
  | none, some r => if rank r < rank me then .array else .lanes
  | some h, none => if rank me ≤ rank h then .lanes else .reserve
  | some h, some r => if rank me ≤ rank h ∨ rank me ≤ rank r then .lanes else .reserve

/-! Dispatch (R230) -/

/-- A context that stands on its core: resident, or ended with operations in flight (01 R27). -/
def Ctx.onCore (k : Ctx) : Bool := k.res == .resident || k.res == .ended

/-- Whether an operation is a strip operation. -/
def MatOp.isStrip (m : MatOp) : Bool := m.kind == .tcon || m.kind == .cplan

/-- Whether the head operation of a class meets the conditions of R230 (its step, for a strip, still to be read), its shares zeroed (01 R26).
What comes to meet them once the arbiters have decided in a cycle dispatches in the next (01 R29, 07 R448). -/
def State.mayDispatch (s : State) (k : Ctx) (cls : UnitClass) : Bool :=
  k.onCore && !s.decided && !(cls == .matrix && k.zeroing) && (match k.headBind cls with
    | none => false
    | some b => !b.dispatched && !b.isOver && decide (b.since ≤ s.cycle)) &&
  (match cls with
    | .matrix => match k.mats.head? with
      | none => false
      | some m =>
        decide (m.issued + 4 ≤ s.cycle) &&
        (match k.lt.hold with
          | .move _ _ => !m.isStrip
          | _ => true) &&
        !(k.pends.any fun p => decide (p.ord < m.ord) &&
          (if m.isStrip then p.boundary else (unitList m.acc m.cm).any p.units.contains))
    | .quantiser => k.quants.head?.any fun q => decide (q.issued + 4 ≤ s.cycle)
    | .cordic => k.crds.head?.any fun c => decide (c.issued + 4 ≤ s.cycle))

/-- Whether a strip's first step has been looked at: it is read, or has failed, or waits for its tile tags or a page walk, which it does inside
the engine once it has dispatched (05 R159). -/
def State.stepSeen (s : State) (id : Nat) (k : Ctx) (cls : UnitClass) : Bool :=
  match cls with
  | .matrix => k.mats.head?.any fun m => !m.isStrip || m.bind.loaded || m.fault != 0 || (match s.stripLoad id k m with
      | .wait none => true
      | _ => false)
  | _ => true

/-- Contexts of a core whose operation of a class may dispatch now. -/
def State.dispatching (s : State) (core : Nat) (cls : UnitClass) : List Nat :=
  (s.ctxs.filter fun p => p.1 / 4 == core && s.mayDispatch p.2 cls && s.stepSeen p.1 p.2 cls).map (·.1)

/-- Whether the array of a core is free of its last holder's claim or still held (R420): a holder whose operation is over, or has stopped
for a forced save (R235), or ended in its dispatch (R231), holds it to the end of its last cycle there. -/
def State.arraySettled (s : State) (core : Nat) (cls : UnitClass) : Bool :=
  match ((s.core core).arb cls).holder with
  | none => true
  | some h => match (s.ctx h).bind fun k => k.headBind cls with
    | some b => b.dispatched && !b.isOver || decide (s.cycle ≤ Nat.max b.ended b.since)
    | none => false

/-- The fault with which the head operation ends before it runs a block, if it does. -/
def State.headFault (s : State) (id : Nat) (k : Ctx) (cls : UnitClass) : Nat :=
  match cls with
  | .matrix => (k.mats.head?.map fun m => if m.isStrip || m.fault != 0 then m.fault else s.matFault id k m).getD 0
  | .quantiser => (k.quants.head?.map (·.fault)).getD 0
  | .cordic => (k.crds.head?.map (·.fault)).getD 0

/-- The head operation of the matrix class with a fault at the block or step it has reached. -/
def Ctx.failHead (k : Ctx) (fault : Nat) : Ctx :=
  match k.mats with
  | m :: rest => { k with mats := { m with fault := fault, findex := if m.isStrip then m.step else m.bind.blk } :: rest }
  | [] => k

/-- Cycles after the present one, less one, at which an operation ends that runs no further block: a step's checks take 8 cycles. -/
def Ctx.endDelay (k : Ctx) (cls : UnitClass) : Nat :=
  match cls, k.mats.head? with
  | .matrix, some m => if m.isStrip then 8 else 0
  | _, _ => 0

/-- The unit that an operation counts as bound to where it has run no block: 0 the dedicated one, 1 lanes. -/
def Bind.bound (b : Bind) (u : Nat) : Bind := if b.placed then b else { b with first := u, last := u }

/-- The dispatch of a context's head operation: the decision of R232, and its end where it has no block to run (R231, R422): an operation
that ends so holds in that cycle the array that it has bound to, and releases its reservation at once. R229 has the rows of MMAC and
the operands of block 0 checked before the first fold: the model judges them here, and again when the block starts [56]. -/
def State.dispatch (s : State) (id : Nat) (k : Ctx) (cls : UnitClass) (b : Bind) : State :=
  let core := coreOf id
  let a := (s.core core).arb cls
  let go := a.decide s.rankOf id
  let fault := s.headFault id k cls
  if fault ≠ 0 ∨ (b.loaded ∧ b.nblk ≤ b.blk) then
    let unit := if go = .lanes then 1 else 0
    let b := { b.bound unit with dispatched := true, isOver := true, since := s.cycle, ended := s.cycle + k.endDelay cls - 1 }
    let s := s.setCtx id ((if fault ≠ 0 ∧ cls = .matrix then k.failHead fault else k).setHeadBind cls b)
    match go with
    | .array => (s.displace core cls).setArb core cls ⟨some id, none⟩
    | .lanes => s
    | .reserve => ((s.displace core cls).setArb core cls { a with reserve := none }).reserveBest core cls
  else
    match go with
    | .array =>
      let s := s.displace core cls
      (s.setCtx id (k.setHeadBind cls { b with dispatched := true, waiting := false, onLanes := false })).setArb core cls ⟨some id, none⟩
    | .lanes => s.setCtx id (k.setHeadBind cls { b with dispatched := true, waiting := false, onLanes := true })
    | .reserve =>
      let s := s.displace core cls
      (s.setCtx id (k.setHeadBind cls { b with dispatched := true, waiting := true, onLanes := false })).setArb core cls
        { a with reserve := some id }

/-- Whether a context's head operation dispatches next: none that goes before it waits to be decided (R448 step 2). -/
def State.dispatchNext (s : State) (id : Nat) (k : Ctx) (cls : UnitClass) : Bool :=
  s.mayDispatch k cls && s.stepSeen id k cls && s.arraySettled (coreOf id) cls && s.best (s.dispatching (coreOf id) cls) == some id

/-- MATRIX_DISPATCH (R230, R232 point 1). -/
def execMatrixDispatch (ctx : Nat) (cls : UnitClass) (s : State) : Host.Outcome State Fault Refusal :=
  match s.ctx ctx with
  | none => .next s
  | some k =>
    match k.headBind cls with
    | none => .next s
    | some b => if s.dispatchNext ctx k cls then .next (s.dispatch ctx k cls b) else .next s

/-- ARRAY_FREE (R232 point 2, R420, R448 step 1): in the cycle after its holder's last block has ended, the array frees, and without
a reservation it is reserved for the best operation on lanes. -/
def execArrayFree (core : Nat) (cls : UnitClass) (s : State) : Host.Outcome State Fault Refusal :=
  let a := (s.core core).arb cls
  if a.holder.isNone || s.arraySettled core cls then .next s
  else .next ((s.setArb core cls { a with holder := none }).reserveBest core cls)

/-! Blocks -/

/-- Cycles of a block on the dedicated unit; none where the spec fixes none (the quantiser: 05 R180 gives a nominal time only). -/
def Ctx.blockCycles (k : Ctx) (cls : UnitClass) : Option Nat :=
  match cls with
  | .matrix => k.mats.head?.map fun m => if m.isStrip then (m.elems + 255) / 256 else m.dedicated
  | .quantiser => none
  | .cordic => k.crds.head?.map fun c => (c.iters + 1) / 2 + 4

/-- The present cycle is the last of the block under way, or a later one. -/
def Ctx.blockEnds (k : Ctx) (cls : UnitClass) (b : Bind) (cycle : Nat) : Bool :=
  match k.blockCycles cls with
  | some n => decide (b.since + (if b.onLanes then 32 * n else n) ≤ cycle + 1)
  | none => decide (b.since ≤ cycle)

/-- A block has ended: it is counted for its unit (R231). -/
def Bind.endBlock (b : Bind) (cycle : Nat) : Bind :=
  { b with
    running := false, ended := cycle, blk := b.blk + 1
    kded := if b.onLanes then b.kded else b.kded + 1
    klan := if b.onLanes then b.klan + 1 else b.klan }

/-- The unit on which a context's next block starts, once its last one has ended (R232, R448 step 3): the holder goes on unless a
newcomer waits for it; the operation that holds the reservation takes a free array, and one that waits for it starts nothing. -/
def Arb.nextUnit (a : Arb) (me : Nat) (waiting newcomer : Bool) : Option (Bool × Arb) :=
  if a.holder = some me then (if newcomer then some (true, { a with holder := none }) else some (false, a))
  else if a.reserve = some me then
    (if a.holder.isNone then some (false, ⟨some me, none⟩) else if waiting then none else some (true, a))
  else some (true, a)

/-- Whether the reservation of a class is held by an operation that waits for the array. -/
def State.newcomer (s : State) (core : Nat) (cls : UnitClass) : Bool :=
  match ((s.core core).arb cls).reserve with
  | none => false
  | some r => ((s.ctx r).bind fun k => k.headBind cls).any (·.waiting)

/-- Whether an operation has a block to start in this cycle. -/
def Bind.mayStart (b : Bind) (cycle : Nat) : Bool :=
  b.dispatched && !b.running && !b.isOver && b.loaded && decide (b.since ≤ cycle) && decide (b.blk < b.nblk) && (!b.placed || decide (b.ended < cycle))

/-- An operation that is over gives up what it holds of the array: a reservation always, and the array itself where `now` is set (an
operation ended by a check, whose last block ended before); the array is then decided under point 2 of R232. -/
def State.giveUp (s : State) (id : Nat) (cls : UnitClass) (now : Bool) : State :=
  let core := coreOf id
  let a := (s.core core).arb cls
  let mine := a.reserve == some id
  let a := { a with reserve := if mine then none else a.reserve, holder := if now && a.holder == some id then none else a.holder }
  let s := s.setArb core cls a
  if a.holder.isNone && (mine || now) then s.reserveBest core cls else s

/-- The fault with which an MMA, MMAT or MMAC ends before the block that it would start (R229). -/
def State.blockFault (s : State) (id : Nat) (k : Ctx) (cls : UnitClass) : Nat :=
  match cls, k.mats.head? with
  | .matrix, some m => if m.isStrip then 0 else s.matFault id k m
  | _, _ => 0

/-- The unit that a dispatched operation holds or waits for. -/
def State.unitOf (s : State) (id : Nat) (cls : UnitClass) : Nat :=
  let a := (s.core (coreOf id)).arb cls
  if a.holder = some id ∨ a.reserve = some id then 0 else 1

/-- The head operation ends before the block that it would start in this cycle. One whose last block has ended held the array to the end of
that block (15 R420); one that has run none ends with the array where it holds it (R229, R231). -/
def State.endAtBlock (s : State) (id : Nat) (k : Ctx) (cls : UnitClass) (b : Bind) (fault : Nat) : State :=
  if b.placed then (s.setCtx id ((k.failHead fault).setHeadBind cls { b with isOver := true })).giveUp id cls true else
  let b := { b.bound (s.unitOf id cls) with isOver := true, since := s.cycle, ended := s.cycle - 1 }
  (s.setCtx id ((k.failHead fault).setHeadBind cls b)).giveUp id cls false

/-- The next block of a context's operation started, if its unit is settled; consumed data marked since the last check ends the operation
instead (R229). -/
def State.startBlock (s : State) (id : Nat) (k : Ctx) (cls : UnitClass) (b : Bind) : State :=
  let core := coreOf id
  match ((s.core core).arb cls).nextUnit id b.waiting (s.newcomer core cls) with
  | none => s
  | some (lanes, a) =>
    let fault := s.blockFault id k cls
    if fault ≠ 0 then s.endAtBlock id k cls b fault else
    let u := if lanes then 1 else 0
    let lead := match cls, k.mats.head? with
      | .matrix, some m => if m.isStrip && b.blk == 0 then 8 else 0
      | _, _ => 0
    let b := { b with
      running := true, waiting := false, onLanes := lanes, placed := true, since := s.cycle + lead
      first := if b.placed then b.first else u, last := u
      changes := if b.placed && b.last != u then b.changes + 1 else b.changes }
    (s.setCtx id (k.setHeadBind cls b)).setArb core cls a

/-- An operation whose last block has ended will end at its next one, of consumed data marked meanwhile (R229): its end comes before the
decisions of the cycle, so that the array frees in the first of them (R448). -/
def State.failsNext (s : State) (id : Nat) (k : Ctx) (cls : UnitClass) : Bool :=
  k.onCore && (k.headBind cls).any fun b => b.placed && b.mayStart s.cycle && s.blockFault id k cls != 0

/-- That end. -/
def failNow (ctx : Nat) (cls : UnitClass) (s : State) : Host.Outcome State Fault Refusal :=
  match s.ctx ctx with
  | none => .next s
  | some k => match k.headBind cls with
    | none => .next s
    | some b => if s.failsNext ctx k cls then .next (s.endAtBlock ctx k cls b (s.blockFault ctx k cls)) else .next s

/-- A context whose forced save is under way: the head operation of each class that runs no block leaves its unit (R235); it
dispatches again after the restore. -/
def State.parkIfSaving (s : State) (id : Nat) : State :=
  [UnitClass.matrix, .quantiser, .cordic].foldl (fun s cls =>
    match s.ctx id with
    | none => s
    | some k =>
      match k.headBind cls with
      | some b =>
        if k.res == .saving && b.dispatched && !b.running && !b.isOver then
          (s.setCtx id (k.setHeadBind cls { b with dispatched := false, waiting := false, onLanes := false })).giveUp id cls false
        else s
      | none => s) s

/-- The block under way of the head matrix operation run: its effect, its count, and the end of the operation with its last block or
with a fault before the next (R229). -/
def State.runMat (s : State) (id : Nat) (k : Ctx) (m : MatOp) (rest : List MatOp) : State :=
  let k0 := { k with mats := rest }
  if m.isStrip then
    let (s, k1, m1) := s.stripRun id k0 m
    let b := m1.bind.endBlock s.cycle
    let stepped := m1.step != m.step
    let done := stepped && decide (m1.last ≤ m1.step)
    let b := { b with loaded := b.loaded && !stepped, isOver := done }
    let s := s.setCtx id { k1 with mats := { m1 with bind := b } :: rest }
    if done then s.giveUp id .matrix false else s
  else
    let (s, k1, m1) := s.matBlock id k0 m
    let b := m1.bind.endBlock s.cycle
    let k2 := { k1 with mats := { m1 with bind := { b with isOver := decide (b.nblk ≤ b.blk) } } :: rest }
    if b.nblk ≤ b.blk then (s.setCtx id k2).giveUp id .matrix false
    else
      let fault := s.matFault id k2 { m1 with bind := b }
      if fault = 0 then s.setCtx id k2
      else
        let k3 := (k2.failHead fault).setHeadBind .matrix { b with isOver := true }
        (s.setCtx id k3).giveUp id .matrix false

/-- The block under way of the head quantiser operation has run. -/
def State.runQuant (s : State) (id : Nat) (k : Ctx) (b : Bind) : State :=
  let b := b.endBlock s.cycle
  let done := decide (b.nblk ≤ b.blk)
  let s := s.setCtx id (k.setHeadBind .quantiser { b with isOver := done })
  if done then s.giveUp id .quantiser false else s

/-- The block under way of a cancelled operation ends, without effect, and the operation with it (13 R383). -/
def State.endCancelled (s : State) (id : Nat) (k : Ctx) (cls : UnitClass) (b : Bind) : State :=
  (s.setCtx id (k.setHeadBind cls { b with running := false, isOver := true, ended := s.cycle })).giveUp id cls false

/-- BLOCK_BOUNDARY (R228, R232, R448 step 3): the block under way ends in its last cycle; in the next, the following block starts on
the array or on lanes. A batch of the CORDIC class ends by CORDIC_BATCH. -/
def execBlockBoundary (ctx : Nat) (cls : UnitClass) (s : State) : Host.Outcome State Fault Refusal :=
  match s.ctx ctx with
  | none => .next s
  | some k =>
    match k.headBind cls with
    | none => .next s
    | some b =>
      if b.running then
        if !(k.onCore || k.res == .saving) || !k.blockEnds cls b s.cycle then .next s
        else if b.cancelled then .next (s.endCancelled ctx k cls b)
        else match cls, k.mats with
          | .matrix, m :: rest => .next ((s.runMat ctx k m rest).parkIfSaving ctx)
          | .quantiser, _ => .next ((s.runQuant ctx k b).parkIfSaving ctx)
          | _, _ => .next s
      else if k.onCore && b.mayStart s.cycle then .next (s.startBlock ctx k cls b)
      else .next s

/-- An operation that waited is admitted and reads its operands; poisoned data ends it with 0x13, at once where it has
dispatched. Where a tag has admitted it, its first block starts in the next cycle. -/
def quantNow (ctx : Nat) (s : State) : Host.Outcome State Fault Refusal :=
  match s.ctx ctx with
  | none => .next s
  | some k0 =>
    match s.quantReady k0 with
    | none => .next s
    | some (q, n, k) =>
      let a := k0.quantTags q
      let p := { (k.pends[n]?.getD (Pend.new k .x [])) with wtags := a.w, rtags := a.r, utags := a.u, saw := some (s.sawNow ctx k0) }
      let v := s.viewBy ctx k0 fun p => p.strm == .x && decide (p.ord < q.ord)
      let bad := s.spMarks ctx k (Rgn.ofWord q.src).ranges
      let (q, p) := if bad.isEmpty then q.fill p v else ({ q with waits := false, fault := 0x13 }, { p with bad := bad })
      let q := { q with bind := { q.bind with since := if a.isNone then s.cycle else s.cycle + 1 } }
      let done := !bad.isEmpty && q.bind.dispatched
      let q := if !done then q
        else { q with bind := { q.bind.bound (s.unitOf ctx .quantiser) with isOver := true, since := s.cycle, ended := s.cycle - 1 } }
      let s := (if v.others.isEmpty then s else s.drew 524288).setCtx ctx { k with pends := k.pends.set n p, quants := q :: k.quants.drop 1 }
      .next (if done then s.giveUp ctx .quantiser false else s)

/-! Strip steps -/

/-- A step of the head strip operation falls due: the operation may dispatch, or its last step has ended in an earlier cycle. -/
def State.stepDue (s : State) (k : Ctx) (m : MatOp) : Bool :=
  m.isStrip && !m.bind.loaded && m.fault == 0 && k.onCore && !k.zeroing &&
  (if m.bind.dispatched then !m.bind.running && !m.bind.isOver && decide (m.bind.ended < s.cycle) else s.mayDispatch k .matrix)

/-- STRIP_STEP (R259, R260): the next step of a strip operation is checked and its frame read; a step that fails sets err and ecode,
leaves the boundary as it was and ends the operation. -/
def execStripStep (ctx : Nat) (s : State) : Host.Outcome State Fault Refusal :=
  match s.ctx ctx with
  | none => .next s
  | some k =>
    match k.mats with
    | [] => .next s
    | m :: rest =>
      if !s.stepDue k m then .next s
      else match s.stripLoad ctx k m with
        | .wait q => .next (s.asks q)
        | .ok (k', m') =>
          let s := if m.kind == .cplan then s.drew (2 ^ 46) else s.drewStores k
          .next (s.setCtx ctx { k' with mats := m' :: rest })
        | .trap code _ _ _ _ _ =>
          let k := (k.upd m.ord fun k => k.setSys { k.lt.sys with bndshape := shapeErr k.lt.sys.bndshape code }).failHead code
          if m.bind.dispatched then
            let k := k.setHeadBind .matrix { m.bind.bound (s.unitOf ctx .matrix) with isOver := true, ended := s.cycle + 7 }
            .next ((s.setCtx ctx k).giveUp ctx .matrix true)
          else .next (s.setCtx ctx k)

/-! Completion -/

/-- An operation is over and four cycles have passed since its last block ended (R230). -/
def Bind.complete (b : Bind) (cycle : Nat) : Bool := b.isOver && decide (b.ended + 4 ≤ cycle)

/-- MATRIX_COMPLETE (R228, R230, R231, R237): the status word is posted, the barrier counts the member, events are added. A cancelled
operation only goes (13 R383), here and in the other classes. -/
def execMatrixComplete (ctx : Nat) (s : State) : Host.Outcome State Fault Refusal :=
  match s.ctx ctx with
  | none => .next s
  | some k =>
    match k.mats with
    | [] => .next s
    | m :: rest =>
      if !m.bind.complete s.cycle then .next s
      else if m.bind.cancelled then .next (s.setCtx ctx { k with mats := rest }) else
      let all := m.evs.foldl (· ||| ·) 0
      let flags := if m.isStrip then m.flags else flagBits m.intPath all
      let counted := if m.isStrip then m.counted else sumEvents m.evs
      let k := ({ k with mats := rest }.upd m.ord (·.endReads m.reads)).post m.ord .mx (statusWord m.bind m.tag flags m.fault m.cb false) [] []
      let k := k.upd m.ord fun k => k.setLt (k.lt.member m.cb m.fault m.findex m.tag [])
      .next ((s.setCtx ctx k).addEvents ctx m.ord counted)

/-- QUANTISER_COMPLETE (05 R177, R178): the results are written, in X's order, and VQUANT posts its status word. One whose command was
marked ends with 0x13 and writes nothing; VDEQ, which posts nothing, raises it in X [59]. -/
def execQuantiserComplete (ctx : Nat) (s : State) : Host.Outcome State Fault Refusal :=
  match s.ctx ctx with
  | none => .next s
  | some k =>
    match k.quants with
    | [] => .next s
    | q :: rest =>
      if q.bind.cancelled then .next (if q.bind.complete s.cycle then s.setCtx ctx { k with quants := rest } else s) else
      match (List.range k.pends.length).find? fun n => (k.pendFirst n).any fun p => p.ord == q.ord with
      | none => .next s
      | some n =>
        match k.pends[n]? with
        | none => .next s
        | some p =>
          if !q.bind.complete s.cycle then .next s else
          let k := { k with quants := rest }
          let p := if q.fault = 0 then p else { p with writes := [], events := Events.zero }
          let k := if q.post then k.post q.ord .mx (statusWord q.bind q.tag (if q.fault = 0 then q.flags else 0) q.fault 0 false) [] []
            else if q.fault = 0 then k
            else k.upd q.ord fun k => k.raise { asyncFault .x q.fault 0 0 0 s.cycle with locs := p.bad }
          .next (s.finishPend ctx k n p)

end Sys2Proof.Machine
end

