-- ==== Sys2Proof/Machine/Pronal.lean ====
section
/-! DEFINITION. The Pronal image (20 R441-R446, R449): its header, section table and tables read from the bytes of the file, and the launch
that they describe. -/

namespace Sys2Proof

/-- The kinds of a section that the loader maps (20 R444, R449): woven code, `.const` blocks, `.data` blocks, frames and plans. -/
inductive SectionKind where
  | code | const | data | strips
  deriving DecidableEq, Repr, Inhabited

/-- What a relocation writes (20 R445): a 64-bit address word, bits 47:0 of a frame word, a 22-bit lane offset of format B. -/
inductive RelocKind where
  | address | frame | lane
  deriving DecidableEq, Repr, Inhabited

/-- A relocation (20 R445): where in its section, the number of the section it points to, and the addend. -/
structure Reloc where
  offset : Nat
  target : Nat
  kind   : RelocKind
  addend : Int
  deriving DecidableEq, Repr, Inhabited

/-- A section of an image and where the loader places it (20 R444, R449): its number in the section table, the device virtual address of
its first byte, the alignment of that as a power of two, its contents, the first byte of them that is mapped, its relocations and pages. -/
structure Section where
  index  : Nat
  kind   : SectionKind
  va     : Nat
  align  : Nat
  bytes  : List Byte
  skip   : Nat
  relocs : List Reloc
  pages  : List PageMap
  deriving DecidableEq, Repr, Inhabited

/-- A parameter patch (20 R445): the launch word, and the number of the section and the offset whose address it receives. -/
structure Patch where
  word   : Nat
  target : Nat
  offset : Nat
  deriving DecidableEq, Repr, Inhabited

/-- A kernel to launch, as its image and the resident kernel describe it (20 R441-R446): its launch queue (12 R373), slice, tenant, level and
rank, entry line, code pages, spill count, declared pipes, counters and hardware tokens, launch values of the format table, bond registers
and codebooks, the transform section, the loop table, slots by context index, the sections to place and map, the parameter patches, and the
places of its contexts and, for a paired kernel, of its second copy (13 R390). -/
structure Launch where
  queue     : Nat
  slice     : Nat
  tenant    : Nat
  kernelLvl : Bool
  paired    : Bool
  rank      : BitVec 3
  entry     : Nat
  codeLo    : Nat
  codeHi    : Nat
  spill     : Nat
  pipes     : List Pipe
  ctrs      : List Ctr
  tokens    : List (Nat × TokenDecl)
  formats   : List Word
  bonds     : List Word
  books     : List (Nat × List (BitVec 16))
  transform : List W32
  loops     : List (LoopKind × Nat)
  slots     : List (Nat × Nat × Word)
  sections  : List Section
  patches   : List Patch
  places    : List Placement
  twins     : List Placement
  deriving DecidableEq, Repr, Inhabited

/-! Bytes -/

/-- The little-endian number of some bytes from an offset on. -/
def getNat (bs : List Byte) (off n : Nat) : Nat :=
  ((List.range n).map fun j => (bs.getD (off + j) 0).toNat * 2 ^ (8 * j)).sum

/-- The numbers of `n` bytes each, one after another, that fill some bytes. -/
def numbers (n : Nat) (bs : List Byte) : List Nat := (List.range (bs.length / n)).map fun j => getNat bs (n * j) n

/-! The header and the section table (R443, R444) -/

/-- An entry of the section table (R443). -/
structure SecEntry where
  kind  : Nat
  flags : Nat
  off   : Nat
  size  : Nat
  align : Nat
  deriving DecidableEq, Repr, Inhabited

/-- The section table of an image. -/
def secTable (f : List Byte) : List SecEntry :=
  (List.range (getNat f 0x08 2)).map fun j =>
    let o := getNat f 0x30 8 + 32 * j
    ⟨getNat f o 4, getNat f (o + 4) 4, getNat f (o + 8) 8, getNat f (o + 16) 8, getNat f (o + 24) 8⟩

/-- The contents of a section. -/
def SecEntry.bytes (e : SecEntry) (f : List Byte) : List Byte := (f.drop e.off).take e.size

/-- The contents of the section of a kind, empty where the image has none. -/
def secBytes (f : List Byte) (kind : Nat) : List Byte :=
  match (secTable f).find? fun e => e.kind == kind with
  | some e => e.bytes f
  | none => []

/-- The sections that the loader maps, by kind (R449). -/
def mappedKind : Nat → Option SectionKind
  | 0x05 => some .code
  | 0x0B => some .strips
  | 0x0D => some .const
  | 0x0E => some .data
  | _ => none

/-- The entries of those, each with its number. -/
def mappedEntries (f : List Byte) : List (Nat × SectionKind × SecEntry) :=
  ((secTable f).zipIdx).filterMap fun p => (mappedKind p.1.kind).map fun k => (p.2, k, p.1)

/-- The name in the header (R443): 1 to 32 characters, zero-padded to the end of its field; none where the field holds no such name. -/
def kernelName (f : List Byte) : Option (List Byte) :=
  let field := (f.drop 0x10).take 32
  let name := field.takeWhile (· != 0)
  if !name.isEmpty && (field.drop name.length).all (· == 0) then some name else none

/-- The header and the section table keep R443, R444 and R446: an image of version 1 with a name, its table and sections within the file, no reserved
kind, field or bit, no kind twice but that of relocations, each section of which follows the mapped section that it relocates [57]. -/
def tableOk (f : List Byte) : Bool :=
  let es := secTable f
  decide (64 ≤ f.length) && getNat f 0x00 4 == 0x4C4E5250 && getNat f 0x04 2 == 1 && getNat f 0x06 2 == 1 && getNat f 0x38 8 == 0 && (kernelName f).isSome &&
  decide (getNat f 0x30 8 + 32 * es.length ≤ f.length) &&
  es.all (fun e => decide (5 ≤ e.kind) && decide (e.kind ≤ 0x10) && e.flags == 0 && decide (e.off + e.size ≤ f.length)) &&
  decide ((es.map (·.kind)).filter (· != 0x0F)).Nodup &&
  (es.zipIdx).all fun p => p.1.kind != 0x0F || (decide (1 ≤ p.2) && (es[p.2 - 1]?).any fun e => (mappedKind e.kind).isSome)

/-! Entries of the tables (R445) -/

/-- A pipe that the synchronisation table declares. -/
def syncPipe (w : Nat) : Option Pipe := if w % 256 = 1 ∧ w / 65536 = 0 then [Pipe.cl, .cx, .lx, .xs, .xc, .sc][w / 256]? else none

/-- A token counter that it declares. -/
def syncCtr (w : Nat) : Option Ctr := if w % 256 = 2 ∧ w / 65536 = 0 then [Ctr.lx, .xl, .xs, .sx][w / 256]? else none

/-- A hardware token that it declares. -/
def syncToken (w : Nat) : Option (Nat × TokenDecl) :=
  if w % 256 = 3 ∧ w / 256 % 256 < 8 ∧ w / 65536 ≤ 1 then some (w / 256 % 256, if w / 65536 = 1 then .seqToCtx else .ctxToSeq) else none

/-- An entry of the loop table; none for the reserved kind or a reserved bit. -/
def loopEntry (w : Nat) : Option (LoopKind × Nat) :=
  if w / 2 ^ 34 ≠ 0 then none
  else match w / 2 ^ 32 with
    | 0 => some (.temporal, w % 2 ^ 32)
    | 1 => some (.cores, w % 2 ^ 32)
    | 2 => some (.dies, w % 2 ^ 32)
    | _ => none

/-- Codebook `n` of the codebook section: its entries where it is loaded at launch. -/
def bookEntry (bs : List Byte) (n : Nat) : Option (Nat × List (BitVec 16)) :=
  if getNat bs (40 * n + 32) 8 = 1 then some (n, (List.range 16).map fun j => BitVec.ofNat 16 (getNat bs (40 * n + 2 * j) 2)) else none

/-- The 16-byte entries of a table, each as its first and its second word. -/
def wordPairs (bs : List Byte) : List (Nat × Nat) :=
  (List.range (bs.length / 16)).map fun j => (getNat bs (16 * j) 8, getNat bs (16 * j + 8) 8)

/-- A relocation; none for a reserved kind or bit. -/
def relocEntry (w : Nat × Nat) : Option Reloc :=
  let kind : Option RelocKind := match w.1 / 2 ^ 40 with
    | 1 => some .address
    | 2 => some .frame
    | 3 => some .lane
    | _ => none
  kind.map fun k => ⟨w.1 % 2 ^ 32, w.1 / 2 ^ 32 % 256, k, if w.2 < 2 ^ 63 then w.2 else (w.2 : Int) - 2 ^ 64⟩

/-- A slot of the slot table: its context's index, its number, its value. -/
def slotEntry (w : Nat × Nat) : Nat × Nat × Word := (w.1 % 2 ^ 32, w.1 / 2 ^ 32 % 64, BitVec.ofNat 64 w.2)

/-- A parameter patch. -/
def patchEntry (w : Nat × Nat) : Patch := ⟨w.1, w.2 % 256, w.2 / 256⟩

/-- The tables keep R444 to R446: whole entries, and no reserved kind, field or bit. -/
def tablesOk (f : List Byte) : Bool :=
  let b := secBytes f
  decide ((b 0x06).length % 4 = 0) && decide ((b 0x07).length % 4 = 0) &&
  (numbers 4 (b 0x07)).all (fun w => (syncPipe w).isSome || (syncCtr w).isSome || (syncToken w).isSome) &&
  decide ((b 0x08).length % 8 = 0) && (numbers 8 (b 0x08)).all (fun w => (loopEntry w).isSome) &&
  ((b 0x09).length == 0 || (b 0x09).length == 128) &&
  ((b 0x0A).length == 0 || ((b 0x0A).length == 160 && (List.range 4).all fun n => decide (getNat (b 0x0A) (40 * n + 32) 8 ≤ 1))) &&
  ((b 0x0B).length == 0 || decide (32 ≤ (b 0x0B).length)) &&
  decide ((b 0x0C).length % 16 = 0) && (wordPairs (b 0x0C)).all (fun w => decide (w.1 < 2 ^ 38)) &&
  ((secTable f).filter fun e => e.kind == 0x0F).all (fun e => e.size % 16 == 0 && (wordPairs (e.bytes f)).all fun w => (relocEntry w).isSome) &&
  decide ((b 0x10).length % 16 = 0) && (wordPairs (b 0x10)).all fun w => decide (w.1 < 256)

/-- The relocations of the section with a number: those of the relocation section behind it [57]. -/
def relocsOf (f : List Byte) (n : Nat) : List Reloc :=
  match (secTable f)[n + 1]? with
  | some e => if e.kind = 0x0F then (wordPairs (e.bytes f)).filterMap relocEntry else []
  | none => []

/-- The sections that the loader maps, at the sites that it has chosen. The bond launch values at the head of the strips are not mapped
(R449). -/
def placedSections (f : List Byte) (sites : List Site) : List Section :=
  ((mappedEntries f).zip sites).map fun p =>
    { index := p.1.1, kind := p.1.2.1, va := p.2.va, align := p.1.2.2.align, bytes := p.1.2.2.bytes f
      skip := if p.1.2.1 = .strips then 32 else 0, relocs := relocsOf f p.1.1, pages := p.2.pages }

/-- The launch that an image and the resident kernel describe; none where the image breaks R443 to R446. -/
def LaunchRequest.read (q : LaunchRequest) : Option Launch :=
  let f := q.file
  if !tableOk f || !tablesOk f || q.sites.length != (mappedEntries f).length then none
  else
    let secs := placedSections f q.sites
    let code : Section := (secs.find? fun c => c.kind == .code).getD default
    let sync := numbers 4 (secBytes f 0x07)
    some
      { queue := q.queue, slice := q.slice, tenant := q.tenant, kernelLvl := q.kernelLvl, paired := q.paired, rank := q.rank
        entry := code.va + getNat f 0x0C 4, codeLo := code.va, codeHi := code.va + code.bytes.length, spill := getNat f 0x0A 2
        pipes := sync.filterMap syncPipe, ctrs := sync.filterMap syncCtr, tokens := sync.filterMap syncToken
        formats := (numbers 8 (secBytes f 0x09)).map (BitVec.ofNat 64)
        bonds := (numbers 2 ((secBytes f 0x0B).take 32)).map (BitVec.ofNat 64)
        books := (List.range 4).filterMap (bookEntry (secBytes f 0x0A))
        transform := (numbers 4 (secBytes f 0x06)).map (BitVec.ofNat 32)
        loops := (numbers 8 (secBytes f 0x08)).filterMap loopEntry
        slots := (wordPairs (secBytes f 0x0C)).map slotEntry
        sections := secs, patches := (wordPairs (secBytes f 0x10)).map patchEntry
        places := q.places, twins := q.twins }

/-- The slots that the image gives the context of an index (19 R434). -/
def Launch.slotsOf (l : Launch) (n : Nat) : List (Nat × Word) := (l.slots.filter fun p => p.1 == n).map (·.2)

end Sys2Proof
end

