-- ==== Sys2Proof/Machine/Codec.lean ====
section
/-! DEFINITION. The boundary codec (09 R295-R297). -/

namespace Sys2Proof.Machine

/-- Zeros at the head of a byte string, up to a cap. -/
def zeroRun : Nat → List Byte → Nat
  | n + 1, b :: rest => if b = 0 then 1 + zeroRun n rest else 0
  | _, _ => 0

/-- Whether two zeros stand at the head. -/
def twoZeros : List Byte → Bool
  | a :: b :: _ => a == 0 && b == 0
  | _ => false

/-- Bytes from the head to the next pair of zeros or to the end, up to a cap. -/
def literalRun : Nat → List Byte → Nat
  | n + 1, b :: rest => if twoZeros (b :: rest) then 0 else 1 + literalRun n rest
  | _, _ => 0

/-- The tokens of a byte string (R296). Fuel: its length. -/
def reduceTokens : Nat → List Byte → List Byte
  | 0, _ => []
  | _, [] => []
  | fuel + 1, b :: rest =>
    if twoZeros (b :: rest) then
      let l := zeroRun 129 (b :: rest)
      BitVec.ofNat 8 (0x7E + l) :: reduceTokens fuel ((b :: rest).drop l)
    else
      let c := literalRun 128 (b :: rest)
      BitVec.ofNat 8 (c - 1) :: ((b :: rest).take c ++ reduceTokens fuel ((b :: rest).drop c))

/-- A block of `d` bytes from its original bytes (R295, R296): stored raw when the tokens save nothing. -/
def reduceBlock (d : Nat) (bs : List Byte) : List Byte :=
  let s := bs.length
  let ts := reduceTokens s bs
  let raw := decide (s ≤ ts.length)
  let body := if raw then bs else ts
  let p := body.length
  leBytes 8 (s + p * 2 ^ 32 + (if raw then 2 ^ 56 else 0)) ++ body ++ List.replicate (d - 8 - p) 0

/-- The bytes that tokens produce; none where a token runs past their end. Fuel: their length. -/
def enlargeTokens : Nat → List Byte → Option (List Byte)
  | _, [] => some []
  | 0, _ => none
  | fuel + 1, t :: rest =>
    if 0x80 ≤ t.toNat then (enlargeTokens fuel rest).map fun out => List.replicate (t.toNat - 0x7E) 0 ++ out
    else
      let c := t.toNat + 1
      if rest.length < c then none else (enlargeTokens fuel (rest.drop c)).map fun out => rest.take c ++ out

/-- The original bytes of a block of declared size `s`, when its header and tokens keep the rules of R297. -/
def enlargeBlock (s : Nat) (block : List Byte) : Option (List Byte) :=
  let h := leNat (block.take 8)
  let p := h / 2 ^ 32 % 2 ^ 24
  let raw := h / 2 ^ 56 % 2 == 1
  let body := (block.drop 8).take p
  if h % 2 ^ 32 ≠ s ∨ block.length < 8 + p ∨ h / 2 ^ 57 ≠ 0 then none
  else if raw then (if p = s then some body else none)
  else match enlargeTokens p body with
    | some out => if out.length = s then some out else none
    | none => none

end Sys2Proof.Machine
end

