-- ==== Sys2Proof/Machine/Cordic.lean ====
section
/-! DEFINITION. The CORDIC unit (09 R269-R280) and codebook loads (R281). -/

namespace Sys2Proof.Machine

open Sys2Proof

/-! Constants: the values of the formulae of R274, each rounded with ties to even -/

/-- rnd(π × 2^37). -/
def cordicPi1 : Int := 431777206545

/-- rnd(π/2 × 2^37). -/
def cordicPi2 : Int := 215888603272

/-- atn[s], s = 0 to 39. -/
def cordicAtn : List Int :=
  [107944301636, 63723242161, 33669611083, 17091220310, 8578775923, 4293570013, 2147308911, 1073719979] ++
  [536868181, 268435115, 134217685, 67108859, 33554431, 16777216, 8388608, 4194304] ++
  [2097152, 1048576, 524288, 262144, 131072, 65536, 32768, 16384] ++
  [8192, 4096, 2048, 1024, 512, 256, 128, 64] ++
  [32, 16, 8, 4, 2, 1, 0, 0]

/-- ath[s], s = 1 to 40; entry 0 is no shift. -/
def cordicAth : List Int :=
  [0, 75496061613, 35103669569, 17270196008, 8601145690, 4296366217, 2147658436, 1073763670] ++
  [536873643, 268435797, 134217771, 67108869, 33554433, 16777216, 8388608, 4194304] ++
  [2097152, 1048576, 524288, 262144, 131072, 65536, 32768, 16384] ++
  [8192, 4096, 2048, 1024, 512, 256, 128, 64] ++
  [32, 16, 8, 4, 2, 1, 1, 0] ++
  [0]

/-- k[iters] of the circular functions, iters = 1 to 40. -/
def cordicKc : List Int :=
  [194368031998, 173848052881, 168657384667, 167354991549, 167029080838, 166947583355, 166927207742, 166922113761] ++
  [166920840261, 166920521886, 166920442292, 166920422394, 166920417419, 166920416175, 166920415864, 166920415787] ++
  [166920415767, 166920415762, 166920415761, 166920415761, 166920415761, 166920415761, 166920415761, 166920415761] ++
  [166920415761, 166920415761, 166920415761, 166920415761, 166920415761, 166920415761, 166920415761, 166920415761] ++
  [166920415761, 166920415761, 166920415761, 166920415761, 166920415761, 166920415761, 166920415761, 166920415761]

/-- k[iters] of the hyperbolic functions, iters = 1 to 40. -/
def cordicKh : List Int :=
  [317401667137, 327811032234, 330402464120, 331049678186, 331698160058, 331860240771, 331900758474, 331910887745] ++
  [331913420053, 331914053129, 331914211398, 331914250966, 331914260858, 331914263330, 331914265803, 331914266422] ++
  [331914266576, 331914266615, 331914266625, 331914266627, 331914266628, 331914266628, 331914266628, 331914266628] ++
  [331914266628, 331914266628, 331914266628, 331914266628, 331914266628, 331914266628, 331914266628, 331914266628] ++
  [331914266628, 331914266628, 331914266628, 331914266628, 331914266628, 331914266628, 331914266628, 331914266628]

/-- Hyperbolic shift(j): 4 and 13 appear twice. -/
def hypShift (j : Nat) : Nat := if j ≤ 3 then j + 1 else if j ≤ 13 then j else j - 1

/-! One element (R274-R276) -/

/-- The operations by func. -/
inductive CrdFn where
  | rot | vec | hrot | hvec | lin
  deriving DecidableEq, Repr

/-- The operation of a func. -/
def CrdFn.byNumber : Nat → CrdFn
  | 0 => .rot
  | 1 => .vec
  | 2 => .hrot
  | 3 => .hvec
  | _ => .lin

/-- Whether s2 is used. -/
def CrdFn.usesZ (f : CrdFn) : Bool := f == .rot || f == .hrot

/-- A finite value times 2^k, rounded to an integer with ties to even. -/
def rndScaled (x : Ex) (k : Int) : Int :=
  match x with
  | .fin neg m e => (Ex.toInt .rne neg m (e + k)).1
  | _ => 0

/-- The smallest e with |x| < 2^e, for a nonzero value. -/
def topOf (x : Ex) : Option Int :=
  match x with
  | .fin _ m e => if m = 0 then none else some (e + bitLen m)
  | _ => none

/-- Internal values of one element. -/
structure Xyz where
  x : Int
  y : Int
  z : Int

/-- One iteration (R274); all updates read the values before it. -/
def cordicStep (f : CrdFn) (j : Nat) (v : Xyz) : Xyz :=
  let s := if f = .hrot ∨ f = .hvec then hypShift j else j
  let dd : Int := match f with
    | .rot => if 0 ≤ v.z then 1 else -1
    | .hrot => if 0 ≤ v.z then 1 else -1
    | .vec => if v.y < 0 then 1 else -1
    | .hvec => if v.y < 0 then 1 else -1
    | .lin => if (decide (0 ≤ v.y)) == (decide (0 ≤ v.x)) then -1 else 1
  let xs := v.x / 2 ^ s
  let ys := v.y / 2 ^ s
  match f with
  | .lin => ⟨v.x, v.y + dd * xs, v.z - dd * (if s ≤ 37 then 2 ^ (37 - s) else 0)⟩
  | .rot => ⟨v.x - dd * ys, v.y + dd * xs, v.z - dd * cordicAtn.getD s 0⟩
  | .vec => ⟨v.x - dd * ys, v.y + dd * xs, v.z - dd * cordicAtn.getD s 0⟩
  | _ => ⟨v.x + dd * ys, v.y + dd * xs, v.z - dd * cordicAth.getD s 0⟩

/-- The start of the iteration: the quarter-turn pre-rotation of ROT, the half-turn of VEC. -/
def cordicPre (f : CrdFn) (v : Xyz) : Xyz :=
  match f with
  | .rot =>
    let v : Xyz := if cordicPi2 < v.z then ⟨-v.y, v.x, v.z - cordicPi2⟩ else v
    if v.z < -cordicPi2 then ⟨v.y, -v.x, v.z + cordicPi2⟩ else v
  | .vec => if v.x < 0 then ⟨-v.x, -v.y, if 0 ≤ v.y then cordicPi1 else -cordicPi1⟩ else v
  | _ => v

/-- An exact value m × 2^e of an integer m. -/
def scaledEx (m : Int) (e : Int) : Ex := .fin (decide (m < 0)) m.natAbs e

/-- The exact quotient y / x in units of 2^-37: numerator and denominator. -/
def quotient37 (x y : Ex) : Int × Nat :=
  match x, y with
  | .fin nx mx ex, .fin ny my ey =>
    let sh : Int := ey - ex + 37
    let n : Int := if nx == ny then my else -(my : Int)
    (n * 2 ^ sh.toNat, mx * 2 ^ (-sh).toNat)
  | _, _ => (0, 1)

/-- The internal quotient of LIN with 39 or 40 iterations: an integer within the bound of R276, (2^(38 - iters) + 1/2) units of 2^-37,
else free. -/
def linQuotient (iters : Nat) (x y : Ex) : Int :=
  let (n, d) := quotient37 x y
  let f := n / d
  let near := [f, f + 1, f - 1].filter fun c => decide (4 * (c * d - n).natAbs ≤ d * (if iters = 39 then 4 else 3))
  near.getD (Config.linPick iters n d % near.length) f

/-- The exact outputs of one element, by the steps of R274. Where their truncations pass the bound that R276 states, as they can with many
iterations, the model follows the steps [25]. -/
def cordicRun (f : CrdFn) (iters : Nat) (x y z : Ex) : Ex × Ex :=
  let e : Int := match f with
    | .lin => (topOf x).getD 0
    | _ => match topOf x, topOf y with
      | some a, some b => if a ≤ b then b else a
      | some a, none => a
      | none, some b => b
      | none, none => 0
  let v0 : Xyz := cordicPre f ⟨rndScaled x (37 - e), rndScaled y (37 - e), if f.usesZ then rndScaled z 37 else 0⟩
  let v := (List.range iters).foldl (fun v j => cordicStep f j v) v0
  let k := (if f = .hrot ∨ f = .hvec then cordicKh else cordicKc).getD (iters - 1) 0
  let byK (a : Int) : Int := rndScaled (scaledEx (a * k) 0) (-38)
  match f with
  | .rot => (scaledEx (byK v.x) (e - 37), scaledEx (byK v.y) (e - 37))
  | .hrot => (scaledEx (byK v.x) (e - 37), scaledEx (byK v.y) (e - 37))
  | .lin => (scaledEx (if iters ≤ 38 then v.z else linQuotient iters x y) (-37), .fin false 0 0)
  | _ => (scaledEx (byK v.x) (e - 37), scaledEx v.z (-37))

/-- a ≤ b, neither being a NaN. -/
def Ex.le (a b : Ex) : Bool := a.lt b || a.eq b

/-- The range column of R271. The greatest FP32 value that is not above π is 0x40490FDA. -/
def crdInRange (f : CrdFn) (x y z : Ex) : Bool :=
  match f with
  | .rot => z.abs.le (fp32.decode 0x40490FDA)
  | .vec => true
  | .hrot => z.abs.le (.fin false 1 0)
  | .hvec => (Ex.fin false 0 0).lt x && y.abs.le (Ex.mul (.fin false 3 (-2)) x).1
  | .lin => !x.isZero && y.abs.lt (Ex.mul (.fin false 2 0) x.abs).1

/-- One element (R275, R276): the FP32 encodings of its outputs, with the events of each, and the events of the element itself. -/
def crdElem (f : CrdFn) (iters : Nat) (mode : RM) (flush : Bool) (xe ye ze : Nat) :
    (Nat × BitVec 8) × (Nat × BitVec 8) × BitVec 8 :=
  let x := (fp32.read flush xe).1
  let y := (fp32.read flush ye).1
  let z := if f.usesZ then (fp32.read flush ze).1 else .fin false 0 0
  let nan := ((fp32.nan, (0 : BitVec 8)), (fp32.nan, (0 : BitVec 8)))
  if x.isNan || y.isNan || z.isNan then (nan.1, nan.2, evNan)
  else if x.isInf || y.isInf || z.isInf then (nan.1, nan.2, evInvalid)
  else if !crdInRange f x y z then (nan.1, nan.2, evCordic)
  else
    let (a, b) := cordicRun f iters x y z
    (fp32.round mode flush false a false, fp32.round mode flush false b false, 0)

/-! CRD at issue (R270-R273) -/

/-- A source's descriptor: FP32, of count n or 1. -/
def Ctx.checkCrdSrc (k : Ctx) (r : Rgn) (n : Nat) : Att Unit := k.checkSrc r (· == 0) true n

/-- CRD of operation number `func`. -/
def crd (func : Nat) (t : Tok) (d a b : Spec) (s : State) : Host.Outcome State Fault Refusal :=
  let z := (CrdFn.byNumber func).usesZ
  issue .x t none ([d, d + 1, a, a + 1] ++ (if z then [a + 2] else []) ++ [b]) (fun e =>
    let c := e.rd b
    let iters := wbits c 5 0
    let d1 := Rgn.ofWord (e.rd (d + 1))
    let n := (Rgn.ofWord (e.rd d)).count
    (e.k.checkRgn (Rgn.ofWord (e.rd d)) (· == 0)).bind fun _ =>
    (e.k.checkRgn d1 (fun ty => ty == 0 || d1.count == 0)).bind fun _ =>
    (Att.need (d1.count == 0 || (d1.count == n && func != 4)) 0x02).bind fun _ =>
    (e.k.checkCrdSrc (Rgn.ofWord (e.rd a)) n).bind fun _ =>
    (e.k.checkCrdSrc (Rgn.ofWord (e.rd (a + 1))) n).bind fun _ =>
    (if z then e.k.checkCrdSrc (Rgn.ofWord (e.rd (a + 2))) n else .ok ()).bind fun _ =>
    (Att.need (decide (4 ≤ iters) && decide (iters ≤ 40)) 0x02).bind fun _ =>
    (e.k.reserve .cr).bind fun k =>
    let op : CrdOp := {
      issued := e.s.cycle, ord := k.lt.ord, func := func, d0 := e.rd d, d1 := e.rd (d + 1), s0 := e.rd a, s1 := e.rd (a + 1)
      s2 := if z then e.rd (a + 2) else 0, iters := iters, tag := wbits c 15 8, fpctl := k.lt.sys.fpctl, flags := 0, range := false
      counted := Events.zero, fault := 0, admitted := false, wtags := [], rtags := [], utags := [], ahead := none, bind := Bind.new ((n + 127) / 128) true }
    e.pushed ({ k.setLt { k.lt with ord := k.lt.ord + 1 } with crds := k.crds ++ [op] })) s

/-- CRD ROT (R274). -/
def execCrdRot (t : Tok) (d a b : Spec) (s : State) : Host.Outcome State Fault Refusal := crd 0 t d a b s

/-- CRD VEC (R274). -/
def execCrdVec (t : Tok) (d a b : Spec) (s : State) : Host.Outcome State Fault Refusal := crd 1 t d a b s

/-- CRD HROT (R274). -/
def execCrdHrot (t : Tok) (d a b : Spec) (s : State) : Host.Outcome State Fault Refusal := crd 2 t d a b s

/-- CRD HVEC (R274). -/
def execCrdHvec (t : Tok) (d a b : Spec) (s : State) : Host.Outcome State Fault Refusal := crd 3 t d a b s

/-- CRD LIN (R274). -/
def execCrdLin (t : Tok) (d a b : Spec) (s : State) : Host.Outcome State Fault Refusal := crd 4 t d a b s

/-! Batches (R277, R279) -/

/-- The regions that an operation reads. -/
def CrdOp.sources (c : CrdOp) : List Rgn :=
  ([c.s0, c.s1] ++ (if (CrdFn.byNumber c.func).usesZ then [c.s2] else [])).map Rgn.ofWord

/-- The regions that it writes. -/
def CrdOp.dests (c : CrdOp) : List Rgn := ([c.d0, c.d1].map Rgn.ofWord).filter fun r => r.count != 0

/-- Element number k of a source, one of count 1 serving every k (R162). -/
def Rgn.srcOff (r : Rgn) (k : Nat) : Nat := r.off (if r.count = 1 then 0 else k)

/-- The elements of batch `b` of an operation. -/
def CrdOp.batch (c : CrdOp) (b : Nat) : List Nat :=
  ((List.range 128).map fun j => 128 * b + j).filter fun k => k < (Rgn.ofWord c.d0).count

/-- One batch computed from a view: its writes, d0 before d1 within each element, the events of each element and whether one
counted CORDIC range. -/
def CrdOp.runBatch (c : CrdOp) (v : View) (ks : List Nat) : List (Nat × Byte × Byte) × List (BitVec 8) :=
  let f := CrdFn.byNumber c.func
  let src := c.sources
  let get (j k : Nat) : Nat := match src[j]? with
    | some r => leNat ((v.at_ j).bytes k (r.srcOff k) 4)
    | none => 0
  let d0 := Rgn.ofWord c.d0
  let d1 := Rgn.ofWord c.d1
  let rs : List (Nat × ((Nat × BitVec 8) × (Nat × BitVec 8) × BitVec 8)) := ks.map fun k =>
    (k, crdElem f c.iters (RM.byNumber (wbits c.fpctl 1 0)) (c.fpctl.getLsbD 2) (get 0 k) (get 1 k) (get 2 k))
  (rs.flatMap fun r => d0.write r.1 r.2.1.1 ++ (if d1.count = 0 then [] else d1.write r.1 r.2.2.1.1),
    rs.map fun r => r.2.2.2 ||| r.2.1.2 ||| (if d1.count = 0 then 0 else r.2.2.1.2))

/-- The ranges of one batch: what it reads, and what it writes. -/
def CrdOp.batchRanges (c : CrdOp) (ks : List Nat) : List (Nat × Nat) × List (Nat × Nat) :=
  (c.sources.flatMap fun r => ks.map fun j => (r.srcOff j, r.srcOff j + 4), c.dests.flatMap fun r => ks.map fun j => (r.off j, r.off j + 4))

/-- The tags that admit an operation now: all that govern one of its bytes, at its first batch that touches the range of one (05 R158,
R159) [61]. -/
def Ctx.crdTags (k : Ctx) (c : CrdOp) : Admit :=
  let (rs, ws) := c.batchRanges (c.batch c.bind.blk)
  if c.admitted || (k.governing rs ws).isNone then ⟨[], [], []⟩
  else k.governing (c.sources.flatMap Rgn.ranges) (c.dests.flatMap Rgn.ranges)

/-- The batch under way of the head operation has not been read and may be: X's earlier region accesses are complete (R280), the shares
are zeroed, and its tags admit it; the context as admitted. -/
def State.batchReady (s : State) (k : Ctx) (c : CrdOp) : Option Ctx :=
  if !c.bind.running || c.bind.cancelled || c.ahead.isSome || k.zeroing || s.cycle < c.bind.since ||
    !(k.res == .resident || k.res == .ended || k.res == .saving) || k.pends.any fun p => p.strm == .x && decide (p.ord < c.ord) then none
  else
    let a := k.crdTags c
    match k.admitFor c.ord a with
    | .ok k' => if s.engineTurn a then some k' else none
    | _ => none

/-- The batch under way reads its sources (R277). Its writes are under way until it ends, and unordered accesses see any part of them (05
R154). -/
def batchNow (ctx : Nat) (s : State) : Host.Outcome State Fault Refusal :=
  match s.ctx ctx with
  | none => .next s
  | some k0 =>
    match k0.crds with
    | [] => .next s
    | c :: rest =>
      match s.batchReady k0 c with
      | none => .next s
      | some k =>
        let a := k0.crdTags c
        let ks := c.batch c.bind.blk
        let v := s.view ctx k0 .x
        let (ws, evs) := c.runBatch v ks
        let bad := !(s.spMarks ctx k (c.batchRanges ks).1).isEmpty
        let c := { c with
          admitted := c.admitted || !a.isNone, wtags := c.wtags ++ a.w, rtags := c.rtags ++ a.r, utags := c.utags ++ a.u
          ahead := some ⟨if bad then [] else ws, sumEvents evs, evs.foldl (· ||| ·) 0, bad, s.sawNow ctx k0⟩ }
        .next ((if v.others.isEmpty then s else s.drew 524288).setCtx ctx { k with crds := c :: rest })

/-- The batch under way of an operation, which has read its sources, ends by the present cycle. -/
def State.batchDue (s : State) (k : Ctx) (c : CrdOp) : Bool :=
  c.bind.running && (k.onCore || k.res == .saving) && !c.bind.cancelled && k.blockEnds .cordic c.bind s.cycle && c.ahead.isSome

/-- CORDIC_BATCH (R277, R279): in its last cycle a batch has written its outputs; one that has consumed poisoned data writes nothing and
ends the operation. -/
def execCordicBatch (ctx : Nat) (s : State) : Host.Outcome State Fault Refusal :=
  match s.ctx ctx with
  | none => .next s
  | some k =>
    match k.crds with
    | [] => .next s
    | c :: rest =>
      if !(s.batchDue k c) then .next s
      else match c.ahead with
        | none => .next s
        | some b =>
          let c := { c with ahead := none }
          if b.bad then
            let c := { c with fault := 0x13, bind := { c.bind with running := false, isOver := true, ended := s.cycle } }
            .next ((s.setCtx ctx { k with crds := c :: rest }).giveUp ctx .cordic false)
          else
            let bd := c.bind.endBlock s.cycle
            let done := decide (bd.nblk ≤ bd.blk)
            let c := { c with
              bind := { bd with isOver := done }, counted := c.counted.add b.counted
              flags := c.flags ||| flagBits false b.all, range := c.range || b.all.getLsbD 6 }
            let k := s.noteWrites ctx { k with crds := c :: rest } c.ord none (32, b.writes)
            let s := (s.setCtx ctx k).writeSp ctx k b.writes
            .next ((if done then s.giveUp ctx .cordic false else s).parkIfSaving ctx)

/-- CORDIC_COMPLETE (R278, R279): the status word is posted to ret.cr and the events are added. -/
def execCordicComplete (ctx : Nat) (s : State) : Host.Outcome State Fault Refusal :=
  match s.ctx ctx with
  | none => .next s
  | some k =>
    match k.crds with
    | [] => .next s
    | c :: rest =>
      if !c.bind.complete s.cycle then .next s
      else if c.bind.cancelled then .next (s.setCtx ctx { k with crds := rest }) else
      let k := ({ k with crds := rest }.upd c.ord (·.leaveTags c.wtags c.rtags)).post c.ord .cr
        (statusWord c.bind c.tag c.flags c.fault 0 c.range) [] []
      .next ((s.setCtx ctx k).addEvents ctx c.ord c.counted)

/-! Codebooks (R281) -/

/-- CBLD (R281): the new entries stand from the cycle after it completes. -/
def execCbld (t : Tok) (n : BitVec 2) (a : Spec) (s : State) : Host.Outcome State Fault Refusal :=
  issue .x t none [a] (fun e =>
    let r := Rgn.ofWord (e.rd a)
    (Att.when_ (!e.k.bookBusy n.toNat)).bind fun _ =>
    (e.k.checkRgn r (· == 1)).bind fun _ =>
    (Att.need (r.count == 16) 0x02).bind fun _ =>
    e.access r.ranges [] fun k p =>
      let v := e.s.view e.id e.k0 .x
      let s := if v.others.isEmpty then e.s else e.s.drew 524288
      ({ e with s := s }).done (k.addPend { p with book := some (n.toNat, true, (v.elems r).map (BitVec.ofNat 16)), esz := 16 })) s

/-- CBLD.CLR (R281). -/
def execCbldClr (t : Tok) (n : BitVec 2) (s : State) : Host.Outcome State Fault Refusal :=
  issue .x t none [] (fun e =>
    (Att.when_ (!e.k.bookBusy n.toNat)).bind fun _ =>
    e.access [] [] fun k p => e.done (k.addPend { p with book := some (n.toNat, false, List.replicate 16 0), esz := 16 })) s

end Sys2Proof.Machine
end

