-- ==== Sys2Proof/Machine/Sequencer.lean ====
section
/-! DEFINITION. The transform sequencer (09 R282-R294, R298): XFGO, the start of a run, its words and its end. -/

namespace Sys2Proof.Machine

open Sys2Proof

/-! Runs -/

/-- The run of a core replaced. -/
def State.setRun (s : State) (core : Nat) (r : Option SeqRun) : State :=
  let c := s.core core
  s.setCore core { c with seq := { c.seq with run := r } }

/-- Bytes written at an address of the slice's SRAM by a run, which it publishes at its end. -/
def SeqRun.write (r : SeqRun) (addr : Nat) (bs : List Byte) : SeqRun :=
  { r with out := (bs.zipIdx).foldl (fun m b => Sparse.set m (addr + b.2) b.1) r.out }

/-- What a run has written to cluster SRAM is published (11 R337), with the signature of a paired context (13 R391). -/
def State.publishRun (s : State) (k : Ctx) (r : SeqRun) : State × Ctx :=
  (s.sramPut (r.out.flatMap fun w => s.sramWrites k.slice w.1 [w.2]), k.signBytes r.out)

/-- A run ends (R285, R286): its writes to cluster SRAM are published, its entry goes to ret.tx, and a fault is raised in X (02 R65), with the
marks that were consumed. -/
def State.endRun (s : State) (id : Nat) (k : Ctx) (r : SeqRun) (code : Nat) (info : Word) (locs : List Loc) : State :=
  let (s, k) := s.publishRun k r
  let k := k.post r.ord .tx (BitVec.ofNat 64 (r.tag % 2 ^ 8 + code % 2 ^ 8 * 2 ^ 8 + r.pc % 2 ^ 10 * 2 ^ 16)) [] []
  let k := if code = 0 then k else { k.upd r.ord fun k => k.raise { asyncFault .x code info 0 0 s.cycle with locs := locs } with xfFault := true }
  (s.setCtx id k).setRun (coreOf id) none

/-- XFGO (R284): X waits for the context's run, if it has one, and for a fault of one that awaits handling. -/
def execXfgo (t : Tok) (a b : Spec) (s : State) : Host.Outcome State Fault Refusal :=
  issue .x t none [a, b] (fun e =>
    let v := e.rd a
    (Att.when_ (e.k.xf.isEmpty && e.k.xfRun.isNone && !e.s.running e.id && !e.k.xfFault)).bind fun _ =>
    (e.k.reserve .tx).bind fun k =>
    e.pushed { k.setLt { k.lt with ord := k.lt.ord + 1 } with
      xf := k.xf ++ [⟨e.s.cycle, wbits v 9 0, wbits v 23 16, (e.rd b).setWidth 32, k.lt.ord, false⟩] }) s

/-- The cycle of arrival of a context's request for the sequencer, and whether it gives way to others; a saved run asks from its
restore on. -/
def Ctx.seqArrival (k : Ctx) : Option (Nat × Bool) :=
  if !k.onCore then none
  else match k.xfRun, k.xf with
    | some r, _ => some (r.since, r.gives)
    | none, q :: _ => some (q.cycle, false)
    | none, [] => none

/-- The first of some waiting contexts by arrival, then by index (01 R30). -/
def firstArrival (ws : List (Nat × Nat)) : Option Nat :=
  (ws.foldl (fun (acc : Option (Nat × Nat)) w => match acc with
    | none => some w
    | some b => if w.2 < b.2 then some w else some b) none).map (·.1)

/-- The contexts of a core whose run gives way (`gives`), or that wait for its sequencer with a claim of their own, with their
arrival. -/
def State.seqAsking (s : State) (core : Nat) (gives : Bool) : List (Nat × Nat) :=
  s.ctxs.filterMap fun p => if p.1 / 4 = core then p.2.seqArrival.bind fun c => if c.2 = gives then some (p.1, c.1) else none else none

/-- The contexts of a core that wait for its sequencer, with their arrival. -/
def State.seqWaiting (s : State) (core : Nat) : List (Nat × Nat) := s.seqAsking core false

/-- The context that takes a free sequencer next, and the one that would by arrival: a YIELD gives way to those that wait at an equal
or higher rank (04 R138). A run that gives way is served while no other context waits. -/
def State.seqNext (s : State) (core : Nat) : Option (Nat × Nat) :=
  let ws := s.seqWaiting core
  match firstArrival ws with
  | none => (firstArrival (s.seqAsking core true)).map fun w => (w, w)
  | some w =>
    let others := ws.filter fun p => p.1 != w && decide (s.rankOf w ≤ s.rankOf p.1)
    if (s.core core).seq.yielded.contains w then some ((firstArrival others).getD w, w) else some (w, w)

/-- XF_RUN_START (R283, R284): the run of the context whose turn it is starts, or goes on after a restore, once its command has been
matched by the checker (13 R378) and X's earlier region writes are complete. One whose entry is marked ends with 0x13 before its first word (13
R385). -/
def execXfRunStart (ctx : Nat) (s : State) : Host.Outcome State Fault Refusal :=
  match s.ctx ctx with
  | none => .next s
  | some k =>
    let core := coreOf ctx
    let c := s.core core
    match s.seqNext core with
    | none => .next s
    | some (w, w0) =>
      if c.seq.run.isSome || w != ctx || k.zeroing then .next s else
      let begin_ (k : Ctx) (r : SeqRun) : Host.Outcome State Fault Refusal :=
        .next ((s.setCtx ctx k).setCore core
          { c with seq := ⟨some ctx, k.transform, some r, c.seq.yielded.filter (· != w0)⟩ })
      match k.xfRun, k.xf with
      | some r, _ => begin_ { k with xfRun := none } { r with ctx := ctx }
      | none, q :: rest =>
        if s.cycle < q.cycle + 4 || (k.pends.any fun p => p.strm == .x && decide (p.ord < q.ord)) then .next s
        else
          let r : SeqRun := ⟨ctx, q.tag, q.ord, q.start, Vector.ofFn fun i => if i.val = 0 then q.sa0 else 0,
            Vector.replicate 4 (List.replicate 128 0), [], q.cycle, false, 0, []⟩
          if q.bad then .next (s.endRun ctx { k with xf := rest } r 0x13 0 [.run ctx 0]) else begin_ { k with xf := rest } r
      | none, [] => .next s

/-- A run taken from the sequencer of its core at a word boundary, to go on later (09 R286, 04 R139). -/
def State.suspendRun (s : State) (r : SeqRun) : State :=
  match s.ctx r.ctx with
  | none => s
  | some k => (s.setCtx r.ctx { k with xfRun := some { r with till := 0 } }).setRun (coreOf r.ctx) none

/-- A context of equal or higher rank waits for the sequencer of this one's core (04 R138 to R140). -/
def State.waitedFor (s : State) (id : Nat) : Bool :=
  (s.seqWaiting (coreOf id)).any fun w => w.1 != id && decide (s.rankOf id ≤ s.rankOf w.1)

/-- YIELD (04 R138, R139): the watchdog count is zeroed, and the next acquisition of the core's transform sequencer that this context
would win by arrival goes to a waiting context of equal or higher rank. Where one waits behind this context's own run, the run leaves the
sequencer at the word that it has reached, and asks for it again before all that come later [44]. -/
def execYield (s : State) : Host.Outcome State Fault Refusal :=
  issue .c 0 none [] (fun e =>
    let n := coreOf e.id
    let co := e.s.core n
    let q := { co.seq with yielded := if co.seq.yielded.contains e.id then co.seq.yielded else co.seq.yielded ++ [e.id] }
    let k := { e.k with wd := 0 }
    match q.run.filter fun r => r.ctx == e.id && e.s.waitedFor e.id with
    | some r => .ok ⟨e.s.setCore n { co with seq := { q with run := none } }, { k with xfRun := some { r with since := 0, till := 0 } }, 1, .none⟩
    | none => .ok ⟨e.s.setCore n { co with seq := q }, k, 1, .none⟩) s

/-- The word that a run reaches; beyond the section, and beyond the instruction memory, it reads zero (R283). -/
def Seq.word (q : Seq) (pc : Nat) : W32 := if pc < 1024 then q.imem.getD pc 0 else 0

/-! Words -/

/-- What a word of a run sees and leaves: the package, the context, the run, and the events it counts. -/
structure SeqEnv where
  s  : State
  id : Nat
  k  : Ctx
  r  : SeqRun
  ev : Events

/-- A register of the sequencer. -/
def SeqRun.reg (r : SeqRun) (n : Nat) : W32 := r.sa[n]?.getD 0

/-- A register written. -/
def SeqRun.setReg (r : SeqRun) (n : Nat) (v : W32) : SeqRun := { r with sa := r.sa.setIfInBounds n v }

/-- A work register. -/
def SeqRun.work (r : SeqRun) (n : Nat) : List W32 := r.w[n]?.getD []

/-- A work register written. -/
def SeqRun.setWork (r : SeqRun) (n : Nat) (v : List W32) : SeqRun := { r with w := r.w.setIfInBounds n v }

/-- The address after a word, and the loops: the back edges of the loops that end in it (R291). -/
def afterWord (pc : Nat) : List SeqLoop → Nat × List SeqLoop
  | [] => (pc + 1, [])
  | l :: rest =>
    if l.last = pc then (if 1 < l.left then (l.first, { l with left := l.left - 1 } :: rest) else afterWord pc rest)
    else (pc + 1, l :: rest)

/-- A run that has executed the word at `pc`. -/
def SeqRun.past (r : SeqRun) (pc : Nat) : SeqRun :=
  let (n, ls) := afterWord pc r.loops
  { r with pc := n, loops := ls, till := 0 }

/-- The effect is that of a word that falls through. -/
def SeqEnv.done (e : SeqEnv) (r : SeqRun) : Att SeqEnv := .ok { e with r := r.past r.pc }

/-- One word of the run that the selected context has on its core's sequencer. -/
def seqWord (body : SeqEnv → Att SeqEnv) (s : State) : Host.Outcome State Fault Refusal :=
  let id := s.sel.ctx
  match s.ctx id, (s.core (coreOf id)).seq.run with
  | some k, some r =>
    match body ⟨s, id, k, r, Events.zero⟩ with
    | .ok e => .next (((e.s.setCtx id e.k).setRun (coreOf id) (some e.r)).addEvents id e.r.ord e.ev)
    | .wait q => .next (s.asks q)
    | .trap c i _ _ _ locs => .next (s.endRun id k r c i locs)
  | _, _ => .refused .noContext

/-- TXLI (R290). -/
def execTxli (d : BitVec 4) (i : BitVec 22) (s : State) : Host.Outcome State Fault Refusal :=
  seqWord (fun e => e.done (e.r.setReg d.toNat (i.signExtend 32))) s

/-- TXADDI (R290). -/
def execTxaddi (d a : BitVec 4) (i : BitVec 18) (s : State) : Host.Outcome State Fault Refusal :=
  seqWord (fun e => e.done (e.r.setReg d.toNat (e.r.reg a.toNat + i.signExtend 32))) s

/-- TXLOOP (R291): level d over the next words; a count of zero skips them. -/
def execTxloop (d a : BitVec 4) (l : BitVec 12) (s : State) : Host.Outcome State Fault Refusal :=
  seqWord (fun e =>
    let r := e.r
    let last := r.pc + l.toNat
    let n := (r.reg a.toNat).toNat
    let inside := match r.loops with
      | [] => true
      | o :: _ => decide (last ≤ o.last)
    (Att.need (d.toNat == r.loops.length && inside) 0x02).bind fun _ =>
    if n = 0 then .ok { e with r := r.past last }
    else .ok { e with r := { r with pc := r.pc + 1, loops := ⟨r.pc + 1, last, n⟩ :: r.loops } }) s

/-- The scratchpad as an engine sees it: no pending access of a stream is ordered before it (05 R154). -/
def State.engineView (s : State) (id : Nat) (k : Ctx) : View := s.viewBy id k fun _ => false

/-- The float control that a run's word uses (06 R194). -/
def SeqEnv.fp (e : SeqEnv) : Fp := ⟨RM.byNumber (wbits e.k.lt.sys.fpctl 1 0), e.k.lt.sys.fpctl.getLsbD 2⟩

/-- The offsets of TXLD and TXST, checked (R292, 05 R150). -/
def SeqEnv.offsets (e : SeqEnv) (a b : BitVec 4) (n esz : Nat) : Att (List Nat) :=
  let base : Nat := (e.r.reg a.toNat).toNat
  let stride : Int := (e.r.reg b.toNat).toInt * esz
  let last : Int := base + (n - 1 : Nat) * stride
  if base % esz ≠ 0 then .faultAt 0x07 base
  else if last < 0 ∨ (e.k.spSize : Int) < last + esz ∨ e.k.spSize < base + esz then
    .trap 0x08 (BitVec.ofInt 64 (if last < 0 ∨ (e.k.spSize : Int) < last + esz then last else base)) 0 false 0 []
  else .ok ((List.range n).map fun k => ((base : Int) + k * stride).toNat)

/-- The byte ranges of elements at some offsets. -/
def elemRanges (offs : List Nat) (esz : Nat) : List (Nat × Nat) := offs.map fun o => (o, o + esz)

/-- An engine's access admitted by the tags that govern it, or not yet (05 R159); it completes at once. -/
def Ctx.admitNow (k : Ctx) (ord : Nat) (reads writes : List (Nat × Nat)) : Att Ctx :=
  let a := k.governing reads writes
  (k.admitFor ord a).bind fun k => .ok (k.upd ord (·.leaveTags a.w a.r))

/-- Bytes that a run writes to the partition: pre-images are taken when the run was started in this exposure (13 R382). -/
def SeqEnv.writeSp (e : SeqEnv) (k : Ctx) (ws : Writes) : SeqEnv :=
  let k := e.s.noteWrites e.id k e.r.ord none ws
  { e with k := k, s := e.s.writeSp e.id k ws.2 }

/-- Bits of FP32 work elements as numbers. -/
def natsOf (w : List W32) : List Nat := w.map (·.toNat)

/-- Work elements from encodings. -/
def wordsOf (xs : List Nat) : List W32 := xs.map (BitVec.ofNat 32)

/-- TXLD (R292): conversion to FP32 is exact but for INT32. -/
def execTxld (d : BitVec 2) (a b : BitVec 4) (c : BitVec 7) (ty : BitVec 4) (s : State) : Host.Outcome State Fault Refusal :=
  seqWord (fun e =>
    let n := c.toNat + 1
    let esz := elemSize ty.toNat
    (e.offsets a b n esz).bind fun offs =>
    (e.k.admitNow e.r.ord (elemRanges offs esz) []).bind fun k =>
    if !(e.s.spMarks e.id k (elemRanges offs esz)).isEmpty then .consumed (e.s.spMarks e.id k (elemRanges offs esz))
    else
      let v := e.s.engineView e.id k
      let rs : List (Nat × BitVec 8) := (offs.zipIdx).map fun p =>
        let (x, ev) := elemValue ty.toNat false (leNat (v.bytes p.2 p.1 esz))
        convert 0 (if ty.toNat = 10 then e.fp.mode else .rne) false false x ev
      let w := wordsOf (rs.map fun (x : Nat × BitVec 8) => x.1) ++ List.replicate (128 - n) 0
      let e := { e with k := k, ev := sumEvents (rs.map fun (x : Nat × BitVec 8) => x.2),
                        s := if v.others.isEmpty then e.s else e.s.drew 128 }
      e.done (e.r.setWork d.toNat w)) s

/-- TXST (R292): conversion as VCVT with `.ctx` rounding. -/
def execTxst (d : BitVec 2) (a b : BitVec 4) (sat : BitVec 1) (c : BitVec 7) (ty : BitVec 4) (s : State) :
    Host.Outcome State Fault Refusal :=
  seqWord (fun e =>
    let n := c.toNat + 1
    let esz := elemSize ty.toNat
    (e.offsets a b n esz).bind fun offs =>
    (e.k.admitNow e.r.ord [] (elemRanges offs esz)).bind fun k =>
      let rs : List (Nat × BitVec 8) := ((natsOf (e.r.work d.toNat)).take n).map fun x =>
        let (v, ev) := elemValue 0 e.fp.flush x
        convert ty.toNat e.fp.mode e.fp.flush (sat == 1) v ev
      let ws := (List.zipWith (fun o (x : Nat × BitVec 8) =>
        (List.range esz).map fun j => (o + j, (BitVec.ofNat 8 (x.1 / 2 ^ (8 * j)) : Byte), (0xFF : Byte))) offs rs).flatten
      let e := e.writeSp k (8 * esz, ws)
      ({ e with ev := sumEvents (rs.map fun (x : Nat × BitVec 8) => x.2) }).done e.r) s

/-- TXOP of two work registers (R293). -/
def txop2 (f : Fun2) (d a b : BitVec 2) (s : State) : Host.Outcome State Fault Refusal :=
  seqWord (fun e =>
    let rs : List (Nat × BitVec 8) := List.zipWith (f e.fp 0) (natsOf (e.r.work a.toNat)) (natsOf (e.r.work b.toNat))
    ({ e with ev := sumEvents (rs.map fun (x : Nat × BitVec 8) => x.2) }).done
      (e.r.setWork d.toNat (wordsOf (rs.map fun (x : Nat × BitVec 8) => x.1)))) s

/-- TXOP add (R293). -/
def execTxopAdd (d a b : BitVec 2) (s : State) : Host.Outcome State Fault Refusal := txop2 fAdd d a b s

/-- TXOP sub (R293). -/
def execTxopSub (d a b : BitVec 2) (s : State) : Host.Outcome State Fault Refusal := txop2 fSub d a b s

/-- TXOP mul (R293). -/
def execTxopMul (d a b : BitVec 2) (s : State) : Host.Outcome State Fault Refusal := txop2 fMul d a b s

/-- TXOP max (R293). -/
def execTxopMax (d a b : BitVec 2) (s : State) : Host.Outcome State Fault Refusal := txop2 fMax d a b s

/-- TXOP min (R293). -/
def execTxopMin (d a b : BitVec 2) (s : State) : Host.Outcome State Fault Refusal := txop2 fMin d a b s

/-- TXOP fma (R293): rounded once. -/
def execTxopFma (d a b : BitVec 2) (s : State) : Host.Outcome State Fault Refusal :=
  seqWord (fun e =>
    let xy := (natsOf (e.r.work a.toNat)).zip (natsOf (e.r.work b.toNat))
    let rs : List (Nat × BitVec 8) := List.zipWith (fun (p : Nat × Nat) z => fFma e.fp 0 p.1 p.2 z) xy (natsOf (e.r.work d.toNat))
    ({ e with ev := sumEvents (rs.map fun (x : Nat × BitVec 8) => x.2) }).done
      (e.r.setWork d.toNat (wordsOf (rs.map fun (x : Nat × BitVec 8) => x.1)))) s

/-- TXOP of one work register. -/
def txop1 (f : Fp → Nat → Nat × BitVec 8) (d a : BitVec 2) (s : State) : Host.Outcome State Fault Refusal :=
  seqWord (fun e =>
    let rs : List (Nat × BitVec 8) := (natsOf (e.r.work a.toNat)).map (f e.fp)
    ({ e with ev := sumEvents (rs.map fun (x : Nat × BitVec 8) => x.2) }).done
      (e.r.setWork d.toNat (wordsOf (rs.map fun (x : Nat × BitVec 8) => x.1)))) s

/-- TXOP relu (R293): max(a, +0). -/
def execTxopRelu (d a : BitVec 2) (s : State) : Host.Outcome State Fault Refusal := txop1 (fun fp x => fMax fp 0 x 0) d a s

/-- TXOP abs (R293). -/
def execTxopAbs (d a : BitVec 2) (s : State) : Host.Outcome State Fault Refusal := txop1 (fun fp x => fAbs fp 0 x) d a s

/-- TXOP splat (R293). -/
def execTxopSplat (d : BitVec 2) (a : BitVec 4) (s : State) : Host.Outcome State Fault Refusal :=
  seqWord (fun e => e.done (e.r.setWork d.toNat (List.replicate 128 (e.r.reg a.toNat)))) s

/-- TXPERM (R294): `src k` the element that goes to place k. -/
def txperm (d a : BitVec 2) (src : SeqRun → Nat → Nat) (s : State) : Host.Outcome State Fault Refusal :=
  seqWord (fun e =>
    let w := (e.r.work a.toNat).toArray
    e.done (e.r.setWork d.toNat ((List.range 128).map fun k => w.getD (src e.r k) 0))) s

/-- TXPERM rev (R294). -/
def execTxpermRev (d a : BitVec 2) (s : State) : Host.Outcome State Fault Refusal := txperm d a (fun _ k => 127 - k) s

/-- TXPERM rot (R294). -/
def execTxpermRot (d a : BitVec 2) (b : BitVec 4) (s : State) : Host.Outcome State Fault Refusal :=
  txperm d a (fun r k => (k + (r.reg b.toNat).toNat) % 128) s

/-- TXPERM zip (R294). -/
def execTxpermZip (d a : BitVec 2) (s : State) : Host.Outcome State Fault Refusal :=
  txperm d a (fun _ k => k / 2 + k % 2 * 64) s

/-- TXPERM unzip (R294). -/
def execTxpermUnzip (d a : BitVec 2) (s : State) : Host.Outcome State Fault Refusal :=
  txperm d a (fun _ k => if k < 64 then 2 * k else 2 * (k - 64) + 1) s

/-! TXCB (R298) -/

/-- The sizes and addresses of TXCB, checked: the original size, the padded size, the offset and the cluster SRAM address. -/
def SeqEnv.codecArgs (e : SeqEnv) (a b : BitVec 4) (sz : BitVec 12) : Att (Nat × Nat × Nat × Nat) :=
  let size := (sz.toNat + 1) * 16
  let d := (e.r.reg (b.toNat + 1)).toNat
  let off := (e.r.reg a.toNat).toNat
  let addr := (e.r.reg b.toNat).toNat
  if d < size + 8 ∨ d % 16 ≠ 0 then .fault 0x02
  else if off % 16 ≠ 0 then .faultAt 0x07 off
  else if addr % 16 ≠ 0 then .faultAt 0x07 addr
  else if e.k.spSize < off + size then .faultAt 0x08 off
  else if !e.s.sramOk e.k.slice addr d then .faultAt 0x08 addr
  else .ok (size, d, off, addr)

/-- The codec is occupied for ceil(D / 64) + 16 cycles by a word, which has its effect `f` in the last of them (R298). -/
def SeqEnv.occupy (e : SeqEnv) (d : Nat) (f : Att SeqEnv) : Att SeqEnv :=
  if e.r.till = 0 then .ok { e with r := { e.r with till := e.s.cycle + (d + 63) / 64 + 15 } }
  else if e.s.cycle < e.r.till then .wait none
  else f

/-- TXCB enlarge (R297, R298). -/
def execTxcbEnlarge (a b : BitVec 4) (sz : BitVec 12) (s : State) : Host.Outcome State Fault Refusal :=
  seqWord (fun e =>
    (e.codecArgs a b sz).bind fun (size, d, off, addr) => e.occupy d <|
    if !(e.s.sramMarks e.k.slice addr d).isEmpty then .consumed (e.s.sramMarks e.k.slice addr d)
    else match enlargeBlock size (e.r.over addr (e.s.sramRead e.k.slice addr d)) with
      | none => .fault 0x02
      | some out =>
        (e.k.admitNow e.r.ord [] [(off, off + size)]).bind fun k =>
          let e := e.writeSp k (courierUnit, wholeWrites off out)
          e.done e.r) s

/-- TXCB reduce (R296, R298): a write to cluster SRAM, which other contexts see from the end of the run on (11 R337), the run's own context at
once (R289), and after which the exposure
that started the run cannot be rolled back (13 R382). -/
def execTxcbReduce (a b : BitVec 4) (sz : BitVec 12) (s : State) : Host.Outcome State Fault Refusal :=
  seqWord (fun e =>
    (e.codecArgs a b sz).bind fun (size, d, off, addr) => e.occupy d <|
    (e.k.admitNow e.r.ord [(off, off + size)] []).bind fun k =>
    if !(e.s.spMarks e.id k [(off, off + size)]).isEmpty then .consumed (e.s.spMarks e.id k [(off, off + size)])
    else
      let v := e.s.engineView e.id k
      let bs := v.run off size
      let s := if v.others.isEmpty then e.s else e.s.drew (2 ^ 44)
      let k := if k.expOrd ≤ e.r.ord then { k with unrecov := true } else k
      ({ e with s := s, k := k }).done (e.r.write addr (reduceBlock d bs))) s

/-! Tokens and the end of a run -/

/-- TXSIG (R288, R289). -/
def execTxsig (n : BitVec 3) (s : State) : Host.Outcome State Fault Refusal :=
  seqWord (fun e =>
    if Sparse.get e.k.dtokens n.toNat ≠ some .seqToCtx then .fault 0x0E
    else
      let v := e.k.lt.tk[n.toNat]?.getD 0
      if 255 ≤ v then .wait none
      else ({ e with k := e.k.upd e.r.ord fun k => k.setLt { k.lt with tk := k.lt.tk.setIfInBounds n.toNat ((k.lt.tk[n.toNat]?.getD 0) + 1) } }).done e.r) s

/-- A hardware token taken by a run. Where an exposure that is rolled back has given the token that an older run takes, the shadow has none: it
owes one, and the SIGK that is executed again gives it (13 R383, R394). -/
def Light.takeToken (l : Light) (n : Nat) : Light :=
  let v := l.tk[n]?.getD 0
  if v = 0 then { l with owed := l.owed.setIfInBounds n ((l.owed[n]?.getD 0) + 1) } else { l with tk := l.tk.setIfInBounds n (v - 1) }

/-- TXWAIT (R288, R289). -/
def execTxwait (n : BitVec 3) (s : State) : Host.Outcome State Fault Refusal :=
  seqWord (fun e =>
    if Sparse.get e.k.dtokens n.toNat ≠ some .ctxToSeq then .fault 0x0E
    else
      let v := e.k.lt.tk[n.toNat]?.getD 0
      if v = 0 then .wait none
      else ({ e with k := e.k.upd e.r.ord fun k => k.setLt (k.lt.takeToken n.toNat) }).done e.r) s

/-- TXHALT (R285). -/
def execTxhalt (s : State) : Host.Outcome State Fault Refusal :=
  let id := s.sel.ctx
  match s.ctx id, (s.core (coreOf id)).seq.run with
  | some k, some r => .next (s.endRun id k r 0 0 [])
  | _, _ => .refused .noContext

end Sys2Proof.Machine
end

