-- ==== Sys2Proof/Machine/Courier.lean ====
section
/-! DEFINITION. Couriers (10): time slots and postmarks, the issue of courier commands, the movement of their chunks, completion
records, CSEND's receiving side (19), and WAITC. -/

namespace Sys2Proof.Machine

open Sys2Proof

/-! Time slots (R302-R305) -/

/-- The fields of a slot register. -/
structure Slot where
  path   : Nat
  port   : Nat
  rate   : Nat
  period : Nat
  phase  : Nat
  occ    : Nat
  deriving DecidableEq, Repr

/-- The slot in a register's value; occ is L = len + 1 (R302). -/
def Slot.ofWord (v : Word) : Slot := ⟨wbits v 3 0, wbits v 11 4, wbits v 14 12, 2 ^ wbits v 20 16, wbits v 40 21, wbits v 60 41 + 1⟩

/-- A slot of a context. -/
def Ctx.slotOf (k : Ctx) (n : Nat) : Slot := Slot.ofWord (k.lt.sys.slots[n]?.getD 0)

/-- Whether a cycle lies in an occurrence (R304). -/
def Slot.holds (sl : Slot) (c : Nat) : Bool := sl.phase ≤ c % sl.period && c % sl.period < sl.phase + sl.occ

/-- Occurrence cycles below a cycle. -/
def Slot.before (sl : Slot) (c : Nat) : Nat := c / sl.period * sl.occ + Nat.min (c % sl.period - sl.phase) sl.occ

/-- The n-th occurrence cycle (n from 1) at or after a cycle. -/
def Slot.cycle (sl : Slot) (t n : Nat) : Nat :=
  let m := sl.before t + n - 1
  m / sl.occ * sl.period + sl.phase + m % sl.occ

/-- Occurrence cycles that a number of wire bytes takes. -/
def Slot.cycles (sl : Slot) (wire : Nat) : Nat := (wire + 16 * 2 ^ sl.rate - 1) / (16 * 2 ^ sl.rate)

/-! Sizes of a command -/

/-- Bytes of a CQFETCH source element. -/
def Cmd.esz (c : Cmd) : Nat := if c.bf16 then 2 else 4

/-- Near-side bytes (R310, R311, R315). -/
def Cmd.nearLen (c : Cmd) : Nat := if c.kind = .qfetch then c.len / c.esz / 32 * 18 else c.len

/-- Far-side bytes. -/
def Cmd.farLen (c : Cmd) : Nat := if c.codec then c.len / c.size * c.dsize else c.len

/-- Wire bytes up to a number of near-side bytes (R304); a CSEND's header flit goes first. -/
def Cmd.wire (c : Cmd) (m : Nat) : Nat :=
  match c.kind with
  | .send => if m = 0 then 0 else 64 * ((m + 63) / 64) + 64
  | .qfetch => m / 18 * 32 * c.esz
  | _ => if c.codec then m / c.size * c.dsize else m

/-- Near-side bytes of a whole chunk (R317): a codec block, 4 KiB, or the 227 blocks of a CQFETCH that 4 KiB hold whole. -/
def Cmd.chunkLen (c : Cmd) : Nat := if c.codec then c.size else if c.kind = .qfetch then 4086 else 4096

/-- Near-side bytes done after the chunk under way. -/
def Cmd.nextMoved (c : Cmd) : Nat := Nat.min (c.moved + c.chunkLen) c.nearLen

/-- The byte ranges of the near side. -/
def Cmd.nearRanges (c : Cmd) : List (Nat × Nat) := [(c.near, c.near + c.nearLen)]

/-- Whether the command writes its near side. -/
def Cmd.isFetch (c : Cmd) : Bool := c.kind == .fetch || c.kind == .qfetch

/-! Issue (R305, R308-R312) -/

/-- Whether a slot's path and port match a command (R311, R312 step 2). -/
def State.slotMatches (s : State) (id : Nat) (k : Ctx) (sl : Slot) (c : Cmd) : Bool :=
  if c.kind = .send then sl.path == 5
  else if c.space = 0 then sl.path == 4
  else if sl.path = 1 ∨ sl.path = 2 ∨ sl.path = 3 then
    match s.sramPlace k.slice c.far with
    | none => true
    | some (cl, _) =>
      let own := cl == clusterOf id
      if sl.path = 1 then own else !own && sl.port == cl && (sl.path == 2) == (cl / 6 == clusterOf id / 6)
  else false

/-- The limits of R311 and the codec sizes of R295. -/
def Cmd.sizesOk (c : Cmd) : Bool :=
  if c.kind = .qfetch then c.len != 0 && c.len % (32 * c.esz) == 0
  else c.len % 16 == 0 && decide (16 ≤ c.len) && decide (c.len ≤ 2 ^ 21) &&
    (!c.codec || (c.len % c.size == 0 && decide (c.size ≤ 65536) && decide (c.size + 8 ≤ c.dsize)))

/-- A command's first postmark (R305): the cycle from which it moves, the cycle after its last move, the postmark. -/
def schedule (sl : Slot) (t0 wire : Nat) : Nat × Nat × Nat :=
  let last := sl.cycle t0 (sl.cycles wire)
  (t0, last + 1, last + 1 + Config.pathLat sl.path)

/-- The fields of a command's second word (R309). -/
structure CmdWord where
  slot  : Nat
  tag   : Nat
  seed  : Nat
  cmp   : Bool
  codec : Bool
  size  : Nat
  bf16  : Bool
  cbk   : Nat
  nt    : Bool

/-- A command from its words and operands (R308 to R310). -/
def Cmd.new (e : Env) (kind : CmdKind) (w : CmdWord) (ga gb b : Word) : Cmd where
  kind := kind
  strm := e.st
  ord := e.k.lt.ord
  slot := w.slot
  tag := w.tag
  seed := w.seed
  c0 := b.setWidth 32
  expect := (b >>> 32).setWidth 32
  cmp := w.cmp
  issued := e.s.cycle
  codec := w.codec
  size := (w.size + 1) * 16
  dsize := (wbits gb 59 48 + 1) * 16
  bf16 := w.bf16
  book := if kind = .qfetch then e.k.book w.cbk else ⟨false, []⟩
  nt := w.nt
  space := wbits ga 63 62
  far := wbits ga 47 0
  near := wbits gb 23 0
  len := wbits gb 47 24
  pkg := wbits gb 62 48
  dcur := e.k.lt.sys.curMask
  seen := e.k.lt.stores
  first := 0
  final := 0
  postmark := 0
  resched := false
  begun := false
  mark := 0
  part := 0
  moved := 0
  sum := 0
  through := false
  paused := false
  raised := false
  late := false
  fault := 0
  doomed := 0
  event := false
  src := 0
  out := []
  counted := Events.zero
  admitted := false
  tagged := false
  wtags := []
  rtags := []
  ahead := none

/-- A command with a seed has been issued on the slot since launch (R312 step 6). -/
def Ctx.seeded (k : Ctx) (slot : Nat) : Bool :=
  (k.lt.chain[slot]?.getD none).isSome || k.cmds.any fun c => c.slot == slot && c.seed != 0

/-- Commands that have not started to move data (R299). -/
def Ctx.queuedCmds (k : Ctx) : Nat := (k.cmds.filter fun c => !c.admitted).length

/-- The issue of a courier command (R312): the checks in order, the wait for room, the postmark. The acquire atomics before it have taken
effect (11 R331, R336). A codebook is read as it stands (06 R188). Its effect is complete for tokens as it is accepted, at issue (R312) [60]. -/
def courier (kind : CmdKind) (lat : Nat) (w : CmdWord) (d : Spec) (ga gb b : Word) (e : Env) : Att Done :=
  let k := e.k
  let c := Cmd.new e kind w ga gb b
  let sl := k.slotOf c.slot
  (Att.need (!(kind == .send && k.paired) && decide (c.space ≤ 1) && !(kind == .send && c.space == 1) && c.sizesOk) 0x02).bind fun _ =>
  (Att.need (e.s.slotMatches e.id k sl c) 0x14).bind fun _ =>
  ((if c.near % 16 ≠ 0 then .faultAt 0x07 c.near else if c.far % 16 ≠ 0 then .faultAt 0x07 c.far else .ok () : Att Unit)).bind fun _ =>
  ((if k.spSize < c.near + c.nearLen then .faultAt 0x08 c.near
    else if c.space = 1 ∧ !(e.s.sramOk k.slice c.far c.farLen) then .faultAt 0x08 c.far else .ok () : Att Unit)).bind fun _ =>
  ((if kind = .qfetch then Att.need (k.book w.cbk).loaded 0x1A else .ok () : Att Unit)).bind fun _ =>
  (Att.need (c.seed != 3 || k.seeded c.slot) 0x02).bind fun _ =>
  (k.reserve .co).bind fun k =>
  (Att.when_ (decide (k.queuedCmds < 16) && e.s.settleReady e.id k)).bind fun _ =>
    let free := k.free[c.slot]?.getD 0
    let (first, after, pm) := schedule sl (Nat.max (e.s.cycle + 8) free) (c.wire c.nearLen)
    let k := { k.setLt { k.lt with ord := k.lt.ord + 1 } with
      cmds := k.cmds ++ [{ c with first := first, postmark := pm }], free := k.free.setIfInBounds c.slot after
      unrecov := k.unrecov || kind == .send }
    let (s, k) := e.s.settleAtoms e.id k
    let e := { e with s := s, k := k.pushAll k.lt.ord e.push }
    e.done (e.result d lat (BitVec.ofNat 64 pm) [])

/-- A courier command of L or S. -/
def courierWord (st : Strm) (kind : CmdKind) (t : Tok) (d a b : Spec) (w : CmdWord) (s : State) : Host.Outcome State Fault Refusal :=
  let uses := w.seed = 2 ∨ w.cmp
  issue st t (some d) ([a, a + 1] ++ if uses then [b] else []) (fun e =>
    courier kind 2 w d (e.rd a) (e.rd (a + 1)) (if uses then e.rd b else 0) e) s

/-- CFETCH (R308). -/
def execCfetch (t : Tok) (d a b : Spec) (slot : BitVec 6) (tag : BitVec 8) (seed : BitVec 2) (cmp : BitVec 1) (codec : BitVec 2)
    (size : BitVec 12) (nt : BitVec 1) (s : State) : Host.Outcome State Fault Refusal :=
  courierWord .l .fetch t d a b ⟨slot.toNat, tag.toNat, seed.toNat, cmp == 1, codec != 0, size.toNat, false, 0, nt == 1⟩ s

/-- CQFETCH (R308, R315). -/
def execCqfetch (t : Tok) (d a b : Spec) (slot : BitVec 6) (tag : BitVec 8) (seed : BitVec 2) (cmp bf16 : BitVec 1) (cbk : BitVec 2)
    (nt : BitVec 1) (s : State) : Host.Outcome State Fault Refusal :=
  courierWord .l .qfetch t d a b ⟨slot.toNat, tag.toNat, seed.toNat, cmp == 1, false, 0, bf16 == 1, cbk.toNat, nt == 1⟩ s

/-- CSTORE (R308). -/
def execCstore (t : Tok) (d a b : Spec) (slot : BitVec 6) (tag : BitVec 8) (seed : BitVec 2) (cmp : BitVec 1) (codec : BitVec 2)
    (size : BitVec 12) (nt : BitVec 1) (s : State) : Host.Outcome State Fault Refusal :=
  courierWord .s .store t d a b ⟨slot.toNat, tag.toNat, seed.toNat, cmp == 1, codec != 0, size.toNat, false, 0, nt == 1⟩ s

/-- CSEND (R308, R320). -/
def execCsend (t : Tok) (d a b : Spec) (slot : BitVec 6) (tag : BitVec 8) (seed : BitVec 2) (cmp nt : BitVec 1) (s : State) :
    Host.Outcome State Fault Refusal :=
  courierWord .s .send t d a b ⟨slot.toNat, tag.toNat, seed.toNat, cmp == 1, false, 0, false, 0, nt == 1⟩ s

/-- The second word of a command block, for a kind of command; none where its reserved fields are not zero (R309, R321). -/
def CmdWord.ofBlock (kind : CmdKind) (w : Word) : Option CmdWord :=
  let base : CmdWord := ⟨wbits w 5 0, wbits w 13 6, wbits w 15 14, w.getLsbD 16, false, 0, false, 0, w.getLsbD 31⟩
  let codec := wbits w 18 17
  if wbits w 63 32 ≠ 0 then none
  else match kind with
    | .qfetch => if wbits w 30 20 = 0 then some { base with bf16 := w.getLsbD 17, cbk := wbits w 19 18 } else none
    | .send => if wbits w 30 17 = 0 then some base else none
    | _ =>
      if codec = 0 then (if wbits w 30 19 = 0 then some base else none)
      else if codec = (if kind = .fetch then 1 else 2) then some { base with codec := true, size := wbits w 30 19 }
      else none

/-- The kind that EPUSH selects (R321). -/
def cmdKindOf : Nat → CmdKind
  | 0 => .fetch
  | 1 => .qfetch
  | 2 => .store
  | _ => .send

/-- EPUSH (R321): the command block is read as an LDS reads, and captured at issue (R312); the access is complete, for its tile tags, as the
postmark lands (02 R46). -/
def execEpush (d a : Spec) (kd : BitVec 2) (s : State) : Host.Outcome State Fault Refusal :=
  issue .c 0 (some d) [a] (fun e =>
    let off := (e.rd a).toNat
    (e.k.checkOff off 32).bind fun _ =>
    e.access [(off, off + 32)] [] fun k p =>
      let v := e.s.view e.id e.k0 .c
      let word (j : Nat) : Word := BitVec.ofNat 64 (leNat (v.bytes j (off + 8 * j) 8))
      let s := if v.others.isEmpty then e.s else e.s.drew 4
      let kind := cmdKindOf kd.toNat
      match CmdWord.ofBlock kind (word 3) with
      | none => .fault 0x02
      | some w =>
        let p := { p with again := none, saw := none }.readTill (landAt e.s.cycle e.k0 .c 6)
        courier kind 6 w d (word 0) (word 1) (word 2) { e with s := s, k := k.addPend p }) s

/-! WAITC (R307) -/

/-- The wait of WAITC is over. -/
def Ctx.waitcDone (k : Ctx) (cycle u : Nat) : Bool :=
  decide (u ≤ cycle) && k.cmds.all fun c => decide (u < c.postmark) || c.event

/-- The writes of the courier stores that a WAITC of a stream waited for, acquired for that stream (R307, 11 R337). -/
def Ctx.acquireArrived (k : Ctx) (st : Strm) (u : Nat) : Ctx :=
  let mine (p : Strm × Nat × List StoreWord) : Bool := p.1 == st && decide (p.2.1 ≤ u)
  let ws := (k.arrived.filter mine).flatMap (·.2.2)
  let k := { k with arrived := k.arrived.filter fun p => !(mine p) }
  if st = .c then k.acquire ws else { k with acqs := k.acqs ++ ws.map fun w => (st, w) }

/-- A WAITC that stands at a stream's head with its operand read ends when its wait is over (R307). -/
def waitcEnd (st : Strm) (u : Nat) (s : State) : Host.Outcome State Fault Refusal :=
  match s.ctx s.sel.ctx with
  | none => .refused .noContext
  | some k => settle st s s.sel.ctx k
      (if k.waitcDone s.cycle u then .ok ⟨s, (k.setStrm st { k.strm st with wait := none }).acquireArrived st u, 1, .none⟩ else .wait none)

/-- WAITC (R307): its operand is read, its pipes and tokens are taken, and its pushes made, at issue; until its wait is over its stream
issues nothing further. -/
def waitc (st : Strm) (t : Tok) (a : Spec) (s : State) : Host.Outcome State Fault Refusal :=
  match (s.ctx s.sel.ctx).bind fun k => (k.strm st).wait with
  | some u => waitcEnd st u s
  | none => issue st t none [a] (fun e =>
      let u := (e.rd a).toNat
      let k := e.k.pushAll e.k.lt.ord e.push
      if k.waitcDone e.s.cycle u then e.done (k.acquireArrived st u)
      else .ok ⟨e.s, k.setStrm st { k.strm st with wait := some u }, 1, .stays⟩) s

/-- WAITC (R307) in C. -/
def execWaitc (a : Spec) (s : State) : Host.Outcome State Fault Refusal := waitc .c 0 a s

/-- WAITC (R307) in L, X or S: what these streams acquire their later commands see. -/
def execLxsWaitc (t : Tok) (a : Spec) (s : State) : Host.Outcome State Fault Refusal := waitc s.sel.st t a s

/-! Chunks (R313, R315, R317) -/

/-- The running checksum over the 32-bit words of a byte string (R313). Fuel: the number of words. -/
def checksum : Nat → W32 → List Byte → W32
  | 0, c, bs => if bs.isEmpty then c else Config.ckTail c (leNat bs)
  | n + 1, c, bs => checksum n (c.rotateLeft 1 + BitVec.ofNat 32 (leNat (bs.take 4))) (bs.drop 4)

/-- The running checksum of a command over more bytes. -/
def Cmd.add (c : Cmd) (bs : List Byte) : W32 := if c.seed = 0 then 0 else checksum (bs.length / 4) c.sum bs

/-- What a command sees of its near side (R319): the pushing stream's earlier writes, and of other writes since a chunk has begun (`w`), or
pending, any part. -/
def State.cmdView (s : State) (id : Nat) (k : Ctx) (c : Cmd) (w : Saw) : View := s.viewSince id k c.strm c.ord w

/-- The near-side bytes of the chunk under way of a store or send; poisoned data gives 0x13. -/
def State.nearBytes (s : State) (id : Nat) (k : Ctx) (c : Cmd) (w : Saw) (off n : Nat) : Att (List Byte) :=
  if !(s.spMarks id k [(c.near + off, c.near + off + n)]).isEmpty then .fault 0x13 else .ok ((s.cmdView id k c w).run (c.near + off) n)

/-- The places of a destination range of a store: physical pieces of device memory, or the slice's SRAM. -/
def State.outPieces (s : State) (k : Ctx) (c : Cmd) (addr : Nat) (bs : List Byte) : Att (List (Nat × Nat × Nat × List Byte)) :=
  if c.space = 0 then
    (s.devPieces k c.dcur addr bs.length .write).bind fun ps =>
      .ok ((ps.foldl (fun (acc : List (Nat × Nat × Nat × List Byte) × List Byte) p =>
        (acc.1 ++ [(0, addr + bs.length - acc.2.length, p.1, acc.2.take p.2)], acc.2.drop p.2)) ([], bs)).1)
  else if s.sramOk k.slice addr bs.length then .ok [(1, addr, addr, bs)] else .faultAt 0x08 addr

/-- One block of a CQFETCH: its index bytes, its scale's bytes, and the events of its elements (R315). -/
def Cmd.quantised (c : Cmd) (n : Nat) (src : List Byte) : List Byte × List Byte × List (BitVec 8) :=
  let (scale, es) := quantBlock c.book n ((chunksOf c.esz 32 src).map fun x => elemValue (if c.bf16 then 1 else 0) false x)
  let ix := (es.map fun (x : Nat × BitVec 8) => x.1).toArray
  ((List.range 16).map fun j => BitVec.ofNat 8 (ix.getD (2 * j) 0 % 16 + ix.getD (2 * j + 1) 0 % 16 * 16),
    leBytes 2 scale, es.map fun (x : Nat × BitVec 8) => x.2)

/-- The destination bytes of a CQFETCH's block `b`, by near-side offset. -/
def Cmd.blockWrites (c : Cmd) (b : Nat) (ix sc : List Byte) : List (Nat × List Byte) :=
  [(c.near + 16 * b, ix), (c.near + c.nearLen / 18 * 16 + 2 * b, sc)]

/-- The far bytes from which block `b` of a CQFETCH is made. -/
def State.blockSource (s : State) (k : Ctx) (c : Cmd) (b : Nat) : Att (List Byte) :=
  s.cmdRead k c.strm c.seen c.dcur c.space (c.far + b * 32 * c.esz) (32 * c.esz)

/-- Near-side bytes written for a fetch: pre-images where the command was issued in this exposure (13 R381). -/
def State.fetched (s : State) (id : Nat) (k : Ctx) (c : Cmd) (ws : List (Nat × Byte × Byte)) : State × Ctx :=
  let k := s.noteWrites id k c.ord none (courierUnit, ws)
  (s.writeSp id k ws, k)

/-- The near-side ranges of the chunk under way (R315, R317). -/
def Cmd.chunkRanges (c : Cmd) : List (Nat × Nat) :=
  if c.kind = .qfetch then
    let b := c.moved / 18
    let e := c.nextMoved / 18
    [(c.near + 16 * b, c.near + 16 * e), (c.near + c.nearLen / 18 * 16 + 2 * b, c.near + c.nearLen / 18 * 16 + 2 * e)]
  else [(c.near + c.moved, c.near + c.nextMoved)]

/-- The tags that admit a command now: all that govern its near side, at the first chunk that touches the range of one (R319, 05 R158,
R159) [61]. -/
def Ctx.cmdTags (k : Ctx) (c : Cmd) : Admit :=
  let of (rs : List (Nat × Nat)) : Admit := if c.isFetch then k.governing [] rs else k.governing rs []
  if c.tagged || (of c.chunkRanges).isNone then ⟨[], [], []⟩ else of c.nearRanges

/-- The chunk under way begun (R317): a fetch reads its source; a store or send begins to read its near side. -/
def State.readChunk (s : State) (id : Nat) (k : Ctx) (c : Cmd) : Att Chunk :=
  let n := c.nextMoved - c.moved
  match c.kind with
  | .fetch =>
    (if c.codec then
      (s.cmdRead k c.strm c.seen c.dcur c.space (c.far + c.moved / c.size * c.dsize) c.dsize).bind fun bs =>
        match enlargeBlock c.size bs with
        | none => .fault 0x02
        | some out => .ok out
    else s.cmdRead k c.strm c.seen c.dcur c.space (c.far + c.moved) n).bind fun bs =>
      .ok ⟨wholeWrites (c.near + c.moved) bs, s.sawNow id k, c.add bs, c.out, c.counted⟩
  | .qfetch =>
    let b0 := c.moved / 18
    (Att.foldl (fun (acc : List (Nat × List Byte) × List (Nat × Nat × Nat × List Byte) × Events) j =>
      (s.blockSource k c (b0 + j)).bind fun src =>
        let (ix, sc, evs) := c.quantised (32 * (b0 + j)) src
        .ok (acc.1 ++ c.blockWrites (b0 + j) ix sc, acc.2.1 ++ [(0, b0 + j, 0, ix), (1, b0 + j, 0, sc)], acc.2.2.add (sumEvents evs)))
      ([], [], Events.zero) (List.range (n / 18))).bind fun (ws, out, evs) =>
      .ok ⟨ws.flatMap fun w => wholeWrites w.1 w.2, s.sawNow id k, c.sum, c.out ++ out, c.counted.add evs⟩
  | .store | .send => (s.nearBytes id k c (s.sawNow id k) c.moved n).bind fun _ => .ok ⟨[], s.sawNow id k, c.sum, c.out, c.counted⟩

/-- The near-side bytes that a chunk of a store or send moves, and the package with the choices drawn: of each element that another has
written since the chunk began, or is writing, the old or the new value (05 R152, R154) [7]. -/
def State.chunkBytes (s : State) (id : Nat) (k : Ctx) (c : Cmd) (ch : Chunk) : Att (State × List Byte) :=
  let s' := if (s.cmdView id k c ch.saw).others.isEmpty then s else s.drew (2 ^ 44)
  (s.nearBytes id k c ch.saw c.moved (c.nextMoved - c.moved)).bind fun bs => .ok (s', bs)

/-- The chunk under way, moved (R317): the package, the context, the command. -/
def State.moveChunk (s : State) (id : Nat) (k : Ctx) (c : Cmd) (ch : Chunk) : Att (State × Ctx × Cmd) :=
  let c := { c with ahead := none }
  if c.isFetch then
    let (s, k) := s.fetched id { k with cmds := k.cmds.map fun x => if x.ord = c.ord then { x with ahead := none } else x } c ch.writes
    .ok (s, k, { c with sum := ch.sum, out := ch.out, counted := ch.counted })
  else (s.chunkBytes id k c ch).bind fun (s', bs) =>
    if c.kind = .store then
      (if c.codec then s.outPieces k c (c.far + c.moved / c.size * c.dsize) (reduceBlock c.dsize bs)
        else s.outPieces k c (c.far + c.moved) bs).bind fun ps => .ok (s', k, { c with sum := c.add bs, out := c.out ++ ps })
    else
      let flits := (List.range ((bs.length + 63) / 64)).map fun j =>
        let part := (bs.drop (64 * j)).take 64
        Reply.flit (k.slotOf c.slot).port (.data c.src (part ++ List.replicate (64 - part.length) 0))
      .ok ({ s' with out := s'.out ++ flits }, k, { c with sum := c.add bs })

/-- Parts of the failing chunk's destination whose new bytes are known, by the address within the destination (R317). -/
def State.newParts (s : State) (id : Nat) (k : Ctx) (c : Cmd) : List (Nat × List Byte) :=
  let n := c.nextMoved - c.moved
  let keep (x : Att (List Byte)) : Option (List Byte) :=
    match x with
    | .ok bs => some bs
    | _ => none
  match c.kind with
  | .fetch =>
    if c.codec then []
    else (List.range (n / 16)).filterMap fun j =>
      (keep (s.cmdRead k c.strm c.seen c.dcur c.space (c.far + c.moved + 16 * j) 16)).map fun bs => (c.near + c.moved + 16 * j, bs)
  | .qfetch =>
    let b0 := c.moved / 18
    let got := (List.range (n / 18)).map fun j => (keep (s.blockSource k c (b0 + j))).map fun src =>
      let (ix, sc, _) := c.quantised (32 * (b0 + j)) src
      c.blockWrites (b0 + j) ix sc
    if got.all (·.isSome) then got.flatMap (·.getD []) else got.flatMap fun g => (g.getD []).take 1
  | .store =>
    match s.nearBytes id k c ((c.ahead.map (·.saw)).getD (s.sawNow id k)) c.moved n with
    | .ok bs =>
      let (addr, data) := if c.codec then (c.moved / c.size * c.dsize, reduceBlock c.dsize bs) else (c.moved, bs)
      (List.range (data.length / 16)).map fun j => (c.far + addr + 16 * j, (data.drop (16 * j)).take 16)
    | _ => []
  | .send => []

/-- Whether a 16-byte unit of a failing chunk holds its new bytes: a free choice for each unit (R317). -/
def State.unitNew (s : State) (addr : Nat) : Bool := Config.freeNat (s.free + addr / 16) % 2 == 1

/-- The running value and the fault that a command leaves to its chained successor (R313). -/
def Ctx.setChain (k : Ctx) (c : Cmd) (code : Nat) : Ctx :=
  if c.seed = 0 then k else
  k.upd c.ord fun k => k.setLt { k.lt with chain := k.lt.chain.setIfInBounds c.slot (some (c.sum, code)) }

/-- The value a command's checksum starts from, or the fault of the predecessor of its chain (R313). -/
def Ctx.chainStart (k : Ctx) (c : Cmd) : W32 × Nat :=
  if c.seed = 2 then (c.c0, 0)
  else if c.seed = 3 then (k.lt.chain[c.slot]?.getD none).getD (0, 0)
  else (0, 0)

/-- A command ended by a fault after issue (R317): it moves nothing more, its chained successor ends with its code (R313). One that has not
started reports the value that it would have started from (R314). -/
def Ctx.endCmd (k : Ctx) (n : Nat) (c : Cmd) (code : Nat) : Ctx :=
  let c := if c.admitted then c else { c with sum := (k.chainStart c).1 }
  { k.setChain c code with
    cmds := k.cmds.set n { c with fault := code, ahead := none } }

/-- A CSEND that has left in part ends at the sender: the receiving package is told (R317) [60]. -/
def State.stopSend (s : State) (id : Nat) (k : Ctx) (n : Nat) (c : Cmd) (code : Nat) : State :=
  let port := (k.slotOf c.slot).port
  let s := s.setCtx id (k.endCmd n c code)
  if (s.port port).lanes = 0 then s else { s with out := s.out ++ [.flit port (.stop c.src code)] }

/-- The failing chunk's units old or new, and the command ended. -/
def State.failChunk (s : State) (id : Nat) (k : Ctx) (n : Nat) (c : Cmd) (code : Nat) : State :=
  let parts := if code = 0x02 then [] else (s.newParts id k c).filter fun p => s.unitNew p.1
  let drawn : State := s.drew (2 ^ 44)
  if c.kind = .store then
    let out := parts.flatMap fun p =>
      match s.outPieces k c p.1 p.2 with
      | .ok ps => ps
      | _ => []
    drawn.setCtx id (k.endCmd n { c with out := c.out ++ out } code)
  else if c.kind = .send then s.stopSend id k n c code
  else
    let (s, k) := drawn.fetched id k c (parts.flatMap fun w => wholeWrites w.1 w.2)
    s.setCtx id (k.endCmd n c code)

/-- No earlier command of the same slot still moves data (R305). -/
def Ctx.slotTurn (k : Ctx) (n : Nat) (c : Cmd) : Bool :=
  !((k.cmds.take n).any fun e => e.slot == c.slot && !e.through && e.fault == 0)

/-- A command that may move: on its core, not paused, not ended, its slot's turn. -/
def Ctx.cmdLive (k : Ctx) (n : Nat) (c : Cmd) : Bool :=
  k.onCore && !c.paused && !c.through && c.fault == 0 && k.slotTurn n c

/-- Bytes that a command moves per occurrence cycle: half on a port with one lane (14 R404). -/
def State.bytesPerCycle (s : State) (sl : Slot) : Nat :=
  if sl.path = 5 ∧ (s.port sl.port).lanes = 1 then 8 * 2 ^ sl.rate else 16 * 2 ^ sl.rate

/-- The cycle in which the chunk under way is done, at the rate of the command's slot. -/
def State.chunkCycle (s : State) (k : Ctx) (c : Cmd) : Nat :=
  let sl := k.slotOf c.slot
  let per := s.bytesPerCycle sl
  sl.cycle c.first ((c.wire c.nextMoved - c.wire c.mark - c.part + per - 1) / per)

/-- Whether the next movement of a command is due: its start, the start of a chunk, or the chunk under way. -/
def State.chunkDue (s : State) (k : Ctx) (n : Nat) (c : Cmd) : Bool :=
  k.cmdLive n c && (k.slotOf c.slot).holds s.cycle &&
  (if c.begun then c.ahead.isNone || decide (s.chunkCycle k c ≤ s.cycle)
   else decide (Nat.max c.first (k.lastMove[c.slot]?.getD 0) ≤ s.cycle))

/-- A number for the flits of a CSEND, or of a chain of them, that starts now: no other has it. -/
def State.newSource (s : State) (id : Nat) (c : Cmd) : Nat := ((s.cycle * 1024 + id) * 64 + c.slot) * 2 ^ 15 + s.pkg

/-- The number under which a CSEND leaves, and whether its chain goes on from what the receiving package has: its predecessor has gone to
the same package and is not acknowledged yet (R313, R320). -/
def State.sendFrom (s : State) (id : Nat) (k : Ctx) (n : Nat) (c : Cmd) : Nat × Bool :=
  match (k.cmds.take n).reverse.find? fun e => e.kind == .send && e.slot == c.slot && e.seed != 0 with
  | some e => if c.seed = 3 ∧ e.pkg = c.pkg then (e.src, true) else (s.newSource id c, false)
  | none => (s.newSource id c, false)

/-- The predecessor of a chained CSEND has gone to another package and is not acknowledged: the value over its bytes as they arrive, and its
fault, are not known (R313) [60]. -/
def Ctx.chainWaits (k : Ctx) (n : Nat) (c : Cmd) : Bool :=
  c.kind == .send && c.seed == 3 && c.moved == 0 &&
  ((k.cmds.take n).reverse.find? fun e => e.kind == .send && e.slot == c.slot && e.seed != 0).any fun e => e.pkg != c.pkg && e.fault == 0

/-- A command starts to move, or goes on after a pause or a restore: its chain, its port and route, its header flit. -/
def State.beginCmd (s : State) (id : Nat) (k : Ctx) (n : Nat) (c : Cmd) : Option State :=
  let sl := k.slotOf c.slot
  let (sum, pred) := if c.moved = 0 then k.chainStart c else (c.sum, 0)
  let end_ (code : Nat) : Option State := some (s.setCtx id (k.endCmd n { c with sum := sum, admitted := true } code))
  if c.doomed ≠ 0 then end_ c.doomed
  else if k.chainWaits n c then none
  else if pred ≠ 0 then end_ pred
  else if c.kind = .send ∧ (s.port sl.port).lanes = 0 then end_ 0x13
  else if c.kind = .send ∧ !(Config.route sl.port c.pkg) then end_ 0x08
  else if k.zeroing then none
  else if c.isFetch && k.pends.any (fun p => p.strm == c.strm && decide (p.ord < c.ord) &&
      p.writes.any fun w => c.near ≤ w.1 && w.1 < c.near + c.nearLen) then none
  else
    let c := { c with begun := true, admitted := true, first := s.cycle, mark := c.moved, part := 0, sum := sum }
    let (src, open_) := if c.moved = 0 then s.sendFrom id k n c else (c.src, false)
    let c := { c with src := src }
    let h : SendHeader := ⟨c.pkg, c.far, c.len, sum, c.seed, open_, k.tenant, src⟩
    let s := if c.kind = .send ∧ c.moved = 0 then { s with out := s.out ++ [.flit sl.port (.header h)] } else s
    some (s.setCtx id { k with cmds := k.cmds.set n c })

/-- The chunk of a command that begins: its tags admit it (05 R159), then it is read; the context as admitted, the command and the tags. -/
def State.nextChunk (s : State) (id : Nat) (k : Ctx) (c : Cmd) : Att (Ctx × Cmd × Chunk) :=
  let a := k.cmdTags c
  if !(s.engineTurn a) then .wait none else
  (k.admitFor c.ord a).bind fun k =>
    let c := { c with tagged := c.tagged || !a.isNone, wtags := c.wtags ++ a.w, rtags := c.rtags ++ a.r }
    (s.readChunk id k c).bind fun ch => .ok (k, c, ch)

/-- The bytes of a CQFETCH's region in ascending order: indices, then scales. -/
def Cmd.cb4Bytes (c : Cmd) : List Byte :=
  ((c.out.filter fun p => p.1 == 0).flatMap (·.2.2.2)) ++ (c.out.filter fun p => p.1 == 1).flatMap (·.2.2.2)

/-- A chunk has been moved: progress, and at the last one the slot's turn and the chain (R305, R313). -/
def Ctx.chunkDone (k : Ctx) (n : Nat) (c : Cmd) (cycle : Nat) (late : Bool) : Ctx :=
  let next := c.nextMoved
  let last := next == c.nearLen
  let c := { c with moved := next, final := cycle, through := last
                    first := if late then cycle + 1 else c.first, mark := if late then next else c.mark
                    part := if late then 0 else c.part }
  let c := if last && c.kind == .qfetch then { c with sum := c.add c.cb4Bytes } else c
  let k := { k with cmds := k.cmds.set n c }
  if !last then k else
  { k.setChain c 0 with
    lastMove := k.lastMove.setIfInBounds c.slot (cycle + 1) }

/-- The chunk under way of a command fails: a translation that is not present pauses the command at the chunk's start and traps in the
issuing stream; another fault ends the command (R317). -/
def State.stopChunk (s : State) (id : Nat) (k : Ctx) (n : Nat) (c : Cmd) (code : Nat) (info : Word) (lvl : Nat) (wk : Bool) : State :=
  if code = 0x09 ∧ k.res = .resident then
    let k := { k with cmds := k.cmds.set n { c with begun := false, paused := true, raised := true, ahead := none } }
    s.setCtx id (k.upd c.ord fun k => k.raise { asyncFault c.strm 0x09 info c.tag c.slot s.cycle with lvl := lvl, wk := wk })
  else s.failChunk id k n c code

/-- COURIER_CHUNK (R304, R317): the k-th command of a context starts, or begins its next chunk, or its chunk under way is moved in its
slot's cycles. -/
def execCourierChunk (ctx k_ : Nat) (s : State) : Host.Outcome State Fault Refusal :=
  match s.ctx ctx with
  | none => .next s
  | some k =>
    match k.cmds[k_]? with
    | none => .next s
    | some c =>
      if !(s.chunkDue k k_ c) then .next s
      else if !c.begun then .next ((s.beginCmd ctx k k_ c).getD s)
      else match c.ahead with
        | none => match s.nextChunk ctx k c with
          | .ok (k, c, ch) =>
            .next ((s.drewStores k).setCtx ctx { k with cmds := k.cmds.set k_ { c with ahead := some ch } })
          | .wait q => .next (s.asks q)
          | .trap code info lvl wk _ _ => .next (s.stopChunk ctx k k_ c code info lvl wk)
        | some ch => match s.moveChunk ctx k c ch with
          | .ok (s', k', c') => .next (s'.setCtx ctx (k'.chunkDone k_ c' s.cycle (decide (s.chunkCycle k c < s.cycle))))
          | .wait q => .next (s.asks q)
          | .trap code info lvl wk _ _ => .next (s.stopChunk ctx k k_ c code info lvl wk)

/-! Completion (R306, R316) -/

/-- The record of a command (R316, R314). -/
def Cmd.record (c : Cmd) (ck : W32) : Word :=
  let mism := c.cmp && c.fault == 0 && (if c.seed = 0 then 0 else ck) != c.expect
  BitVec.ofNat 64 (c.tag % 2 ^ 8 + c.fault % 2 ^ 8 * 2 ^ 8 + (if mism then 2 ^ 16 else 0) + (if c.late then 2 ^ 17 else 0) +
    c.slot % 2 ^ 6 * 2 ^ 18 + (if c.seed = 0 then 0 else ck.toNat) * 2 ^ 32)

/-- A command completes: a store's writes are published, with the signature of a paired context (13 R391); its record is posted, its
accesses leave their tags, its events are added. -/
def State.completeCmd (s : State) (id : Nat) (k : Ctx) (n : Nat) (c : Cmd) (ck : W32) : State :=
  let outs := if c.kind = .store then c.out else []
  let words (ps : List (Nat × Nat × Nat × List Byte)) : List StoreWord := ps.flatMap fun p => wordsAt p.2.1 p.2.2.1 p.2.2.2
  let acq := words (outs.filter fun p => p.1 == 0)
  let s := (outs.filter fun p => p.1 == 0).foldl (fun s p => s.publishBytes id p.2.2.1 p.2.2.2) s
  let k := { k with
    cmds := k.cmds.eraseIdx n
    sig := if k.paired then (words outs).foldl signWord k.sig else k.sig
    unrecov := k.unrecov || (decide (k.expOrd ≤ c.ord) && !outs.isEmpty) }
  let k := if acq.isEmpty then k else
    k.upd c.ord fun k => { k with arrived := k.arrived ++ Strm.all.map fun st => (st, c.postmark, acq) }
  let k := (k.post c.ord .co (c.record ck) [] acq).upd c.ord (·.leaveTags c.wtags c.rtags)
  let s := (outs.filter fun p => p.1 != 0).foldl (fun s p => s.sramPutBy id k.slice (s.sramWrites k.slice p.2.2.1 p.2.2.2)) (s.setCtx id k)
  s.addEvents id c.ord c.counted

/-- The running value that a command's record reports. -/
def Cmd.ck (c : Cmd) : W32 := if c.kind = .qfetch ∧ c.fault ≠ 0 then c.add c.cb4Bytes else c.sum

/-- An earlier CSEND of the same slot to the same package has not completed: they complete in issue order (19 R431). -/
def Ctx.sendBehind (k : Ctx) (n : Nat) (c : Cmd) : Bool :=
  (k.cmds.take n).any fun e => e.kind == .send && e.slot == c.slot && e.pkg == c.pkg

/-- Whether the n-th command's promised event, or its end by a fault, is due; one whose data has all moved completes while its context is
being saved too (R318). -/
def Ctx.cmdDue (k : Ctx) (n : Nat) (c : Cmd) (cycle : Nat) : Bool :=
  (k.onCore || k.res == .saving) && !c.event &&
  (if c.fault != 0 then !(c.kind == .send && k.sendBehind n c)
   else c.through && c.final + 1 + Config.pathLat (k.slotOf c.slot).path ≤ cycle)

/-- COURIER_COMPLETE (R306, R316): the k-th command of a context reaches its promised event, or has ended with a fault. A CSEND
whose last flit has left awaits its acknowledgement. -/
def execCourierComplete (ctx k_ : Nat) (s : State) : Host.Outcome State Fault Refusal :=
  match s.ctx ctx with
  | none => .next s
  | some k =>
    match k.cmds[k_]? with
    | none => .next s
    | some c =>
      if !(k.cmdDue k_ c s.cycle) then .next s
      else if c.kind = .send ∧ c.fault = 0 then .next (s.setCtx ctx { k with cmds := k.cmds.set k_ { c with event := true } })
      else .next (s.completeCmd ctx k k_ c c.ck)

/-- The codes that an acknowledgement may carry (R316). -/
def ackCode (code : Nat) : Bool := code == 0 || code == 0x08 || code == 0x09 || code == 0x0A || code == 0x13

/-- CSEND_ACKNOWLEDGEMENT (R316, R320, 19 R431): the receiver's final checksum and fault arrive and complete the command; those of
one slot to one package complete in issue order. The checksum is what a chained successor goes on from (R313), unless one has ended. -/
def execCsendAcknowledgement (ctx k_ : Nat) (c_ : W32) (code : Nat) (s : State) : Host.Outcome State Fault Refusal :=
  match s.ctx ctx with
  | none => .next s
  | some k =>
    match k.cmds[k_]? with
    | none => .next s
    | some c =>
      let next := (k.cmds.drop (k_ + 1)).any fun e => e.slot == c.slot && e.seed != 0 && (e.through || e.fault != 0)
      if c.kind != .send || c.fault != 0 || !(k.onCore || k.res == .saving) || k.sendBehind k_ c || !c.begun || !(ackCode code) || (code == 0 && !c.event) then .next s
      else
        let c := { c with fault := code, sum := c_ }
        .next (s.completeCmd ctx (if next then k else k.setChain c code) k_ c c_)

/-- The counter has passed a command's postmark before its promised event (R306). -/
def Ctx.missed (k : Ctx) (c : Cmd) (cycle : Nat) : Bool :=
  (k.onCore || (k.res == .saving && c.through)) && !c.event && !c.late && c.fault == 0 && decide (c.postmark < cycle)

/-- A command moves in the present cycle: it can start, or its chunk under way is done. -/
def State.chunkMoves (s : State) (id : Nat) (k : Ctx) (n : Nat) (c : Cmd) : Bool :=
  s.chunkDue k n c &&
  (if !c.begun then (s.beginCmd id k n c).isSome
   else match c.ahead with
    | none => (s.nextChunk id k c).moves
    | some ch => (s.moveChunk id k c ch).moves)

/-- PROMISE_MISSED (R306): the counter has passed the postmark without the promised event: the late bit, and unless nt is set the
fault 0x0D in the issuing stream. -/
def execPromiseMissed (ctx k_ : Nat) (s : State) : Host.Outcome State Fault Refusal :=
  match s.ctx ctx with
  | none => .next s
  | some k =>
    match k.cmds[k_]? with
    | none => .next s
    | some c =>
      if !(k.missed c s.cycle) then .next s
      else
        let k := { k with cmds := k.cmds.set k_ { c with late := true } }
        .next (s.setCtx ctx (if c.nt || c.raised || c.resched then k
          else k.upd c.ord fun k => k.raiseMiss { asyncFault c.strm 0x0D (BitVec.ofNat 64 c.postmark) c.tag c.slot s.cycle with ord := c.ord }))

/-! The receiving package (R320, R339, 19 R430-R432) -/

/-- The page tables of a job on this package: those of a resident context of it, or what the kernel holds. -/
def State.jobRoot (s : State) (job : Nat) : Word :=
  match s.ctxs.find? (fun p => p.2.tenant == job && p.2.res == .resident) with
  | some p => p.2.lt.sys.ptroot
  | none => Config.jobRoot job

/-- The place of a requester on the I/O die, which no compute die's walkers serve. -/
def ioDie : Nat := outsider

/-- The physical pieces of a range under a job's page tables. -/
def State.jobPieces (s : State) (root : Word) (va n : Nat) : Att (List (Nat × Nat)) :=
  Att.foldl (fun acc p => (s.translate ioDie root p.1 .write).bind fun pa => .ok (acc ++ [(pa, p.2)])) [] (pieces (n / 65536 + 2) va n)

/-- A port's record of an arriving CSEND replaced. -/
def Port.setRecv (p : Port) (r : Recv) : Port := { p with recvs := p.recvs.filter (fun q => q.src != r.src) ++ [r] }

/-- Whole words published at physical pieces (R432). -/
def State.publishPieces (s : State) (ps : List (Nat × Nat)) (bs : List Byte) : State :=
  (ps.foldl (fun (acc : State × List Byte) p => (acc.1.publishBytes outsider p.1 (acc.2.take p.2), acc.2.drop p.2)) (s, bs)).1

/-- The writer under which the CSENDs of one context on one slot of a package are published: the sender's number without the cycle (R339). -/
def sendWriter (src : Nat) : Nat := 2 ^ 40 + src % 2 ^ 31

/-- Bytes of a CSEND published (R339, R432): each word written is a release at system scope of all that its slot's CSENDs have published. -/
def State.publishSend (s : State) (src : Nat) (out : List (Nat × List Byte)) : State :=
  let w := sendWriter src
  let s := out.foldl (fun s o => s.publishBytes w o.1 o.2) s
  (out.flatMap fun o => (List.range (o.2.length / 8)).map fun j => o.1 + 8 * j).foldl
    (fun s pa => s.addRelease ⟨pa, w, outsider, 5, s.cycle, []⟩) s

/-- An arriving CSEND ends: what it has written is published at once (R339, R432), its acknowledgement leaves, where its sender still waits for
one, and its chain has its value. -/
def State.ackRecv (s : State) (port : Nat) (p : Port) (r : Recv) (code : Nat) (waits : Bool) : State :=
  let p := if r.h.chain = 0 then p else { p with chains := Sparse.set p.chains r.src (r.sum, code) }
  let p := if code = 0 then { p with recvs := p.recvs.filter fun q => q.src != r.src } else p.setRecv { r with fault := code, out := [] }
  let s := s.publishSend r.src r.out
  { s.setPort port p with out := s.out ++ if waits then [.ack r.src r.sum code] else [] }

/-- Bytes at physical pieces. -/
def piecesOf (ps : List (Nat × Nat)) (bs : List Byte) : List (Nat × List Byte) :=
  (ps.foldl (fun (acc : List (Nat × List Byte) × List Byte) p => (acc.1 ++ [(p.1, acc.2.take p.2)], acc.2.drop p.2)) ([], bs)).1

/-- A flit that goes on to another package leaves by port `out` (R320); where that port is down it is lost. -/
def State.forward (s : State) (out : Nat) (f : Flit) : State :=
  if (s.port out).lanes = 0 then s else { s with out := s.out ++ [.flit out f] }

/-- The header of a CSEND at a port: one for this package opens a command, which starts from the header's value or goes on from the chain
that this port has; one for another goes on by the fabric's route, and where there is none, or its port is down, the command ends with
0x08 or 0x13 and the value that it starts from (R314, R320, 14 R404). -/
def State.openRecv (s : State) (port : Nat) (p : Port) (h : SendHeader) : State :=
  let (sum, fault) : W32 × Nat := if h.chain = 0 then (0, 0)
    else if h.open_ then (Sparse.get p.chains h.src).getD (h.c0, 0) else (h.c0, 0)
  let r : Recv := ⟨h.src, h, [], 0, sum, 0, []⟩
  let p := { p with transit := Sparse.erase p.transit h.src }
  if fault ≠ 0 then s.ackRecv port p r fault true
  else if h.pkg ≠ s.pkg then
    match Config.nextHop port h.pkg with
    | none => s.ackRecv port p r 0x08 true
    | some out =>
      if (s.port out).lanes = 0 then s.ackRecv port p r 0x13 true
      else (s.setPort port { p with transit := Sparse.set p.transit h.src out }).forward out (.header h)
  else s.setPort port (p.setRecv r)

/-- CSEND_RECEIVE (R320): the oldest flit that a port holds is received. A header opens a command; the data of a whole chunk is
translated, and with the last chunk, or at a fault, the command's writes are published and its acknowledgement is sent. The flits of a
command for another package go on. Where the sender has ended the command, the chunks that are done keep their writes (R317). -/
def execCsendReceive (port : Nat) (s : State) : Host.Outcome State Fault Refusal :=
  let p := s.port port
  match p.rx with
  | [] => .next s
  | .header h :: rest => .next (s.openRecv port { p with rx := rest } h)
  | .stop src code :: rest =>
    let p := { p with rx := rest }
    match Sparse.get p.transit src, p.recvs.find? (fun r => r.src == src) with
    | some out, _ => .next ((s.setPort port p).forward out (.stop src code))
    | none, some r => .next (if r.fault = 0 then s.ackRecv port p r code false else s.setPort port p)
    | none, none => .next (s.setPort port p)
  | .data src bs :: rest =>
    let p := { p with rx := rest }
    match Sparse.get p.transit src with
    | some out => .next ((s.setPort port p).forward out (.data src bs))
    | none =>
    match p.recvs.find? (fun r => r.src == src) with
    | none => .next (s.setPort port p)
    | some r =>
      let n := Nat.min 4096 (r.h.len - r.moved)
      let got := r.got ++ bs
      if r.fault ≠ 0 then .next (s.setPort port p)
      else if got.length < n then .next (s.setPort port (p.setRecv { r with got := got }))
      else
        let data := got.take n
        let root := s.jobRoot r.h.job
        let va := r.h.far + r.moved
        match s.jobPieces root va n with
        | .wait q => .next (s.asks q)
        | .ok ps =>
          let r := { r with got := [], moved := r.moved + n, sum := if r.h.chain = 0 then 0 else checksum (n / 4) r.sum data
                            out := r.out ++ piecesOf ps data }
          if r.moved < r.h.len then .next (s.setPort port (p.setRecv r)) else .next (s.ackRecv port p r 0 true)
        | .trap code _ _ _ _ _ =>
          let some_ := (List.range (n / 16)).filterMap fun j =>
            if s.unitNew (va + 16 * j) then
              match s.translate ioDie root (va + 16 * j) .write with
              | .ok pa => some (pa, (data.drop (16 * j)).take 16)
              | _ => none
            else none
          .next ((s.drew (2 ^ 44)).ackRecv port p { r with out := r.out ++ some_ } code true)

end Sys2Proof.Machine
end

