-- ==== Sys2Proof/Machine/Recovery.lean ====
section
/-! DEFINITION. Checking, redundancy and recovery (13): rollback of an exposure, the checker, soft errors, the patrol, paired
kernels, and the end of a context at a fault that the resident kernel judges. -/

namespace Sys2Proof.Machine

open Sys2Proof

/-! Rollback (R380-R383) -/

/-- A stream of the shadow that resumes in cycle `t`: a time of the shadow's cycle counts from `t` on. -/
def StreamState.resumeAt (ss : StreamState) (at_ t : Nat) : StreamState :=
  { ss with ready := if at_ < ss.ready then ss.ready - at_ + t else t, lastIssue := t, recent := [] }

/-- The light state of cycle `at_` resumed in cycle `t`: results in flight land with their remaining latencies (12 R368). -/
def Light.resumeAt (l : Light) (at_ t : Nat) : Light :=
  { l with
    c := l.c.resumeAt at_ t, l := l.l.resumeAt at_ t, x := l.x.resumeAt at_ t, s := l.s.resumeAt at_ t
    flights := l.flights.map fun f => { f with land := f.land - at_ + t }
    hold := match l.hold with
      | .move till v => .move (till - at_ + t) v
      | h => h }

/-- The 64-byte block of a location (R386). -/
def locBlock : Loc → Loc
  | .dev w => .dev (w / 8)
  | .sp c w => .sp c (w / 8)
  | .acc c i => .acc c (i / 16)
  | .tile c t w => .tile c t (w / 8)
  | .sram c w => .sram c (w / 8)
  | .reg c st g => .reg c st (g / 8)
  | .file c (.q st n) => .file c (.q st (n / 8))
  | .file c (.o st _) => .file c (.o st 0)
  | .file c (.p st _) => .file c (.p st 0)
  | .file c (.pipe p _) => .file c (.pipe p 0)
  | .file c (.spill n) => .file c (.spill (n / 8))
  | .residue l => .residue (locBlock l)
  | l => l

/-- Whether light state holds a mark at a place, or where its datum may have been before. -/
def Light.marked (l : Light) : Loc → Bool
  | .file _ r => l.bad.any (r.kin ·)
  | .lane _ st _ => (l.strm st).queue.any fun i => match i with
    | .lane x => x.bad
    | .mark _ => false
  | _ => false

/-- A location of registers or heavy state whose contents a rollback of the context brings back (R383). -/
def Ctx.restores (k : Ctx) (id : Nat) : Loc → Bool
  | .reg c _ _ => c == id
  | .tile c t _ => c == id && k.preTile.any fun p => p.1 == t
  | .sp c w => c == coreOf id && k.preSp.any fun p => p.1 == w / 64
  | .acc c i => c == coreOf id && k.preAcc.any fun p => p.1 == i / 16384
  | _ => false

/-- Whether a rollback of the context restores a location with good data, or drops what holds it and makes it anew (R386): what it brings back
is as the pre-image, or the shadow, had it, marks included (R385). -/
def Ctx.rollbackCleans (k : Ctx) (id : Nat) (loc : Loc) : Bool :=
  match loc with
  | .file c _ => c == id && !(k.shadow.any fun l => l.marked loc)
  | .lane c _ _ => c == id && !(k.shadow.any fun l => l.marked loc)
  | .fifo c r _ => c == id && !(k.shadow.any fun l => (l.fifo r).entries.any fun e => e.bad.contains loc)
  | .work c _ _ => c == id
  | .cmd c _ => c == id
  | .run c _ => c == id
  | loc => k.restores id loc && !k.preBad.contains loc

/-- What came of work older than the shadow, which a rollback leaves alone: its fault comes back with it (R383). -/
def Ctx.raisedBefore (k : Ctx) (f : PendFault) : Bool := k.shadow.any fun l => l.faults.contains f

/-- The exposure can be rolled back (R382). -/
def Ctx.recoverable (k : Ctx) : Bool := k.shadow.isSome && !k.unrecov

/-- An operation issued in an exposure that is rolled back: one that has not dispatched is dropped; the head goes on to the end of its
block, or of its completion, without effect (R383 step 2). -/
def Bind.cancel (b : Bind) : Option Bind :=
  if b.dispatched then some { b with cancelled := true, isOver := b.isOver || !b.running, waiting := false } else none

/-- What a stream has issued before the shadow: the check of that goes on (R379), while what the exposure issued is undone with its check. -/
def Ctx.beforeShadow (k : Ctx) (st : Strm) (i : Issued) : Bool :=
  decide (i.cycle < k.shadowAt) || k.shadow.any fun l => (l.strm st).recent.any fun j => j.cycle == i.cycle

/-- A rollback (R383): what the exposure issued is dropped or cancelled, pre-images and the shadow come back, and the streams resume in a
cycle that is a free choice of the next 4096. `counts`: a mismatch or a residue failure causes it (R388). free[s] and the last move of a slot stay
as the dropped commands have left them: R366 has them not among the light state, and step 7 of R383 says of postmarks only that they are
computed afresh; the model's choice [32]. The check of an instruction that the exposure issued goes with it; that of an older one goes on [68]. -/
def State.rollback (s : State) (id : Nat) (k : Ctx) (counts : Bool) : State :=
  match k.shadow with
  | none => s
  | some l =>
    let (d, s) := s.draw
    let t := s.cycle + 1 + d % 4096
    let old (ord : Nat) : Bool := decide (ord < k.expOrd)
    let core := coreOf id
    let co := s.core core
    let acc := k.preAcc.foldl (fun (m : Sparse W32) p =>
      p.2.foldl (fun m c => Sparse.set m c.1 c.2) (m.filter fun c => c.1 / 16384 != p.1)) co.acc
    let sp := k.preSp.foldl (fun (m : Memory) p =>
      p.2.foldl (fun m c => Sparse.set m c.1 c.2) (m.filter fun c => c.1 / 512 != p.1)) co.sp
    let run := match co.seq.run with
      | some r => if r.ctx = id ∧ !(old r.ord) then none else some r
      | none => none
    let s := s.setCore core { co with acc := acc, sp := sp, seq := { co.seq with run := run }
                                      rel := { co.rel with rb := Nat.min (co.rel.rb + 1) 65535 } }
    let s := { s with poison := (s.poison.filter (fun p => !(k.restores id p)) ++ k.preBad.filter (k.restores id)).dedup }
    let back := Strm.all.foldl (fun (m : Light) st => m.setStrm st { m.strm st with recent := (k.strm st).recent.filter (k.beforeShadow st) })
      { l.resumeAt k.shadowAt t with ord := k.lt.ord }
    let s := s.setCtx id { k with
      lt := back, halted := k.halted && !k.bkptHalt, bkptHalt := false, stopped := [], tiles := k.shTiles, frags := k.shFrags, acqs := k.shAcqs, arrived := k.shArrived, rank := k.shRank, wd := k.shWd
      mats := k.mats.filterMap fun m => if old m.ord then some m else m.bind.cancel.map fun b => { m with bind := b, reads := [] }
      pends := k.pends.filter fun p => old p.ord
      quants := k.quants.filterMap fun q => if old q.ord then some q else q.bind.cancel.map fun b => { q with bind := b }
      crds := k.crds.filterMap fun c => if old c.ord then some c else c.bind.cancel.map fun b => { c with bind := b, utags := [], ahead := none }
      xf := k.xf.filter fun q => old q.ord
      xfRun := k.xfRun.filter fun r => old r.ord
      xfFault := false
      cmds := k.cmds.filter fun c => old c.ord
      loads := k.loads.filter fun l => old l.ord
      bnd := k.preBnd.getD k.bnd
      preAcc := [], preSp := [], preTile := [], preBnd := none, peek := []
      preBad := k.preBad.filter fun p => match p with
        | .reg .. => true
        | _ => false
      rolls := if counts then k.rolls + 1 else 0, rollAt := some s.cycle }
    [UnitClass.matrix, .quantiser, .cordic].foldl (fun s cls =>
      if ((s.ctx id).bind fun k => k.headBind cls).any fun b => !b.cancelled || !b.isOver then s else s.giveUp id cls false) s

/-! The end of a context at a fault (12 R355, R360) -/

/-- A report of the kernel that loses nothing (12 R360). -/
def State.logEvent (s : State) (id : Nat) (k : Ctx) (code : Nat) : State :=
  let r := k.lt.sys
  { s with reports := s.reports ++ [⟨id, code, some 'N', none, s.cycle, r.tcause, r.tpc, r.tinfo0, r.tinfo1⟩] }

/-- The reliability record of a context's core, changed. -/
def State.relUpd (s : State) (core : Nat) (f : RelRec → RelRec) : State :=
  let co := s.core core
  s.setCore core { co with rel := f co.rel }

/-- A context ends at a fault: the trap registers are set and it issues nothing more. At 0x11 its run leaves the sequencer at a word
boundary, and gives way from then on to every context that waits (04 R139). -/
def State.endAtFault (s : State) (id : Nat) (k : Ctx) (f : PendFault) (grade : Option Char) : State :=
  let k := k.setSys (k.trapRegs f (k.lt.sys.tcause.getLsbD 11))
  let s := if grade = some 'S' ∨ grade = some 'E' then s.relUpd (coreOf id) fun r => { r with nr := Nat.min (r.nr + 1) 255 } else s
  let k := k.setLt { k.lt with faults := [], hold := .none }
  let core := coreOf id
  let co := s.core core
  match co.seq.run with
  | some r =>
    if r.ctx = id ∧ f.code = 0x11 then
      let s := s.setCore core { co with seq := { co.seq with run := none } }
      s.endCtx id { k with xfRun := some { r with since := s.cycle, gives := true, till := 0 } } f.code grade none
    else s.endCtx id k f.code grade none
  | none => s.endCtx id k f.code grade none

/-- The last uncorrectable error at a location's block is a second one within 24 hours, or a residue failure there has recurred after a rollback of
the exposure (R386). -/
def State.repeated (s : State) (k : Ctx) (loc : Loc) : Bool :=
  let fails := s.mgmt.uncorrected.filter fun u => locBlock u.1 == .residue (locBlock loc) && decide (k.shadowAt ≤ u.2)
  (match (s.mgmt.uncorrected.filter fun u => locBlock u.1 == locBlock loc).reverse with
    | u :: v :: _ => decide (u.2 < v.2 + 86400 * Config.second)
    | _ => false) ||
  k.rollAt.any fun t => (fails.any fun u => decide (u.2 ≤ t)) && fails.any fun u => decide (t < u.2)

/-- The core or page of a location retired by the monitor (R386). Pages are numbered in 64 KiB; cores from 2^32 on. For a
place in cluster SRAM, for which R386 names no core, it is the cluster's first [68]. -/
def State.retire (s : State) (loc : Loc) : State :=
  let core (c : Nat) (s : State) : State :=
    let s := s.setCore c { s.core c with retired := true }
    State.cause { s with mgmt := { s.mgmt with retired := s.mgmt.retired ++ [2 ^ 32 + c] } } 6
  match loc with
  | .dev w => State.cause { s with mgmt := { s.mgmt with retired := s.mgmt.retired ++ [w / 8192] } } 6
  | .sp c _ => core c s
  | .acc c _ => core c s
  | .tile c _ _ => core (coreOf c) s
  | .reg c _ _ => core (coreOf c) s
  | .sram c _ => core (8 * c) s
  | .file c _ => core (coreOf c) s
  | .fifo c _ _ => core (coreOf c) s
  | .lane c _ _ => core (coreOf c) s
  | .work c _ _ => core (coreOf c) s
  | .cmd c _ => core (coreOf c) s
  | .run c _ => core (coreOf c) s
  | _ => s

/-- A rollback for this fault counts towards R388. -/
def State.countsRoll (s : State) (k : Ctx) (f : PendFault) : Bool :=
  f.code == 0x12 || f.locs.any fun l => s.mgmt.uncorrected.any fun u => u.1 == .residue l && decide (k.shadowAt ≤ u.2)

/-- The grade with which a context ends at 0x12 or 0x13; none where the device rolls the context back (R379, R385, R386, R388). -/
def State.verdict (s : State) (id : Nat) (k : Ctx) (f : PendFault) : Option Char :=
  if f.locs.any (s.repeated k) then some 'E'
  else if !k.recoverable || k.raisedBefore f || !(f.locs.all (k.rollbackCleans id)) then some 'S'
  else if s.countsRoll k f && decide (2 ≤ k.rolls) then some 'S'
  else none

/-- What follows 0x12 or 0x13 (R379, R386, R388, 12 R360): the context is rolled back with nothing lost, or it ends; the third rollback
that counts withholds the core, and grade E retires the place. That third one counts in rb, though no state goes back: the model's
choice [68]. -/
def State.recover (s : State) (id : Nat) (k : Ctx) (f : PendFault) : State :=
  match s.verdict id k f with
  | none => (s.rollback id k (s.countsRoll k f)).logEvent id (k.setSys (k.trapRegs f (k.lt.sys.tcause.getLsbD 11))) f.code
  | some g =>
    let t := s.endAtFault id k f (some g)
    if g = 'E' then match f.locs.find? (s.repeated k) with
      | some loc => t.retire loc
      | none => t
    else if k.recoverable && s.countsRoll k f && decide (2 ≤ k.rolls) then
      t.relUpd (coreOf id) fun r => { r with rb := Nat.min (r.rb + 1) 65535, off := true }
    else t

/-- The fault for which the device rolls a context back at once: a mismatch, or consumed poison that comes first (R383 step 1). It is the device
that acts, no trap that is taken, so that it does so in a handler, too, where faults that go to the kernel wait for the ERET (12 R357). -/
def State.undoes (s : State) (id : Nat) (k : Ctx) : Option PendFault :=
  if !(k.res == .resident || k.res == .saving) then none
  else (((k.lt.faults.find? fun f => f.code == 0x12).orElse fun _ => k.nextFault.filter fun f => f.code == 0x13).orElse fun _ =>
      k.lt.faults.find? fun f => f.code == 0x13 && !(k.takeable f)).filter
    fun f => (s.verdict id k f).isNone

/-- That rollback. -/
def undo (ctx : Nat) (s : State) : Host.Outcome State Fault Refusal :=
  match s.ctx ctx with
  | none => .next s
  | some k => match s.undoes ctx k with
    | some f => .next (s.recover ctx k f)
    | none => .next s

/-! The checker (R377-R379) -/

/-- A word that the checker re-executes (R377): every C word, the scalar subset of L, X and S, and every engine and courier command [68]. -/
def checked (st : Strm) (w : W32) (cont : Option W32) : Bool :=
  st == .c || (decode st w cont).any fun i => match i with
    | .saluAdd .. | .saluSub .. | .saluAnd .. | .saluOr .. | .saluXor .. | .saluShl .. | .saluShr .. | .saluMin .. | .saluMax ..
    | .saluMul .. | .saluMov .. | .lxsAddi .. | .lxsLi .. | .lxsLih .. | .lxsRgn .. | .lxsBfx .. | .lxsPset .. | .lxsNop ..
    | .mma .. | .mmat .. | .mmac .. | .tcon .. | .cplan .. | .vquant .. | .vdeq .. | .crdRot .. | .crdVec .. | .crdHrot .. | .crdHvec ..
    | .crdLin .. | .xfgo .. | .cfetch .. | .cqfetch .. | .cstore .. | .csend .. => true
    | _ => false

/-- The command that a stream issued in a cycle taken from its queue: it has failed the match and never starts (R378). -/
def Ctx.dropCommand (k : Ctx) (st : Strm) (cycle : Nat) : Ctx :=
  let at_ (x : Strm) (c : Nat) : Bool := x == st && c == cycle
  let qs := (k.quants.filter fun q => at_ .x q.issued && !q.bind.dispatched).map (·.ord)
  { k with
    mats := k.mats.filter fun m => !(at_ .x m.issued && !m.bind.dispatched)
    quants := k.quants.filter fun q => !(qs.contains q.ord)
    pends := k.pends.filter fun p => !(p.quant && qs.contains p.ord)
    crds := k.crds.filter fun c => !(at_ .x c.issued && !c.bind.dispatched)
    xf := k.xf.filter fun q => !(at_ .x q.cycle)
    cmds := k.cmds.filter fun c => !(at_ c.strm c.issued && !c.admitted) }

/-- A mismatch of an instruction that a stream has issued is raised, four cycles after its issue; where the instruction is older than
the shadow, the exposure cannot be recovered (R379, R382) [68]. -/
def Ctx.mismatch (k : Ctx) (st : Strm) (i : Issued) (cycle : Nat) : Ctx :=
  let ss := k.strm st
  let k := (k.setStrm st { ss with recent := ss.recent.filter (· != i) }).dropCommand st i.cycle
  { k.raise (asyncFault st 0x12 (BitVec.ofNat 64 (i.pc % 2 ^ 48)) 0 0 cycle) with unrecov := k.unrecov || k.beforeShadow st i }

/-- The mismatch that falls due in a context. -/
def Ctx.mismatchDue (k : Ctx) (cycle : Nat) : Option (Strm × Issued) :=
  if k.res == .resident || k.res == .saving || k.res == .ended then
    Strm.all.findSome? fun st => ((k.strm st).recent.find? fun i => i.bad && decide (i.cycle + 4 ≤ cycle)).map fun i => (st, i)
  else none

/-- It is raised; a context that has ended only loses the command. -/
def checkDue (ctx : Nat) (s : State) : Host.Outcome State Fault Refusal :=
  match s.ctx ctx with
  | none => .next s
  | some k => match k.mismatchDue s.cycle with
    | some (st, i) =>
      let m := k.mismatch st i s.cycle
      .next (s.setCtx ctx (if k.res == .ended then { m with lt := { m.lt with faults := k.lt.faults } } else m))
    | none => .next s

/-- An instruction at an address whose check is still to come has a copy that differs: the mark is set on the last issue of it. -/
def StreamState.markBad (ss : StreamState) (st : Strm) (pc cycle : Nat) : StreamState :=
  match (ss.recent.reverse.find? fun i => i.pc == pc && !i.bad && decide (cycle < i.cycle + 4) && checked st i.word i.cont) with
  | some i => { ss with recent := ss.recent.map fun j => if j = i then { j with bad := true } else j }
  | none => ss

/-! Steps -/

/-- CHECKER_CHECK (R377, R379): the checker re-executes an instruction that a stream has issued in the last four cycles, from its own
copy of the operands; where it disagrees, 0x12 is raised four cycles after the issue. -/
def execCheckerCheck (ctx : Nat) (agree : Bool) (pc : Nat) (s : State) : Host.Outcome State Fault Refusal :=
  match s.ctx ctx with
  | none => .next s
  | some k =>
    if agree then .next s
    else .next (s.setCtx ctx (Strm.all.foldl (fun k st => k.setStrm st ((k.strm st).markBad st pc s.cycle)) k))

/-- The core whose SRAM holds a location, if it is a core's. -/
def locCore : Loc → Option Nat
  | .sp c _ => some c
  | .acc c _ => some c
  | .tile c _ _ => some (coreOf c)
  | .reg c _ _ => some (coreOf c)
  | .file c _ => some (coreOf c)
  | .fifo c _ _ => some (coreOf c)
  | .lane c _ _ => some (coreOf c)
  | .work c _ _ => some (coreOf c)
  | .cmd c _ => some (coreOf c)
  | .run c _ => some (coreOf c)
  | _ => none

/-- A soft error in a copy of C's scalar datapath while a VOTE holds its target (04 R136): the majority takes effect and the correction
is counted and logged with grade N (12 R360), or, where all three copies differ, the target raises 0x12 in place of its effect: it is taken as a
synchronous fault is (12 R356), in a handler too. -/
def voteUpset (ctx : Nat) (corrected : Bool) (s : State) : Host.Outcome State Fault Refusal :=
  match s.ctx ctx with
  | none => .next s
  | some k =>
    if (k.strm .c).vote.isNone || k.res != .resident then .next s
    else if corrected then .next ((s.relUpd (coreOf ctx) fun r => { r with vt := Nat.min (r.vt + 1) 4095 }).logEvent ctx k 0x12)
    else .next (s.setCtx ctx (k.raise { asyncFault .c 0x12 (BitVec.ofNat 64 (k.lane .c).addr) 0 0 s.cycle with
      sync := true, skip := false, pc := (k.lane .c).addr }))

/-- The n-th lane of a queue marked. -/
def badLane : Nat → List QItem → List QItem
  | _, [] => []
  | n, .mark m :: rest => .mark m :: badLane n rest
  | 0, .lane l :: rest => .lane { l with bad := true } :: rest
  | n + 1, .lane l :: rest => .lane l :: badLane n rest

/-- Data of a context's light state or engine queues marked (R385): a queued command that has not started ends with 0x13; one whose folds an APEEK has shown has started [7]. -/
def Ctx.mark (k : Ctx) : Loc → Ctx
  | .file _ r => k.setLt { k.lt with bad := if k.lt.bad.contains r then k.lt.bad else k.lt.bad ++ [r] }
  | .fifo c r n =>
    let q := k.lt.fifo r
    k.setLt (k.lt.setFifo r { q with entries := (q.entries.zipIdx).map fun p => if p.2 = n then { p.1 with bad := p.1.bad ++ [.fifo c r n] } else p.1 })
  | .lane _ st n => k.setStrm st { k.strm st with queue := badLane n (k.strm st).queue }
  | .work _ .matrix n => { k with mats := (k.mats.zipIdx).map fun p => if p.2 = n ∧ !p.1.bind.dispatched ∧ p.1.shown = 0 then { p.1 with fault := 0x13 } else p.1 }
  | .work _ .quantiser n => { k with quants := (k.quants.zipIdx).map fun p => if p.2 = n ∧ !p.1.bind.dispatched then { p.1 with fault := 0x13 } else p.1 }
  | .work _ .cordic n => { k with crds := (k.crds.zipIdx).map fun p => if p.2 = n ∧ !p.1.bind.dispatched then { p.1 with fault := 0x13 } else p.1 }
  | .cmd _ n => match k.cmds[n]? with
    | some c => if c.admitted ∨ c.fault ≠ 0 then k else { k with cmds := k.cmds.set n { c with doomed := 0x13 } }
    | none => k
  | .run _ n => { k with xf := (k.xf.zipIdx).map fun p => if p.2 = n then { p.1 with bad := true } else p.1 }
  | _ => k

/-- The context whose light state or queues hold a location. -/
def locCtx : Loc → Option Nat
  | .file c _ => some c
  | .fifo c _ _ => some c
  | .lane c _ _ => some c
  | .work c _ _ => some c
  | .cmd c _ => some c
  | .run c _ => some c
  | _ => none

/-- Data at a location marked as poisoned (R385). -/
def State.mark (s : State) (loc : Loc) : State :=
  match locCtx loc with
  | some c => match s.ctx c with
    | some k => s.setCtx c (k.mark loc)
    | none => s
  | none => if s.poison.contains loc then s else { s with poison := s.poison ++ [loc] }

/-- SOFT_ERROR (R384, R385, 04 R136): a corrected error is counted; an uncorrectable one, or a failing residue check, marks its data
poisoned; one in a copy of the datapath is put to the vote. -/
def execSoftError (loc : Loc) (corrected : Bool) (s : State) : Host.Outcome State Fault Refusal :=
  match loc with
  | .copy ctx => voteUpset ctx corrected s
  | loc =>
  if corrected then
    match locCore loc with
    | some c => .next (s.relUpd c fun r => { r with ce := Nat.min (r.ce + 1) (2 ^ 20 - 1) })
    | none =>
      match loc with
      | .dev w =>
        let n := Config.hbmStack w % 8
        .next { s with mgmt := { s.mgmt with hbmCe := Sparse.set s.mgmt.hbmCe n ((Sparse.get s.mgmt.hbmCe n).getD 0 + 1) } }
      | _ => .next s
  else
    let at_ := match loc with
      | .residue l => l
      | l => l
    .next { s.mark at_ with mgmt := { s.mgmt with uncorrected := s.mgmt.uncorrected ++ [(loc, s.cycle)] } }

/-- PATROL_SCRUB (R387): one 64-byte block is read and rewritten with what it holds; nothing else follows. -/
def execPatrolScrub (_block : Nat) (s : State) : Host.Outcome State Fault Refusal := .next s

/-- CORE_SELF_TEST_PASSED (R388). -/
def execCoreSelfTestPassed (core : Nat) (s : State) : Host.Outcome State Fault Refusal :=
  .next (s.relUpd core fun r => { r with off := false })

/-- The contexts of a copy of a paired kernel: those on one die. -/
def State.copy (s : State) (die : Nat) : List (Nat × Ctx) := s.ctxs.filter fun p => p.2.paired && dieOf p.1 == die

/-- PAIRED_COMPARE (R391): when both copies, on dies a and b, have ended, their signatures are compared. Equal: the negatives of one
copy become the job's pages, and no translation of either copy stays cached. Different: the negatives are discarded and the kernel
runs once more; the second time it is reported as 0x12 graded S, which counts at the core that the report names (R389). A disagreement counts in pr
of every core that holds a context of either copy: R389 names none, and this is the model's choice [47]. -/
def execPairedCompare (a b : Nat) (s : State) : Host.Outcome State Fault Refusal :=
  let ca := s.copy a
  let cb := s.copy b
  let sum (l : List (Nat × Ctx)) : Word := l.foldl (fun w p => w + p.2.sig) 0
  match ca with
  | [] => .next s
  | first :: _ =>
    if cb.isEmpty || a % 2 != 0 || b != a + 1 || !((ca ++ cb).all fun p => p.2.res == .ended) then .next s
    else
      let roots := (ca ++ cb).map fun p => wbits p.2.lt.sys.ptroot 47 12
      let s := { s with tlb := s.tlb.filter fun t => !(roots.contains t.root) }
      let s := (ca ++ cb).foldl (fun s p => s.setCtx p.1 { p.2 with paired := false, sig := 0 }) s
      if sum ca = sum cb then .next { s with mgmt := { s.mgmt with disagreed := Sparse.erase s.mgmt.disagreed a } }
      else
        let cores := ((ca ++ cb).map fun p => coreOf p.1).dedup
        let s := cores.foldl (fun s c => s.relUpd c fun r => { r with pr := Nat.min (r.pr + 1) 15 }) s
        match Sparse.get s.mgmt.disagreed a with
        | none => .next { s with mgmt := { s.mgmt with disagreed := Sparse.set s.mgmt.disagreed a 1 } }
        | some _ =>
          let s := { s with mgmt := { s.mgmt with disagreed := Sparse.erase s.mgmt.disagreed a } }
          let r := first.2.lt.sys
          let s := s.relUpd (coreOf first.1) fun r => { r with nr := Nat.min (r.nr + 1) 255 }
          let rep : Report := ⟨first.1, 0x12, some 'S', none, s.cycle, r.tcause, r.tpc, r.tinfo0, r.tinfo1⟩
          .next (State.cause { s with reports := s.reports ++ [rep] } 6)

end Sys2Proof.Machine
end

