-- ==== Sys2Proof/Machine/Loader.lean ====
section
/-! DEFINITION. The loader's services at CONTEXT_LAUNCH (20 R443-R446, R449; 16 R424, 17 R427, 18 R428, R429; 10 R303): the sections of an
image relocated, placed and mapped, addresses written into launch words, and the slot table held against its path resources. -/

namespace Sys2Proof

open Sys2Proof.Machine

/-! Spatial levels (01 R24, 20 R441) -/

/-- The extents of the spatial levels, outermost first. -/
def spatialExtents (ls : List (LoopKind × Nat)) : List Nat := (ls.filter fun l => l.1 != .temporal).map (·.2)

/-- The indices of the n-th context of a launch in the spatial levels, outermost first, the innermost varying fastest. -/
def spatialIndex (exts : List Nat) (n : Nat) : List Nat :=
  (exts.reverse.foldl (fun (acc : List Nat × Nat) e => ((acc.2 % e) :: acc.1, acc.2 / e)) ([], n)).1

/-- Its indices in the levels of kind `dies`. -/
def diesIndex (ls : List (LoopKind × Nat)) (n : Nat) : List Nat :=
  (((ls.filter fun l => l.1 != .temporal).zip (spatialIndex (spatialExtents ls) n)).filter fun p => p.1.1 == .dies).map (·.2)

/-! Sections -/

/-- The permissions with which the loader maps a section: rd, wr, ex. Constants, frames and plans are mapped rd without wr (18 R428,
20 R449), data rd and wr (R449); code is mapped for code fetch alone [57]. -/
def SectionKind.perms : SectionKind → Bool × Bool × Bool
  | .code => (false, false, true)
  | .const => (true, false, false)
  | .data => (true, true, false)
  | .strips => (true, false, false)

/-- The leaf entry of a 64 KiB page that holds part of a section (11 R350). -/
def SectionKind.entry (k : SectionKind) (pa : Nat) : Nat :=
  3 + (if k.perms.1 then 4 else 0) + (if k.perms.2.1 then 8 else 0) + (if k.perms.2.2 then 16 else 0) + pa

/-- A little-endian number put into bytes from an offset on. -/
def putNat (bs : List Byte) (off n v : Nat) : List Byte := bs.take off ++ leBytes n v ++ bs.drop (off + n)

/-- The section with a number in the section table. -/
def sectionAt (secs : List Section) (n : Nat) : Option Section := secs.find? fun c => c.index == n

/-- A relocation applied to its section (20 R445): a 64-bit address word, bits 47:0 of a frame word, or the 22-bit lane offset of a
format B word. None where its place lies beyond the section, its target is no section, or the value does not fit its field (R446). -/
def Reloc.apply (r : Reloc) (secs : List Section) (va : Nat) (bs : List Byte) : Option (List Byte) :=
  match sectionAt secs r.target with
  | none => none
  | some t =>
    let v : Int := (t.va : Int) + r.addend
    match r.kind with
    | .address => if r.offset + 8 ≤ bs.length ∧ 0 ≤ v ∧ v < 2 ^ 64 then some (putNat bs r.offset 8 v.toNat) else none
    | .frame => if r.offset + 8 ≤ bs.length ∧ 0 ≤ v ∧ v < 2 ^ 48 then some (putNat bs r.offset 6 v.toNat) else none
    | .lane =>
      let d := v - ((va + r.offset : Nat) : Int)
      if r.offset + 4 ≤ bs.length ∧ d % 4 = 0 ∧ -(2 ^ 21) ≤ d / 4 ∧ d / 4 < 2 ^ 21 then
        some (putNat bs r.offset 4 (getNat bs r.offset 4 / 2 ^ 22 * 2 ^ 22 + ((d / 4) % 2 ^ 22).toNat))
      else none

/-- The bytes of a section after its relocations. -/
def Section.relocated (sec : Section) (secs : List Section) : Option (List Byte) :=
  sec.relocs.foldl (fun (b : Option (List Byte)) r => b.bind (r.apply secs sec.va)) (some sec.bytes)

/-- The addresses of a section's mapped bytes: from the first on, up to the last. -/
def Section.range (sec : Section) : Nat × Nat := (sec.va + sec.skip, sec.va + sec.bytes.length)

/-- The pages of a section, with the virtual address of each. -/
def Section.maps (sec : Section) : List (Nat × PageMap) :=
  (sec.pages.zipIdx).map fun p => ((sec.range.1 / 65536 + p.2) * 65536, p.1)

/-- A section's addresses are legal: 48 bits, aligned to 16 bytes and as its entry in the section table says, its pages as many as it needs
and in device memory. -/
def Section.placed (sec : Section) : Bool :=
  decide (sec.va % 2 ^ Nat.max sec.align 4 = 0) && decide (sec.range.2 ≤ 2 ^ 48) &&
  decide (sec.pages.length = if sec.range.1 < sec.range.2 then (sec.range.2 - 1) / 65536 - sec.range.1 / 65536 + 1 else 0) &&
  sec.pages.all fun p => p.pa % 65536 == 0 && decide (p.pa + 65536 ≤ Config.deviceBytes) &&
    p.entries.all fun e => e % 8 == 0 && decide (e + 8 ≤ Config.deviceBytes)

/-- Bytes of a section written to its pages. -/
def Section.write (sec : Section) (bs : List Byte) (s : State) : State :=
  (sec.maps).foldl (fun s m =>
    let lo := Nat.max m.1 sec.range.1
    let hi := Nat.min (m.1 + 65536) sec.range.2
    s.publishBytes outsider (m.2.pa + (lo - m.1)) ((bs.drop (lo - sec.va)).take (hi - lo))) s

/-- The pages of a section mapped: their leaf entries. -/
def Section.map (sec : Section) (s : State) : State :=
  sec.pages.foldl (fun s p => p.entries.foldl (fun s e => s.publishBytes outsider e (leBytes 8 (sec.kind.entry p.pa))) s) s

/-- Every page of a section is mapped in a context's tables as its kind says. -/
def Section.mapped (sec : Section) (s : State) (ptroot : Word) : Bool :=
  sec.maps.all fun m => match walk s.mem ptroot m.1 with
    | .leaf pa size rd wr ex scrub _ => pa == m.2.pa && size == 65536 && (rd, wr, ex) == sec.kind.perms && !scrub
    | .fail _ => false

/-! Launch words (16 R424, 17 R427, 18 R429, 20 R445) -/

/-- A launch word set. -/
def setParam (ps : List Word) (n : Nat) (v : Word) : List Word := (ps ++ List.replicate (n + 1 - ps.length) 0).set n v

/-- The parameter patches name launch words and places in sections. -/
def Launch.patchesOk (l : Launch) : Bool :=
  l.patches.all fun p => decide (p.word < 8) && (match sectionAt l.sections p.target with
    | some c => decide (p.offset ≤ c.bytes.length)
    | none => false)

/-- The launch words of a context: the address of each patch's target in place of the value that the launch supplies. -/
def Launch.params (l : Launch) (p : Placement) : List Word :=
  l.patches.foldl (fun ps q => setParam ps q.word (BitVec.ofNat 64 (((sectionAt l.sections q.target).getD default).va + q.offset))) p.params

/-- The contexts of one index in the `dies` levels stand on one cluster, those of different ones on different dies; the first stand on the
cluster of the office that launches (01 R24) [57]. -/
def Launch.spread (l : Launch) (cluster : Nat) : Bool :=
  let ps := (l.places.zipIdx).map fun p => (diesIndex l.loops p.2, clusterOf p.1.ctx)
  ps.all fun p => (!(p.1.all (· == 0)) || p.2 == cluster) &&
    ps.all fun q => if p.1 == q.1 then p.2 == q.2 else p.2 / 6 != q.2 / 6

/-- The second copy of a paired kernel (13 R390): as many contexts, with the same launch words, on one cluster of the die beside that of the
first copy, whose number is even; any other kernel has none. -/
def Launch.twinsOk (l : Launch) : Bool :=
  if !l.paired then l.twins.isEmpty
  else
    decide (l.twins.length = l.places.length) && (l.loops.all fun x => x.1 != .dies) &&
    (l.places.zip l.twins).all fun p => dieOf p.1.ctx % 2 == 0 && dieOf p.2.ctx == dieOf p.1.ctx + 1 && p.1.params == p.2.params &&
      l.twins.all fun q => clusterOf q.ctx == clusterOf p.2.ctx

end Sys2Proof

namespace Sys2Proof.Machine

open Sys2Proof

/-- The image placed in device memory (20 R444-R446, R449): its sections relocated, mapped and written; none where a section is not placed, a
relocation does not fit, a page serves two sections, or the tables of a context do not show what is mapped. -/
def State.loadImage (s : State) (l : Launch) : Option State :=
  let entries := l.sections.flatMap fun c => c.pages.flatMap (·.entries)
  if !(l.sections.all Section.placed) || !(decide entries.Nodup) then none
  else
    let s' := l.sections.foldl (fun (a : Option State) sec =>
      a.bind fun s => (sec.relocated l.sections).map fun bs => sec.write bs (sec.map s)) (some s)
    s'.bind fun s' =>
      if (l.places ++ l.twins).all fun p => l.sections.all fun sec => sec.mapped s' p.ptroot then some s' else none

/-! The slot table (10 R303) -/

/-- The path resource that a slot of a context uses: its path, and the port or cluster. -/
def Slot.resource (sl : Slot) (id : Nat) : Nat × Nat := (sl.path, if sl.path = 1 then clusterOf id else sl.port)

/-- The slots that some contexts own. -/
def slotsOwned (id : Nat) (ws : List Word) : List (Nat × Slot) :=
  (ws.filter fun w => wbits w 3 0 != 0).map fun w => (id, Slot.ofWord w)

/-- Bytes that some slots claim of a resource in a cycle. -/
def claimed (ss : List (Nat × Slot)) (r : Nat × Nat) (c : Nat) : Nat :=
  ((ss.filter fun p => p.2.resource p.1 == r && p.2.holds c).map fun p => 16 * 2 ^ p.2.rate).sum

/-- The slots never claim a cycle of one of these path resources beyond its capacity: claims rise only where an occurrence begins, and the
periods are powers of two, so that the starts within the longest period decide. -/
def slotsFit (ss : List (Nat × Slot)) (used : List (Nat × Nat)) : Bool :=
  let long := ss.foldl (fun n p => Nat.max n p.2.period) 1
  (ss.filter fun p => used.contains (p.2.resource p.1)).all fun p => (List.range (long / p.2.period)).all fun j =>
    let r := p.2.resource p.1
    decide (claimed ss r (j * p.2.period + p.2.phase) ≤ Config.pathCapacity r.1 r.2)

/-- The slot tables of all contexts then resident and of a launch fit the path resources that the launched kernel uses. -/
def State.slotTableOk (s : State) (l : Launch) : Bool :=
  let new := (l.places.zipIdx ++ l.twins.zipIdx).flatMap fun p => slotsOwned p.1.ctx ((l.slotsOf p.2).map (·.2))
  slotsFit ((s.ctxs.filter fun p => p.2.res == .resident || p.2.res == .saving).flatMap (fun p => slotsOwned p.1 p.2.lt.sys.slots.toList) ++ new)
    (new.map fun p => p.2.resource p.1)

end Sys2Proof.Machine
end

