-- ==== Sys2Proof/Machine/Area.lean ====
section
/-! DEFINITION. The context area (12 R370, R371): what a save writes there, and what a restore reads back. -/

namespace Sys2Proof.Machine

open Sys2Proof

/-! The context area (R370, R371) -/

/-- Words of 8 bytes, little-endian. -/
def words8 (ws : List Word) : List Byte := ws.flatMap fun w => leBytes 8 w.toNat

/-- The lanes of a queue as words, a continuation counting as one lane. -/
def queueWords (q : List QItem) : List Nat :=
  q.flatMap fun i => match i with
    | .lane l => l.word.toNat :: (l.cont.map (·.toNat)).toList
    | .mark _ => []

/-- 64 lanes of 4 bytes, unused ones zero. -/
def queueBytes (q : List QItem) : List Byte :=
  let ws := (queueWords q).take 64
  (ws ++ List.replicate (64 - ws.length) 0).flatMap (leBytes 4)

/-- The kind and the number of an in-flight entry's target, where R370 has one. -/
def flightKind : Target → Option (Nat × Nat × Nat)
  | .qOnly => some (0, 0, 0)
  | .o n => some (0, 16 + n, 0)
  | .g n => some (0, 32 + n, 0)
  | .pred n => some (1, n, 0)
  | .pipe p => some (2, p.num, 0)
  | .spill n => some (3, 0, n)
  | _ => none

/-- The target of an in-flight entry of a kind, a number and a slot; none where R370 has none. -/
def flightTarget (kind num slot : Nat) : Option Target :=
  match kind with
  | 0 => if num < 16 then some .qOnly else if num < 24 then some (.o (num - 16)) else if 32 ≤ num ∧ num < 64 then some (.g (num - 32)) else none
  | 1 => if num < 8 then some (.pred num) else none
  | 2 => ([.cl, .cx, .lx, .xs, .xc, .sc] : List Pipe)[num]?.map .pipe
  | 3 => some (.spill slot)
  | _ => none

/-- An in-flight entry (R370): its value, and its remaining latency, kind, target, slot, enters-q and order. -/
def flightWords (start : Nat) (n : Nat) (f : Flight) : Option (List Word) :=
  (flightKind f.tgt).map fun t =>
    [f.val, BitVec.ofNat 64 ((f.land - start) % 2 ^ 8 + t.1 * 2 ^ 8 + t.2.1 * 2 ^ 16 + t.2.2 * 2 ^ 24 + (if f.q then 2 ^ 34 else 0) +
      n % 2 ^ 8 * 2 ^ 40)]

/-- The results in flight of a stream that R370 has in-flight entries for. -/
def Light.inFlight (l : Light) (st : Strm) : List Flight := l.flights.filter fun f => f.strm == st && (flightKind f.tgt).isSome

/-- The parts of a stream block whose layout R370 gives, at the block's offset. -/
def streamArea (off start : Nat) (ss : StreamState) (fs : List Flight) : List (Nat × List Byte) :=
  [(off, words8 ss.q.toList), (off + 0x80, words8 ss.o.toList), (off + 0xC0, words8 ss.g.toList), (off + 0x200, queueBytes ss.queue)] ++
  ((fs.zipIdx).filterMap fun p => (flightWords start p.2 p.1).map fun ws => (off + 0x300 + 16 * p.2, words8 ws))

/-- An entry of the store region (R370). -/
def storeWords (w : StoreWord) : List Word :=
  [BitVec.ofNat 64 (w.mask.toNat * 2 ^ 48 + w.va % 2 ^ 48 / 8 * 8), w.data]

/-- The offset of the partition in the area. -/
def Ctx.areaPart (k : Ctx) : Nat := 0x29000 + k.accCnt * 0x10000

/-! Fields whose places the spec leaves open

R370 names what stands in the header, in a stream block from 0x1C0 on, at 0x2800 and at 0x3800, in the trap frame beside its files and lanes, and in
the engine state, and gives their parts no offsets. The model takes a device that lays each field out somewhere in its part, the same at every save:
where, is a constant of the device without a value [17]. -/

/-- A field of the context area: its size in bytes, its bytes, and what other bytes there make of what it describes. -/
structure AreaField (α : Type) where
  size : Nat
  get  : α → List Byte
  put  : List Byte → α → α

/-- A number as a field. -/
def AreaField.num {α : Type} (size : Nat) (g : α → Nat) (p : Nat → α → α) : AreaField α := ⟨size, fun a => leBytes size (g a), fun bs => p (leNat bs)⟩

/-- A number that a restore does not take from the area: it follows from others, or what the kernel has written meanwhile stands [17]. -/
def AreaField.shown {α : Type} (size : Nat) (g : α → Nat) : AreaField α := .num size g fun _ a => a

/-- Fields with offsets from `off` on, in an order and with gaps that `pick` chooses; `slack`: the bytes of the part that no field takes. -/
def arrange {α : Type} (pick : Nat → Nat) : Nat → Nat → Nat → List (AreaField α) → List (Nat × AreaField α)
  | 0, _, _, _ => []
  | fuel + 1, off, slack, fs =>
    let n := pick (2 * fuel) % fs.length
    let gap := pick (2 * fuel + 1) % (slack + 1)
    match fs[n]? with
    | some f => (off + gap, f) :: arrange pick fuel (off + gap + f.size) (slack - gap) (fs.eraseIdx n)
    | none => []

/-- The fields of a part of the area of `len` bytes from `off` on, with their offsets. -/
def fieldsAt {α : Type} (off len : Nat) (fs : List (AreaField α)) : List (Nat × AreaField α) :=
  arrange (Config.areaPick off) fs.length off (len - (fs.map (·.size)).sum) fs

/-- The bytes of fields, by offset. -/
def fieldParts {α : Type} (fs : List (Nat × AreaField α)) (a : α) : List (Nat × List Byte) := fs.map fun f => (f.1, f.2.get a)

/-- Flags as bits of a number, the first lowest. -/
def flagNum (bs : List Bool) : Nat := (bs.zipIdx).foldl (fun n b => n + if b.1 then 2 ^ b.2 else 0) 0

/-- The header (R370): version, kind, save cycle, cnt, partition units, spill count, store entries used. -/
def headerFields (heavy : Bool) : List (AreaField Ctx) :=
  [.shown 2 fun _ => 1, .shown 1 fun _ => if heavy then 2 else 1, .shown 8 (·.saveAt), .shown 1 (·.accCnt), .shown 2 fun k => k.spSize / 4096,
   .shown 2 fun k => Nat.min k.nspill 512, .shown 2 fun k => k.lt.stores.length]

/-- One stream of a context as a field. -/
def streamField (st : Strm) (f : AreaField StreamState) : AreaField Ctx :=
  ⟨f.size, fun k => f.get (k.strm st), fun bs k => k.setStrm st (f.put bs (k.strm st))⟩

/-- A loop level as 34 bytes, zero for one that is not active; its stage map has a place of its own. -/
def levelBytes (r : Option Lvl) : List Byte :=
  match r with
  | none => List.replicate 34 0
  | some r => [BitVec.ofNat 8 (flagNum [true, r.piped, r.exit, r.frame.hnd]), BitVec.ofNat 8 (r.stages + 16 * r.base.toNat)] ++ leBytes 4 r.count ++
      leBytes 4 r.idx ++ leBytes 8 r.frame.depth ++ leBytes 8 r.first ++ leBytes 8 r.last

/-- An active level as such bytes have it. -/
def levelOf (bs : List Byte) (r : Lvl) : Lvl :=
  let n (off len : Nat) : Nat := leNat ((bs.drop off).take len)
  { r with
    piped := (n 0 1).testBit 1, exit := (n 0 1).testBit 2, stages := n 1 1 % 16, base := BitVec.ofNat 4 (n 1 1 / 16), count := n 2 4
    idx := n 6 4, frame := ⟨n 10 8, (n 0 1).testBit 3⟩, first := n 18 8, last := n 26 8 }

/-- The fields of a stream block from 0x1C0 on (R370): predicates, stage predicates, rotation base, REP and VOTE state. -/
def streamFields : List (AreaField StreamState) :=
  [.num 1 (fun ss => flagNum ss.p.toList) fun n ss => { ss with p := Vector.ofFn fun i => n.testBit i.val },
   .shown 1 fun ss => flagNum ((List.range 8).map fun j => ss.stg j == some true),
   .num 1 (·.rot.toNat) fun n ss => { ss with rot := BitVec.ofNat 4 n },
   ⟨7, fun ss => match ss.rep with
      | some r => [r.count, r.ds, r.as, r.bs, r.k, flagNum [r.brk], 1].map (BitVec.ofNat 8)
      | none => List.replicate 7 0,
    fun bs ss =>
      let n (j : Nat) : Nat := (bs.getD j 0).toNat
      { ss with rep := ss.rep.map fun r => { r with count := n 0, ds := n 1, as := n 2, bs := n 3, k := n 4, brk := n 5 == 1 } }⟩,
   .shown 1 fun ss => flagNum [ss.vote.isSome]]

/-- The stage map of the level that has one: 64 lines of 8 entries. -/
def mapField : AreaField Ctx where
  size := 512
  get := fun k =>
    let m := ((k.lt.c.views.toList.findSome? fun v => v.bind (·.map)).getD [])
    (List.range 512).map fun j => (m.getD (j / 8) []).getD (j % 8) 0
  put := fun bs k =>
    let now (m : List (List Byte)) : List (List Byte) :=
      (m.zipIdx).map fun l => (l.1.zipIdx).map fun b => if l.2 < 64 ∧ b.2 < 8 then bs.getD (8 * l.2 + b.2) 0 else b.1
    Strm.all.foldl (fun k st => let ss := k.strm st
      k.setStrm st { ss with views := ss.views.map fun v => v.map fun r => { r with map := r.map.map now } }) k

/-- The system registers that the area shows (12 R363). -/
def shownSys : List Nat :=
  [0x000, 0x001, 0x003] ++ (List.range 7).map (0x008 + ·) ++ (List.range 64).map (0x010 + ·) ++ (List.range 5).map (0x050 + ·) ++
  [0x056, 0x058, 0x059] ++ (List.range 7).map (0x060 + ·) ++ (List.range 32).map (0x080 + ·) ++ (List.range 64).map (0x0C0 + ·)

/-- A completion barrier as the word that CBRD reads has it (07 R237). -/
def CBar.ofWord (b : CBar) (w : Word) : CBar :=
  { b with
    done := wbits w 7 0, count := wbits w 15 8, fault := wbits w 31 24, index := wbits w 47 32, ftag := wbits w 55 48
    phase := ([.idle, .armed, .complete, .error] : List CbPhase).getD (wbits w 17 16) .idle }

/-- A codebook as 33 bytes: its entries, and whether it is loaded. -/
def bookBytes (b : Book) : List Byte :=
  (List.range 16).flatMap (fun e => leBytes 2 (b.v.getD e 0).toNat) ++ [BitVec.ofNat 8 (flagNum [b.loaded])]

/-- The codebook that such bytes make. -/
def bookOf (bs : List Byte) : Book :=
  ⟨bs.getD 32 0 == 1, (List.range 16).map fun e => BitVec.ofNat 16 (leNat ((bs.drop (2 * e)).take 2))⟩

/-- The fields at 0x2800 (R370): loop state, stage map, return stack, hardware tokens, barriers, masks, codebooks, system registers, the bond
registers and the format table among them. -/
def lightFields : List (AreaField Ctx) :=
  (Strm.all.flatMap fun st => (List.range 3).map fun lv => streamField st
    ⟨34, fun ss => levelBytes (ss.view lv), fun bs ss => ss.setView lv ((ss.view lv).map (levelOf bs))⟩) ++
  [mapField, .shown 1 (·.lt.rstack.length)] ++
  ((List.range 16).map fun j => .num 8 (fun k => k.lt.rstack.getD j 0) fun n k => k.setLt { k.lt with rstack := k.lt.rstack.set j (n % 2 ^ 48) }) ++
  ((List.range 8).map fun j => .num 1 (fun k => k.lt.tk[j]?.getD 0) fun n k => k.setLt { k.lt with tk := k.lt.tk.setIfInBounds j n }) ++
  ((List.range 8).map fun j => .num 8 (fun k => (k.lt.cbar j).word.toNat) fun n k =>
    k.setLt { k.lt with cbars := k.lt.cbars.setIfInBounds j ((k.lt.cbar j).ofWord (BitVec.ofNat 64 n)) }) ++
  ((List.range 4).map fun j => .num 16 (fun k => (k.lt.rowmask[j]?.getD 0).toNat) fun n k =>
    k.setLt { k.lt with rowmask := k.lt.rowmask.setIfInBounds j (BitVec.ofNat 128 n) }) ++
  ((List.range 4).map fun j => .num 16 (fun k => (k.lt.colmask[j]?.getD 0).toNat) fun n k =>
    k.setLt { k.lt with colmask := k.lt.colmask.setIfInBounds j (BitVec.ofNat 128 n) }) ++
  ((List.range 4).map fun j => ⟨33, fun k => bookBytes (k.book j), fun bs k =>
    k.setLt { k.lt with books := k.lt.books.setIfInBounds j (bookOf bs) }⟩) ++
  shownSys.map fun n => .shown 8 fun k => (sysRead k.saveAt k.place k n).toNat

/-- The fields at 0x3800 (R370): the entries and reservations of the result FIFOs. -/
def fifoFields : List (AreaField Ctx) :=
  (List.range 6).flatMap fun n =>
    let r := Ring.byNumber n
    [AreaField.shown 1 fun k => (k.lt.fifo r).entries.length, .shown 1 fun k => (k.lt.fifo r).res] ++
    (List.range r.depth).map fun j => .num 8 (fun k => (((k.lt.fifo r).entries[j]?).map (·.val.toNat)).getD 0) fun v k =>
      let f := k.lt.fifo r
      k.setLt (k.lt.setFifo r { f with entries := (f.entries.zipIdx).map fun e => if e.2 = j then { e.1 with val := BitVec.ofNat 64 v } else e.1 })

/-- The fields of the engine state (R370) that are numbers: free[s] of every slot, which a restore computes anew (10 R318), and the states of the
tile registers. -/
def engineFields : List (AreaField Ctx) :=
  ((List.range 64).map fun j => .shown 8 fun k => k.free[j]?.getD 0) ++
  (List.range 8).map fun j => .num 1 (fun k => match (k.tile j).st with
      | .empty => 0
      | .loading => 1
      | .full => 2
      | .draining => 3)
    fun n k => k.setTile j { k.tile j with st := ([.empty, .loading, .full, .draining] : List TileSt).getD n .empty }

/-- The fields of a stream in the trap frame beside q0 to q15 (R358, R370): p0 to p7 and the resume position. -/
def frameStreamFields (n : Nat) : List (AreaField TrapFrame) :=
  [.num 1 (fun f => flagNum (f.p[n]?.getD (Vector.replicate 8 false)).toList) fun v f =>
      { f with p := f.p.setIfInBounds n (Vector.ofFn fun i => v.testBit i.val) },
   .shown 8 fun f => match headLane (f.queues[n]?.getD []) with
    | some l => l.addr
    | none => f.next.getD (f.line + 32)]

/-- The pipes of the trap frame with their occupancy, and its token counters. -/
def framePipeFields : List (AreaField TrapFrame) :=
  ((List.range 6).flatMap fun j =>
    AreaField.shown 1 (fun f => (f.pipes[j]?.getD []).length) ::
    (List.range 8).map fun e => .num 8 (fun f => ((f.pipes[j]?.getD []).getD e 0).toNat) fun v f =>
      { f with pipes := f.pipes.setIfInBounds j ((f.pipes[j]?.getD []).set e (BitVec.ofNat 64 v)) }) ++
  (List.range 4).flatMap fun j =>
    [AreaField.num 1 (fun f => (f.ctrs[j]?.getD ⟨0, 0⟩).vis) fun v f => { f with ctrs := f.ctrs.setIfInBounds j ⟨v, (f.ctrs[j]?.getD ⟨0, 0⟩).res⟩ },
     .shown 1 fun f => (f.ctrs[j]?.getD ⟨0, 0⟩).res]

/-- The fields of a trap frame with their offsets in the area. -/
def frameFields : List (Nat × AreaField TrapFrame) :=
  ((List.range 4).flatMap fun n => fieldsAt (0x180 + 0x100 * n) 0x80 (frameStreamFields n)) ++ fieldsAt 0x500 0x300 framePipeFields

/-- The fields of a context, but for its header and trap frame, with their offsets in the area. -/
def ctxFields : List (Nat × AreaField Ctx) :=
  (Strm.all.flatMap fun st => fieldsAt (0x9C0 + 0x800 * st.num) 0x40 (streamFields.map (streamField st))) ++
  fieldsAt 0x2800 0x1000 lightFields ++ fieldsAt 0x3800 0x400 fifoFields ++ fieldsAt 0x4000 0x2000 engineFields

/-! What a save writes -/

/-- Offset and length of the parts of the area that a save writes and whose layout R370 leaves open, the places of unused in-flight
entries among them: what no field takes there is free. The queues and the progress of the engines have such bytes too: R370 names them and gives
them no form [17]. -/
def openArea : List (Nat × Nat) :=
  [(0, 0x100), (0x9C0, 0x40), (0xB00, 0x500), (0x11C0, 0x40), (0x1300, 0x500), (0x19C0, 0x40), (0x1B00, 0x500), (0x21C0, 0x40),
   (0x2300, 0x500), (0x2800, 0x1400), (0x4000, 0x4000)]

/-- The trap frame, by offset in the context area (R358, R370): for each stream q0 to q15 and its queued lanes, which are zero without one, then
the fields whose places are open [17]. -/
def frameArea (free : Nat) (f : Option TrapFrame) : List (Nat × List Byte) :=
  let gap (off n : Nat) : Nat × List Byte := (off, (List.range n).map fun j => Config.freeByte (free + off + j))
  match f with
  | none => [gap 0x100 0x700, (0x3C00, List.replicate 0x400 0)]
  | some f =>
    (gap 0x500 0x300 :: (List.range 4).flatMap fun n =>
      [(0x100 + 0x100 * n, words8 (f.q[n]?.getD (Vector.replicate 16 0)).toList), gap (0x180 + 0x100 * n) 0x80,
        (0x3C00 + 0x100 * n, queueBytes (f.queues[n]?.getD []))]) ++ fieldParts frameFields f

/-- What a save writes, by offset in the context area (R366, R370): a light save leaves out tile registers, units and partition. -/
def State.areaOf (s : State) (id : Nat) (k : Ctx) (heavy : Bool) : List (Nat × List Byte) :=
  let l := k.lt
  let gaps := (openArea ++ [(k.areaPart + k.spSize, 16 * k.sbw)]).map fun p => (p.1, (List.range p.2).map fun j => Config.freeByte (s.free + p.1 + j))
  let streams := Strm.all.flatMap fun st => streamArea (0x800 + 0x800 * st.num) k.saveAt (k.strm st) (l.inFlight st)
  let fields := fieldParts (fieldsAt 0 0x100 (headerFields heavy)) k ++ fieldParts ctxFields k
  let spill := (List.range (Nat.min k.nspill 512)).map fun n => (0x8000 + 8 * n, leBytes 8 ((Sparse.get l.spill n).getD 0).toNat)
  let stores := (l.stores.zipIdx).map fun p => (k.areaPart + k.spSize + 16 * p.2, words8 (storeWords p.1))
  let big := if !heavy then [] else
    let co := s.core (coreOf id)
    ((List.range 8).map fun n => (0x9000 + 0x4000 * n, (k.tile n).data.read 0 0x4000)) ++
    ((List.range k.accCnt).map fun u => (0x29000 + 0x10000 * u,
      (List.range 16384).flatMap fun j => leBytes 4 ((Sparse.get co.acc ((k.accBase + u) * 16384 + j)).getD 0).toNat)) ++
    [(k.areaPart, co.sp.read k.spBase k.spSize)]
  gaps ++ fields ++ streams ++ frameArea s.free l.frame ++ spill ++ big ++ stores

/-- Bytes of the context area (R370, B). -/
def Ctx.areaSize (k : Ctx) : Nat := k.areaPart + k.spSize + 16 * k.sbw

/-- The physical pieces of the context area, when every page of it is mapped with rd and wr (R371). -/
def State.areaPieces (s : State) (k : Ctx) : Att (List (Nat × Nat)) :=
  let base := wbits k.lt.sys.ctxarea 47 16 * 2 ^ 16
  Att.foldl (fun acc p => (s.translate k.place k.lt.sys.ptroot p.1 .readWrite).bind fun pa => .ok (acc ++ [(pa, p.2)]))
    [] (pieces (k.areaSize / 65536 + 2) base k.areaSize)

/-- Bytes written at an offset of an area whose pages are these pieces; pieces are 64 KiB but for the last. -/
def State.putArea (s : State) (id : Nat) (ps : List (Nat × Nat)) (off : Nat) (bs : List Byte) : State :=
  (pieces (bs.length / 65536 + 2) off bs.length).foldl (fun s p =>
    match ps[p.1 / 65536]? with
    | some q => s.publishBytes id (q.1 + p.1 % 65536) ((bs.drop (p.1 - off)).take p.2)
    | none => s) s

/-- Bytes read at an offset of such an area. -/
def State.getArea (s : State) (ps : List (Nat × Nat)) (off n : Nat) : List Byte :=
  (pieces (n / 65536 + 2) off n).flatMap fun p =>
    match ps[p.1 / 65536]? with
    | some q => s.mem.read (q.1 + p.1 % 65536) p.2
    | none => List.replicate p.2 0

/-- Words of 8 bytes in an area. -/
def State.areaWords {n : Nat} (s : State) (ps : List (Nat × Nat)) (off : Nat) : Vector Word n :=
  Vector.ofFn fun i => BitVec.ofNat 64 (leNat (s.getArea ps (off + 8 * i.val) 8))

/-- A queue whose lanes have these words. -/
def rewordQueue : List QItem → List Nat → List QItem
  | .mark m :: q, ws => .mark m :: rewordQueue q ws
  | .lane l :: q, w :: ws =>
    match l.cont, ws with
    | some _, c :: ws => .lane { l with word := BitVec.ofNat 32 w, cont := some (BitVec.ofNat 32 c) } :: rewordQueue q ws
    | _, ws => .lane { l with word := BitVec.ofNat 32 w } :: rewordQueue q ws
  | q, _ => q

/-- Words of 4 bytes in an area. -/
def State.areaLanes (s : State) (ps : List (Nat × Nat)) (off n : Nat) : List Nat := (List.range n).map fun j => leNat (s.getArea ps (off + 4 * j) 4)

/-- A result in flight as its entry n at an offset of an area has it, and its order there. -/
def State.flightAt (s : State) (ps : List (Nat × Nat)) (off start n : Nat) (f : Flight) : Flight × Nat :=
  let val := BitVec.ofNat 64 (leNat (s.getArea ps (off + 16 * n) 8))
  let w := BitVec.ofNat 64 (leNat (s.getArea ps (off + 16 * n + 8) 8))
  if ((flightWords start n f).bind fun ws => ws[1]?) = some w then ({ f with val := val }, n)
  else ({ f with
    val := val, land := start + wbits w 7 0, q := w.getLsbD 34
    tgt := (flightTarget (wbits w 11 8) (wbits w 23 16) (wbits w 33 24)).getD f.tgt }, wbits w 47 40)

/-- The results in flight of a stream as the entries of its block have them, by their order there. -/
def State.flightsAt (s : State) (ps : List (Nat × Nat)) (off start : Nat) (fs : List Flight) : List Flight :=
  let es := (fs.zipIdx).map fun p => s.flightAt ps off start p.2 p.1
  if es.map (·.2) = List.range es.length then es.map (·.1)
  else (List.range 256).flatMap fun o => (es.filter fun e => e.2 == o).map (·.1)

/-- The results in flight with those that have entries replaced, stream by stream. -/
def placeFlights : List Flight → (Strm → List Flight) → List Flight
  | [], _ => []
  | f :: fs, new =>
    match flightKind f.tgt, new f.strm with
    | some _, g :: gs => g :: placeFlights fs fun st => if st = f.strm then gs else new st
    | _, _ => f :: placeFlights fs new

/-- A word of the store buffer as its entry in an area has it; of another address, with what that translates to. -/
def State.storeAt (s : State) (ps : List (Nat × Nat)) (k : Ctx) (off : Nat) (w : StoreWord) : StoreWord :=
  let h := BitVec.ofNat 64 (leNat (s.getArea ps off 8))
  let va := wbits h 47 3 * 8
  let pa := if va = w.va then w.pa else match walk s.mem k.lt.sys.ptroot va with
    | .leaf pa size _ _ _ _ _ => pa + va % size
    | .fail _ => w.pa
  ⟨va, pa, h.extractLsb' 48 16, BitVec.ofNat 64 (leNat (s.getArea ps (off + 8) 8))⟩

/-- Fields as the area holds them: those whose bytes there are as saved stay as they are. -/
def State.rereadFields {α : Type} (s : State) (ps : List (Nat × Nat)) (fs : List (Nat × AreaField α)) (a : α) : α :=
  fs.foldl (fun a f => let bs := s.getArea ps f.1 f.2.size
    if bs = f.2.get a then a else f.2.put bs a) a

/-- A saved context as its area holds it (R366, R367, R370): what lies there at a place that R370 gives, or in a field of it, is read back, as it
stands in memory; the rest is as saved [17]. -/
def State.reread (s : State) (ps : List (Nat × Nat)) (k : Ctx) : Ctx :=
  let off (st : Strm) : Nat := 0x800 + 0x800 * st.num
  let file (st : Strm) (ss : StreamState) : StreamState :=
    { ss with q := s.areaWords ps (off st), o := s.areaWords ps (off st + 0x80), g := s.areaWords ps (off st + 0xC0)
              queue := rewordQueue ss.queue (s.areaLanes ps (off st + 0x200) 64) }
  let l := k.lt
  let kf := s.rereadFields ps ctxFields k
  let spill := (List.range (Nat.min k.nspill 512)).foldl (fun m n => Sparse.set m n (BitVec.ofNat 64 (leNat (s.getArea ps (0x8000 + 8 * n) 8)))) l.spill
  let stores := (l.stores.zipIdx).map fun p => s.storeAt ps k (k.areaPart + k.spSize + 16 * p.2) p.1
  let frame := l.frame.map fun f => { s.rereadFields ps frameFields f with
    q := Vector.ofFn fun i => s.areaWords ps (0x100 + 0x100 * i.val)
    queues := Vector.ofFn fun i => rewordQueue f.queues[i] (s.areaLanes ps (0x3C00 + 0x100 * i.val) 64) }
  let kl := kf.setLt { kf.lt with
    c := file .c kf.lt.c, l := file .l kf.lt.l, x := file .x kf.lt.x, s := file .s kf.lt.s
    flights := placeFlights l.flights fun st => s.flightsAt ps (off st + 0x300) k.saveAt (l.inFlight st)
    spill := spill, stores := stores, frame := frame }
  if k.res == .savedLight then kl else
  { kl with
    tiles := Vector.ofFn fun i => { kl.tile i.val with data := Memory.write [] 0 (s.getArea ps (0x9000 + 0x4000 * i.val) 0x4000) }
    savedSp := Memory.write [] 0 (s.getArea ps k.areaPart k.spSize)
    savedAcc := (List.range (k.accCnt * 16384)).filterMap fun j =>
      let v := BitVec.ofNat 32 (leNat (s.getArea ps (0x29000 + 4 * j) 4))
      if v = 0 then none else some (j, v) }

end Sys2Proof.Machine
end

