-- ==== Sys2Proof/Machine/Contexts.lean ====
section
/-! DEFINITION. Contexts (12): trap entry, the kernel's answers, saves and restores, lent slices, the watchdog, launch and the sorting
office, and what a debugger sees. -/

namespace Sys2Proof.Machine

open Sys2Proof

/-- Whether what a save reads, or a restore reads back, holds poisoned data, which the model takes for R371's uncorrectable error during a
save also where the mark is older [46]. -/
def State.saveBad (s : State) (id : Nat) (k : Ctx) (heavy : Bool) (ps : List (Nat × Nat)) : Bool :=
  !k.lt.bad.isEmpty || s.poison.any fun p =>
    match p with
    | .reg c _ _ => c == id
    | .tile c _ _ => heavy && c == id
    | .sp c w => heavy && c == coreOf id && meets (8 * w) (8 * w + 8) k.spBase (k.spBase + k.spSize)
    | .acc c i => heavy && c == coreOf id && meets (i / 16384) (i / 16384 + 1) k.accBase (k.accBase + k.accCnt)
    | .dev w => ps.any fun q => meets (8 * w) (8 * w + 8) q.1 (q.1 + q.2)
    | _ => false

/-! Leaving a core (R365-R368) -/

/-- A context without any work in its engines. -/
def Ctx.stripped (k : Ctx) : Ctx :=
  { k with pends := [], mats := [], quants := [], crds := [], xf := [], xfRun := none, cmds := [], loads := [], atoms := [], peek := [] }

/-- A run of a context taken from its core's sequencer at a word boundary (09 R286). -/
def State.takeRun (s : State) (id : Nat) (k : Ctx) : State × Ctx :=
  let core := coreOf id
  let co := s.core core
  match co.seq.run with
  | some r => if r.ctx = id then (s.setCore core { co with seq := { co.seq with run := none } }, { k with xfRun := some { r with till := 0 } }) else (s, k)
  | none => (s, k)

/-- The state of a context is lost (R371, R372): its work is gone, its claims return. -/
def State.loseCtx (s : State) (id : Nat) (k : Ctx) (code : Nat) (grade : Char) : State :=
  let (s, k) := s.takeRun id k
  let s := s.endCtx id k code (some grade) none
  let s := s.relUpd (coreOf (k.placeOf id)) fun r => { r with nr := Nat.min (r.nr + 1) 255 }
  let s := s.setCtx id { k.stripped with res := .lost, notice := none }
  [UnitClass.matrix, .quantiser, .cordic].foldl (fun s cls => s.giveUp id cls true) s

/-- A forced save begins (R367): no stream issues from this cycle on; a VOTE goes back before its target; the sequencer stops at a word
boundary, couriers at the end of the cycle, and the slice-end notice is withdrawn with its 0x1C (15 R425). A synchronous fault that is raised
and not yet taken stays, and is taken after the restore without the instruction issuing again: the model's choice [46]. -/
def State.beginSave (s : State) (id : Nat) (k : Ctx) (by_ : Nat) : State :=
  let (s, k) := s.takeRun id k
  let k := k.setStrm .c (k.strm .c).unvote
  let k := k.setLt { k.lt with
    hold := if k.lt.hold == .saving then .none else k.lt.hold
    faults := k.lt.faults.filter fun f => f.code != 0x1C }
  let k := { k with res := .saving, saveAt := s.cycle, saveBy := by_, notice := none
                    cmds := k.cmds.map fun c => if c.through then c else { c with begun := false, ahead := none } }
  (s.setCtx id k).parkIfSaving id

/-- The checker has matched all that a context has issued (13 R377). -/
def Ctx.checked (k : Ctx) (cycle : Nat) : Bool :=
  Strm.all.all fun st => (k.strm st).recent.all fun i => !i.bad && decide (i.cycle + 4 ≤ cycle)

/-- Whether the engine work of a saving context has reached the points at which the save may take it: no block runs, nothing waits for
its completion, and the region accesses are complete, those apart that stand in order behind a quantiser operation; nor is a check of the
checker still to come (13 R379). -/
def Ctx.saveReady (k : Ctx) (cycle : Nat) : Bool :=
  [UnitClass.matrix, .quantiser, .cordic].all (fun cls => match k.headBind cls with
    | some b => !b.running && !b.isOver && (!b.placed || decide (b.ended < cycle))
    | none => true) &&
  k.pends.all (·.quant) && k.checked cycle &&
  k.cmds.all fun c => c.fault == 0 && (!c.through || c.event)

/-- Loads and atomics already issued post their entries (R367). -/
def State.postAll (s : State) (id : Nat) (k : Ctx) : State × Ctx :=
  let k := k.loads.foldl (fun k l => k.post l.ord .ld l.val l.bad []) { k with loads := [] }
  k.atoms.foldl (fun (acc : State × Ctx) a =>
    match a.done with
    | some e => (acc.1, acc.2.post a.ord .atom e.val e.bad [])
    | none =>
      let (s, k, a') := acc.1.atomDo id acc.2 a
      let e := a'.done.getD default
      (s, k.post a.ord .atom e.val e.bad [])) (s, { k with atoms := [] })

/-- A number for a context that is off every core: from 2^20 on. -/
def State.savedNumber (s : State) : Nat :=
  s.ctxs.foldl (fun n p => if n ≤ p.1 then p.1 + 1 else n) (2 ^ 20)

/-- A context moved to another number, with the arrivals at barriers, the poison marks, the publications and the releases that name it. -/
def State.moveCtx (s : State) (id new : Nat) (k : Ctx) : State :=
  let ren (n : Nat) : Nat := if n = id then new else n
  let s := ((s.setCtx id k).renameWriter new (s.pastWriter new)).renameWriter id new
  let k := (s.ctx id).getD k
  { s with
    ctxs := Sparse.set (Sparse.erase s.ctxs id) new { k with place := if new < 768 then new else k.place }
    poison := s.poison.map fun p =>
      match p with
      | .reg c st g => .reg (ren c) st g
      | .tile c t w => .tile (ren c) t w
      | p => p }

/-- The save of a context is written and it leaves its core (R366, R367, R370, R371). -/
def State.writeSave (s : State) (id : Nat) (k : Ctx) (heavy : Bool) : State :=
  match s.areaPieces k with
  | .wait q => s.asks q
  | .trap _ _ _ _ _ _ => s.loseCtx id k 0x18 'E'
  | .ok ps =>
    if s.saveBad id k heavy [] then s.loseCtx id k 0x18 'E'
    else
      let co := s.core (coreOf id)
      let parts := s.areaOf id k heavy
      let s := (parts.foldl (fun s p => s.putArea id ps p.1 p.2) s).drew (2 ^ 20)
      let sp : Memory := (co.sp.filter fun c => k.spBase ≤ c.1 && c.1 < k.spBase + k.spSize).map fun c => (c.1 - k.spBase, c.2)
      let acc : Sparse W32 := (co.acc.filter fun c => k.accBase * 16384 ≤ c.1 && c.1 < (k.accBase + k.accCnt) * 16384).map
        fun c => (c.1 - k.accBase * 16384, c.2)
      let k := { k with
        res := if heavy then .savedForced else .savedLight
        notice := none
        savedSp := if heavy then sp else []
        savedAcc := if heavy then acc else [] }
      s.moveCtx id s.savedNumber k

/-- A context's store of what a light save does not keep (R366): as it stands after restore. -/
def Ctx.withoutHeavy (k : Ctx) : Ctx :=
  let clear (t : Tag) : Tag := { t with full := false, wadm := 0, radm := 0, wdone := 0, rdone := 0 }
  { k.setSys { k.lt.sys with bndshape := 0, tags := k.lt.sys.tags.map clear } with
    tiles := Vector.replicate 8 Tile.reset, bnd := [], savedSp := [], savedAcc := [] }

/-- LIGHT_SAVE (R365, R366, 15 R425, R426): the save that a `trap.k 1` has started is finished. -/
def execLightSave (ctx : Nat) (s : State) : Host.Outcome State Fault Refusal :=
  match s.ctx ctx with
  | none => .next s
  | some k =>
    if k.res != .resident || k.lt.hold != .saving || s.cycle < k.saveAt || k.landingDue s.cycle || !k.checked s.cycle then .next s
    else
      let k := k.setLt { k.lt with hold := .none, faults := k.lt.faults.filter fun f => f.code != 0x1C }
      .next (s.writeSave ctx k false)

/-- SLICE_END_NOTICE (R365, 13 R393, 14 R411): the notice is posted. With no tenant handler, or while the kernel restarts, the forced save
begins at once; otherwise 0x1C is raised in C. -/
def execSliceEndNotice (ctx : Nat) (s : State) : Host.Outcome State Fault Refusal :=
  match s.ctx ctx with
  | none => .next s
  | some k =>
    if k.res != .resident || k.notice.isSome then .next s
    else if !(k.lt.sys.tvec.getLsbD 0) || s.kernelDown then .next (s.beginSave ctx k (s.cycle + k.fsBound))
    else .next (s.setCtx ctx { k.both (·.raise (asyncFault .c 0x1C 0 0 0 s.cycle)) with notice := some s.cycle })

/-- Whether the save budget of a context has run out (R365). -/
def Ctx.budgetOut (k : Ctx) (cycle : Nat) : Bool :=
  k.res == .resident && k.notice.any fun t => decide (t + wbits k.lt.sys.savebudget 31 0 ≤ cycle)

/-- Whether a context's forced save may be finished: those of lower index on its slice are (R372). -/
def State.saveTurn (s : State) (id : Nat) (k : Ctx) : Bool :=
  !(s.ctxs.any fun p => p.2.res == .saving && p.2.slice == k.slice && decide (p.1 < id) && (s.slice k.slice).recall_.isSome)

/-- SAVE_BUDGET_EXPIRY (R365, R367): a context whose budget has run out begins its forced save; one whose forced save is under way
finishes it, once its engines have stopped. -/
def execSaveBudgetExpiry (ctx : Nat) (s : State) : Host.Outcome State Fault Refusal :=
  match s.ctx ctx with
  | none => .next s
  | some k =>
    if k.budgetOut s.cycle then .next (s.beginSave ctx k (s.cycle + k.fsBound))
    else if k.res == .saving && k.saveReady s.cycle && s.saveTurn ctx k then
      let (s, k) := s.postAll ctx k
      .next (s.writeSave ctx k true)
    else .next s

/-- The contexts of a slice whose forced save is under way. -/
def State.savingOn (s : State) (slice : Nat) : List (Nat × Ctx) := s.ctxs.filter fun p => p.2.slice == slice && p.2.res == .saving

/-- A lent slice back with its owner (R372), its barriers zeroed (11 R348). -/
def Slice.returned (sl : Slice) : Slice :=
  { sl with recall_ := none, lent := false, borrower := 0, barriers := Slice.reset.barriers }

/-- The tenant that a slice serves: the one that it is lent to, or else its owner. -/
def Slice.holder (sl : Slice) : Nat := if sl.lent then sl.borrower else sl.tenant

/-- A slice may serve a tenant: it does so already, or no context of another tenant's runs there (01 R23, 12 R372). -/
def State.mayPass (s : State) (slice tenant : Nat) : Bool :=
  (s.slice slice).holder == tenant ||
    !(s.ctxs.any fun p => p.2.slice == slice && p.2.onItsCore && !p.2.kernelLvl && p.2.tenant != tenant)

/-- A slice passes to a tenant, be it lent: its barriers and their generations are zeroed (11 R348). A lent slice keeps its owner, and is back
with it when it serves the owner again. -/
def State.passSlice (s : State) (slice tenant : Nat) (lent : Bool) : State :=
  let sl := s.slice slice
  if lent then
    if sl.lent ∧ sl.borrower = tenant then s
    else s.setSlice slice { sl with lent := true, borrower := tenant, barriers := Slice.reset.barriers }
  else if sl.tenant = tenant then (if sl.lent then s.setSlice slice sl.returned else s)
  else s.setSlice slice { Slice.reset with tenant := tenant, drain := sl.drain }

/-- RECALL (R372): every context of a lent slice begins a forced save, with no cooperative phase. A lent slice on which no context
stands returns at once. -/
def execRecallSlice (slice : Nat) (s : State) : Host.Outcome State Fault Refusal :=
  let there := s.ctxs.filter fun p => p.2.slice == slice && p.2.res == .resident
  if (s.slice slice).recall_.isSome || !(there.all fun p => p.2.lt.sys.recallWord.getLsbD 32) then .next s
  else if there.isEmpty then
    if !(s.slice slice).lent then .next s
    else if (s.savingOn slice).isEmpty then .next (s.setSlice slice (s.slice slice).returned)
    else .next (s.setSlice slice { s.slice slice with recall_ := some (s.cycle, 0) })
  else
    let dl := there.foldl (fun m p => Nat.max m (wbits p.2.lt.sys.recallWord 31 0)) 0
    let s := s.setSlice slice { s.slice slice with recall_ := some (s.cycle, dl) }
    .next (there.foldl (fun (acc : State × Nat) p =>
      let t := acc.2 + p.2.fsBound
      (acc.1.beginSave p.1 p.2 t, t)) (s, s.cycle)).1

/-- A recall of the slice has passed a deadline, or has no context left to wait for. -/
def State.recallDue (s : State) (slice : Nat) : Bool :=
  match (s.slice slice).recall_ with
  | none => false
  | some (q, _) =>
    (s.savingOn slice).isEmpty || (s.savingOn slice).any fun p => decide (q + wbits p.2.lt.sys.recallWord 31 0 ≤ s.cycle)

/-- RECALL_DEADLINE (R372): a context whose save has not completed by its deadline is abandoned; with no context left the slice returns
to its owner. -/
def execRecallDeadline (slice : Nat) (s : State) : Host.Outcome State Fault Refusal :=
  match (s.slice slice).recall_ with
  | none => .next s
  | some (q, _) =>
    let late := (s.savingOn slice).filter fun p => decide (q + wbits p.2.lt.sys.recallWord 31 0 ≤ s.cycle)
    let s := late.foldl (fun s p => s.loseCtx p.1 p.2 0x1B 'S') s
    if (s.savingOn slice).isEmpty then .next (s.setSlice slice (s.slice slice).returned) else .next s

/-! Restore (R368, 10 R318) -/

/-- New schedules for the commands of a restored context (10 R318), in issue order, those that had started first. -/
def Ctx.reschedule (k : Ctx) (r : Nat) : Ctx :=
  let todo (started : Bool) (k : Ctx) : Ctx :=
    (List.range k.cmds.length).foldl (fun k n =>
      match k.cmds[n]? with
      | none => k
      | some c =>
        if c.through || c.fault != 0 || c.admitted != started then k
        else
          let sl := k.slotOf c.slot
          let left := c.wire c.nearLen - c.wire c.moved
          let (first, after, _) := schedule sl (Nat.max (r + 8) (k.free[c.slot]?.getD 0)) left
          { k with
            cmds := k.cmds.set n { c with first := first, resched := true, begun := false, ahead := none }
            free := k.free.setIfInBounds c.slot after }) k
  todo false (todo true { k with free := Vector.replicate 64 r, lastMove := Vector.replicate 64 r })

/-- The tenants that last held a context's shares are now its own (01 R26). -/
def Core.claim (co : Core) (k : Ctx) : Core :=
  { co with
    spTenant := (List.range (k.spSize / 4096)).foldl (fun m j => Sparse.set m (k.spBase / 4096 + j) k.tenant) co.spTenant
    accTenant := (List.range k.accCnt).foldl (fun m j => Sparse.set m (k.accBase + j) k.tenant) co.accTenant }

/-- The shares of a restored context as the save left them, or zero (R366, R367). -/
def Core.refill (co : Core) (k : Ctx) : Core :=
  let lo := k.accBase * 16384
  let hi := (k.accBase + k.accCnt) * 16384
  { co.claim k with
    sp := co.sp.filter (fun c => c.1 < k.spBase) ++ k.savedSp.map (fun c => (k.spBase + c.1, c.2)) ++
      co.sp.filter fun c => k.spBase + k.spSize ≤ c.1
    acc := co.acc.filter (fun c => c.1 < lo) ++ k.savedAcc.map (fun c => (lo + c.1, c.2)) ++ co.acc.filter fun c => hi ≤ c.1 }

/-- Whether a place can take a context of a slice: it is on a cluster of the slice, its core is in service, and no context is there. -/
def State.placeFree (s : State) (id slice : Nat) : Bool :=
  decide (id < 768) && (s.cluster (clusterOf id)).slice == some slice && !(s.core (coreOf id)).retired &&
  !(s.core (coreOf id)).rel.off && !s.kernelDown &&
  (match s.ctx id with
    | none => true
    | some k => (k.res == .ended || k.res == .lost) && !s.atWork id k)

/-- The slice in which a saved context may be restored at a place (R367): its own, another of its tenant, or one that is lent to it. -/
def State.homeOf (s : State) (k : Ctx) (place : Nat) : Nat :=
  match (s.cluster (clusterOf place)).slice with
  | some sl => if (s.slice sl).tenant == k.tenant || k.lt.sys.recallWord.getLsbD 32 then sl else k.slice
  | none => k.slice

/-- What a restore overwrites holds good data (13 R385): the partition, the units and the tile registers of a context at a place. -/
def State.freshMarks (s : State) (id place : Nat) (k : Ctx) : State :=
  { s with poison := s.poison.filter fun p =>
      match p with
      | .sp c w => !(c == coreOf place && meets (8 * w) (8 * w + 8) k.spBase (k.spBase + k.spSize))
      | .acc c i => !(c == coreOf place && meets (i / 16384) (i / 16384 + 1) k.accBase (k.accBase + k.accCnt))
      | .tile c _ _ => c != id
      | _ => true }

/-- The requests of a restored context for the sequencer arrive as it is restored (01 R30). -/
def Ctx.asksAt (k : Ctx) (cycle : Nat) : Ctx :=
  { k with xf := k.xf.map fun q => { q with cycle := cycle }, xfRun := k.xfRun.map fun r => { r with since := cycle } }

/-- What an access under way has read of its partition, moved with it to a new base. -/
def Saw.rebase (w : Saw) (lo hi base : Nat) : Saw :=
  { w with mem := (w.mem.filter fun c => lo ≤ c.1 && c.1 < hi).map fun c => (c.1 - lo + base, c.2) }

/-- The same for all accesses of a context whose partition lay at `old`. -/
def Ctx.rebase (k : Ctx) (old : Nat) : Ctx :=
  let now (w : Saw) : Saw := w.rebase old (old + k.spSize) k.spBase
  { k with pends := k.pends.map fun p => { p with saw := p.saw.map now }
           mats := k.mats.map fun m => { m with saw := m.saw.map now }
           crds := k.crds.map fun c => { c with ahead := c.ahead.map fun b => { b with saw := now b.saw } } }

/-- RESTORE (R366-R368): the kernel places a saved context, with shares of the same sizes; a light save's heavy state reads as zero. -/
def execRestore (ctx place spbase accbase : Nat) (s : State) : Host.Outcome State Fault Refusal :=
  match s.ctx ctx with
  | none => .next s
  | some k =>
    let k := (k.setSys { k.lt.sys with
      spbase := BitVec.ofNat 64 (spbase % 512 * 4096), accset := BitVec.ofNat 64 (accbase % 8 + k.accCnt * 8) }).rebase k.spBase
    let home := s.homeOf k place
    if !(k.res == .savedForced || k.res == .savedLight) || !(s.placeFree place home) || !(k.kernelLvl || s.mayPass home k.tenant) ||
        !(s.partOk place k.spBase k.spSize) || !(s.runOk place k.accBase k.accCnt) ||
        (s.peers place).any (fun p => p.2.lt.sys.tagown &&& k.lt.sys.tagown != 0) then .next s
    else match s.areaPieces k with
      | .wait q => .next (s.asks q)
      | .trap _ _ _ _ _ _ => .next (s.loseCtx ctx k 0x18 'E')
      | .ok ps =>
        if s.saveBad ctx k false ps then .next (s.loseCtx ctx k 0x18 'E')
        else
          let r := s.cycle
          let k := s.reread ps k
          let k := if k.res == .savedLight then k.withoutHeavy else k
          let s := if k.kernelLvl then s else
            s.passSlice home k.tenant (k.lt.sys.recallWord.getLsbD 32 && (s.slice home).tenant != k.tenant)
          let s := (s.freshMarks ctx place k).setCore (coreOf place) ((s.core (coreOf place)).refill k)
          let k := ((k.setLt (k.lt.resumeAt k.saveAt r)).reschedule r).asksAt r
          let k := { k with res := .resident, drowsy := false, savedSp := [], savedAcc := [], slice := home }
          let dirty := !(s.foreignSram k).isEmpty
          let s := if dirty then s else s.claimSram k
          .next (s.moveCtx ctx place ({ k with zeroing := dirty }.shadowPoint r []))

/-! Traps (R356-R360) -/

/-- Region accesses that a trap waits for (05 R161); those of quantiser operations and what stands behind them, and the loads and
reads of tile registers that matrix operations hold, run on. -/
def Ctx.regionsDone (k : Ctx) : Bool :=
  k.pends.all (·.quant)

/-- C stands at an instruction boundary: it issues, or waits in an ERET, which a fault of the handler ends. -/
def Hold.open_ : Hold → Bool
  | .none => true
  | .eret _ => true
  | _ => false

/-- A pending fault can be taken now: a later cycle than its own, every register result landed, every region instruction complete, and
C at a boundary. -/
def Ctx.trapReady (k : Ctx) (cycle : Nat) : Bool :=
  k.res == .resident && k.lt.hold.open_ && k.lt.flights.isEmpty && k.regionsDone &&
  k.nextFault.any fun f => decide (f.at_ < cycle)

/-- A pending fault withdrawn. -/
def Ctx.dropFault (k : Ctx) (f : PendFault) : Ctx := k.setLt { k.lt with faults := k.lt.faults.filter (· != f) }

/-- What the resident kernel does with a fault (R360); no trap falls between a VOTE and its target (04 R137). -/
def State.kernelTakes (s : State) (id : Nat) (k : Ctx) (f : PendFault) : State :=
  let k := if f.sync && f.strm == .c then k else k.setStrm .c (k.strm .c).unvote
  if f.code = 0x0D then
    (s.setCtx id (k.dropFault f)).logEvent id (k.setSys (k.trapRegs f (k.lt.sys.tcause.getLsbD 11))) 0x0D
  else if f.code = 0x1C then s.beginSave id (k.dropFault f) (s.cycle + k.fsBound)
  else if f.code = 0x12 ∨ f.code = 0x13 then s.recover id k f
  else s.endAtFault id k f (gradeOf f.code)

/-- The physical address of the page that holds a context's trap frame (R358); it has none where that page is not mapped for reading and
writing, against R371. -/
def State.frameAt (s : State) (k : Ctx) : Att (Option Nat) :=
  match s.translate k.place k.lt.sys.ptroot (wbits k.lt.sys.ctxarea 47 16 * 2 ^ 16) .readWrite with
  | .ok pa => .ok (some pa)
  | .wait q => .wait q
  | .trap .. => .ok none

/-- The trap frame of a context that has entered its handler, written to its context area (R358 step 3). -/
def State.saveFrame (s : State) (id : Nat) (pa : Option Nat) (k : Ctx) : State :=
  match pa with
  | none => s
  | some pa =>
    let t := (frameArea s.free k.lt.frame).foldl (fun s p => s.publishBytes id (pa + p.1) p.2) s
    { s with mem := t.mem, pubs := t.pubs, poison := t.poison }.drew (2 ^ 20)

/-- TRAP_ENTRY (R358, R360): the pending fault that comes first is taken by the tenant handler or goes to the resident kernel. -/
def execTrapEntry (ctx : Nat) (s : State) : Host.Outcome State Fault Refusal :=
  match s.ctx ctx with
  | none => .next s
  | some k =>
    match k.nextFault with
    | none => .next s
    | some f =>
      if !(k.trapReady s.cycle) then .next s
      else if k.handlerTakes f.code then
        match s.frameAt k with
        | .ok pa => .next ((s.saveFrame ctx pa (k.enterHandler f)).setCtx ctx (k.enterHandler f))
        | .wait q => .next (s.asks q)
        | .trap .. => .next s
      else if s.kernelDown then .next s
      else .next (s.kernelTakes ctx k f)

/-- KERNEL_REPLY (R362): the kernel answers, with all ones for a service it does not define; the reply lands as C resumes. -/
def execKernelReply (ctx : Nat) (reply : Word) (s : State) : Host.Outcome State Fault Refusal :=
  match s.ctx ctx with
  | none => .next s
  | some k =>
    match k.lt.hold with
    | .kernel n _ tgt =>
      if k.res != .resident || s.kernelDown then .next s
      else
        let v := if Config.kernelDefines n then reply else BitVec.allOnes 64
        let k := k.setLt { k.lt with hold := .none, ord := k.lt.ord + 1 }
        .next (s.setCtx ctx (k.landOne ⟨.c, s.cycle, k.lt.ord, tgt, v, true, []⟩))
    | _ => .next s

/-- The conditions of the watchdog (04 R140): the limit reached, and a context of equal or higher rank waiting for the sequencer that
this one holds. -/
def State.watchdogDue (s : State) (id : Nat) (k : Ctx) : Bool :=
  let limit := wbits k.lt.sys.wdlimit 31 0
  k.res == .resident && limit != 0 && decide (limit ≤ k.wd) && s.running id && !(k.lt.faults.any fun f => f.code == 0x11) &&
  s.waitedFor id

/-- WATCHDOG (04 R140): 0x11 is raised in C. -/
def execWatchdog (ctx : Nat) (s : State) : Host.Outcome State Fault Refusal :=
  match s.ctx ctx with
  | none => .next s
  | some k => if s.watchdogDue ctx k then .next (s.setCtx ctx (k.raise (asyncFault .c 0x11 0 0 0 s.cycle))) else .next s

/-- ILLEGAL_INSTRUCTION (02 R66, R65): a word that decodes to no instruction raises 0x02, in its stream, even where its gate is false
(04 R120), or as the end of the sequencer's run, and has no other effect. -/
def execIllegalInstruction (_word : W32) (s : State) : Host.Outcome State Fault Refusal :=
  if s.sel.seq then seqWord (fun _ => .fault 0x02) s
  else match s.ctx s.sel.ctx with
    | none => .refused .noContext
    | some k => settle s.sel.st s s.sel.ctx k (.fault 0x02)

/-- KERNEL_ENDS_CONTEXT (05 R159, 01 R27): the kernel ends a context; its operations in flight run on. -/
def execKernelEndsContext (ctx : Nat) (s : State) : Host.Outcome State Fault Refusal :=
  match s.ctx ctx with
  | none => .next s
  | some k =>
    if k.res == .resident then
      .next (s.endCtx ctx (k.setLt { k.lt with faults := [], hold := .none }) 0 none none)
    else if k.res == .savedForced || k.res == .savedLight then .next (s.endCtx ctx k.stripped 0 none none)
    else .next s

/-! The sorting office (R373) -/

/-- Whether a queue has a context on the cluster. -/
def State.queueBusy (s : State) (cluster queue : Nat) : Bool :=
  s.ctxs.any fun p => clusterOf p.1 == cluster && p.2.queue == queue && (p.2.res == .resident || p.2.res == .saving)

/-- The slot that a new queue takes: an idle one first, then the lowest rank, then the lowest number; none while all 32 hold queues
that cannot be pre-empted. -/
def State.slotFor (s : State) (cluster : Nat) : Option Nat :=
  let c := s.cluster cluster
  let key (n : Nat) : Option (Nat × Nat) :=
    match Sparse.get c.slots n with
    | none => some (0, 0)
    | some q => if !q.preempt then none else if s.queueBusy cluster q.queue then some (1, q.rank.toNat) else some (0, q.rank.toNat)
  ((List.range 32).foldl (fun (best : Option (Nat × (Nat × Nat))) n =>
    match key n, best with
    | none, b => b
    | some k, none => some (n, k)
    | some k, some (m, b) => if k.1 < b.1 ∨ (k.1 = b.1 ∧ k.2 < b.2) then some (n, k) else some (m, b)) none).map (·.1)

/-- A notify is served: the queue has its slot and receives it. -/
def Cluster.serve (c : Cluster) (slot : Nat) (n : Notify) : Cluster :=
  { c with slots := Sparse.set c.slots slot ⟨n.queue, n.rank, n.preempt⟩, notified := c.notified ++ [n.queue] }

/-- A notify held (R373): in the list of 64, then in the overflow map; notifies of one queue coalesce. -/
def Cluster.hold (c : Cluster) (n : Notify) : Cluster :=
  if (c.held ++ c.overflow).any fun m => m.queue == n.queue then c
  else if c.held.length < 64 then { c with held := c.held ++ [n] }
  else { c with overflow := c.overflow ++ [n] }

/-- A cluster draws no more launches: its slice, or the package, drains (14 R415). -/
def State.refusing (s : State) (cluster : Nat) : Bool :=
  s.mgmt.draining || s.mgmt.drained || (s.cluster cluster).slice.any fun sl => (s.slice sl).drain != .open_

/-- A notify that the sorting office takes up (R373): its queue holds a slot and receives it, or takes one; while the slice drains it is refused
(14 R415). None where it has to be held. -/
def State.takeUp (s : State) (cluster : Nat) (n : Notify) : Option State :=
  let c := s.cluster cluster
  if s.refusing cluster then some { s with out := s.out ++ [.launch 2] }
  else if c.slots.any fun p => p.2.queue == n.queue then some (s.setCluster cluster { c with notified := c.notified ++ [n.queue] })
  else (s.slotFor cluster).map fun slot => s.setCluster cluster (c.serve slot n)

/-- A notify enters the held-post list, or the overflow map, and the kernel is interrupted (R373, 14 R400). -/
def State.holdPost (s : State) (cluster : Nat) (n : Notify) : State := (s.setCluster cluster ((s.cluster cluster).hold n)).cause 1

/-- LAUNCH_NOTIFY (R373): refused with status 5 in safelight mode (14 R407); while the office is frozen the notify is held (13 R393). -/
def execLaunchNotify (cluster queue : Nat) (rank : BitVec 3) (preempt : Bool) (s : State) : Host.Outcome State Fault Refusal :=
  if 24 ≤ cluster ∨ 4096 ≤ queue then .next s else
  let n : Notify := ⟨queue, rank, preempt⟩
  if s.mgmt.boot == .safelight then .next { s with out := s.out ++ [.launch 5] }
  else if (s.cluster cluster).frozen then .next (s.holdPost cluster n)
  else .next ((s.takeUp cluster n).getD (s.holdPost cluster n))

/-- The held notify that is served next: the oldest of the list, then the lowest queue of the map. -/
def Cluster.nextHeld (c : Cluster) : Option (Notify × Cluster) :=
  match c.held with
  | n :: rest => some (n, { c with held := rest })
  | [] =>
    (c.overflow.foldl (fun (best : Option Notify) n => match best with
      | none => some n
      | some b => if n.queue < b.queue then some n else some b) none).map fun n =>
        (n, { c with overflow := c.overflow.filter fun m => m.queue != n.queue })

/-- The notifies of an overflow map, by queue. -/
def byQueue (ns : List Notify) : List Notify :=
  if ns.isEmpty then [] else (List.range 4096).filterMap fun q => ns.find? fun n => n.queue == q

/-- Held notifies taken up, in held-post order: the list, then the overflow map by queue. Those for which there is no slot stay as they are. -/
def State.servePost (s : State) (cluster : Nat) : State :=
  let take (acc : State × List Notify) (n : Notify) : State × List Notify :=
    match acc.1.takeUp cluster n with
    | some s => (s, acc.2)
    | none => (acc.1, acc.2 ++ [n])
  let c := s.cluster cluster
  let (s, held) := c.held.foldl take (s, [])
  let (s, overflow) := (byQueue c.overflow).foldl take (s, [])
  s.setCluster cluster { s.cluster cluster with held := held, overflow := overflow }

/-- Held notifies whose slice drains are refused (14 R415). -/
def State.refusePost (s : State) (cluster : Nat) : State :=
  if s.refusing cluster && !(s.cluster cluster).frozen then s.servePost cluster else s

/-- SLOT_RELEASE (R373): a slot is free, and the next held notify is served with it; where the slice drains, all are refused. -/
def execSlotRelease (cluster slot : Nat) (s : State) : Host.Outcome State Fault Refusal :=
  let c := s.cluster cluster
  if (Sparse.get c.slots slot).isNone then .next s
  else
    let c := { c with slots := Sparse.erase c.slots slot }
    let s := s.setCluster cluster c
    if c.frozen then .next s
    else if s.refusing cluster then .next (s.refusePost cluster)
    else match c.nextHeld with
      | some (n, c') => .next (((s.setCluster cluster c').takeUp cluster n).getD s)
      | none => .next s

/-- The sorting offices of the package freeze: notifies are held, nothing is placed (13 R393, 14 R410). -/
def State.freeze (s : State) : State := (List.range 24).foldl (fun s n => s.setCluster n { s.cluster n with frozen := true }) s

/-- They are released, and the notifies held meanwhile are taken up in held-post order (14 R411): those whose queue holds a slot, or
finds one, are served. -/
def State.thaw (s : State) : State :=
  (List.range 24).foldl (fun s n => (s.setCluster n { s.cluster n with frozen := false }).servePost n) s

/-- A live update that fails or times out (14 R410 step 5). -/
def State.rollbackUpdate (s : State) : State :=
  if s.mgmt.update.isNone then s
  else
    let s := { s with mgmt := { s.mgmt with update := none } }
    (if s.mgmt.restarting then s else s.thaw).cause 5

/-- A slice's drain begins (14 R415). -/
def Slice.startDrain (sl : Slice) : Slice := if sl.drain == .open_ then { sl with drain := .draining } else sl

/-- The package drains (14 R415): every slice with it. -/
def State.drainAll (s : State) : State :=
  { s with mgmt := { s.mgmt with draining := true }, slices := s.slices.map fun p => (p.1, p.2.startDrain) }

/-- A slice moved to draining: its held-post notifies are refused; a lent one is recalled (R415, 12 R372). The sorting office accepts the drain in the
cycle in which the mailbox serves it, and refuses launches that come later in that cycle: R415 says in which cycle neither, and this is the
model's choice [70]. -/
def State.drainOne (s : State) (n : Nat) : State :=
  let s := s.setSlice n (s.slice n).startDrain
  let s := (s.sliceClusters n).foldl State.refusePost s
  if (s.slice n).lent then
    match execRecallSlice n s with
    | .next s' => s'
    | _ => s
  else s

/-- The package and every slice drain, and every notify held in it is refused. -/
def State.drainPackage (s : State) : State :=
  (List.range 24).foldl State.refusePost ((List.range 24).foldl State.drainOne s.drainAll)

/-- KERNEL_RESTART (13 R393, 14 R411): the monitor takes an error of the kernel: a live update rolls back, the sorting offices freeze and
the kernel restarts; `ok` ends a restart in progress; a second failure drains the package. In safelight mode no kernel runs (14 R407). -/
def execKernelRestart (ok : Bool) (s : State) : Host.Outcome State Fault Refusal :=
  let by_ := s.cycle + Config.second / 20
  if s.mgmt.boot == .safelight then .next s
  else if !s.mgmt.restarting then
    let s := s.rollbackUpdate
    .next { s.freeze with mgmt := { s.mgmt with restarting := true, restartBy := by_ } }
  else if ok then .next (State.thaw { s with mgmt := { s.mgmt with restarting := false, restarts := 0 } })
  else
    let s := { s with mgmt := { s.mgmt with restarts := s.mgmt.restarts + 1, restartBy := by_ } }
    .next (if 2 ≤ s.mgmt.restarts then s.drainPackage else s)

/-! Launch (01 R20-R26, 03 R70, 20 R441-R446) -/

/-- The loop table keeps the rules of R441. -/
def loopsOk (ls : List (LoopKind × Nat)) : Bool :=
  let spatial := ls.filter fun l => l.1 != .temporal
  decide (ls.length ≤ 6) && decide (spatial.length ≤ 3) && ls.take spatial.length == spatial &&
  ls.all (fun l => decide (1 ≤ l.2) && decide (l.2 < 2 ^ 32)) && spatial.all fun l => decide (l.2 ≤ 65536)

/-- sys.coord of the n-th context of a launch (12 R363): its index in each spatial level, the innermost varying fastest. -/
def coordOf (exts : List Nat) (n : Nat) : Word :=
  BitVec.ofNat 64 (((spatialIndex exts n).zipIdx).foldl (fun v p => v + p.1 % 2 ^ 16 * 2 ^ (16 * p.2)) 0)

/-- A context as launched (03 R70, 06 R205, R188, 08 R249, 13 R380). -/
def launched (l : Launch) (n : Nat) (p : Placement) (cycle : Nat) : Ctx :=
  let r := SysRegs.reset
  let r := { r with
    ft := Vector.ofFn fun i => l.formats.getD i.val 0
    bd := Vector.ofFn fun i => l.bonds.getD i.val 1
    wdlimit := p.wdlimit, savebudget := p.savebudget, recallWord := p.recallWord, ctxarea := p.ctxarea
    spbase := p.spbase, spsize := p.spsize, accset := p.accset, tagown := p.tagown, ptroot := p.ptroot
    slots := (l.slotsOf n).foldl (fun v q => v.setIfInBounds q.1 q.2) r.slots }
  let ss := { StreamState.reset with o := Vector.ofFn (fun i => (l.params p).getD i.val 0), ready := cycle, lastIssue := cycle }
  let books := l.books.foldl (fun (b : Vector Book 4) q => b.setIfInBounds q.1 ⟨true, q.2⟩) Light.reset.books
  let k := { Ctx.reset with
    place := p.ctx, queue := l.queue, slice := l.slice, tenant := l.tenant, kernelLvl := l.kernelLvl, rank := l.rank, paired := l.paired
    coord := coordOf (spatialExtents l.loops) n, codeLo := l.codeLo, codeHi := l.codeHi, nspill := l.spill
    dpipes := l.pipes, dctrs := l.ctrs, dtokens := l.tokens, transform := l.transform, start := cycle
    lt := { Light.reset with c := ss, l := ss, x := ss, s := ss, next := some l.entry, sys := r, books := books } }
  k.shadowPoint cycle []

/-- The registers that the kernel writes for a context before its first instruction are legal, and its shares clear of others. -/
def State.placementOk (s : State) (l : Launch) (n : Nat) (p : Placement) : Bool :=
  let k := launched l n p s.cycle
  s.placeFree p.ctx l.slice && s.partOk p.ctx k.spBase k.spSize && s.runOk p.ctx k.accBase k.accCnt &&
  [(0x060, p.spbase), (0x061, p.spsize), (0x062, p.accset), (0x063, p.tagown), (0x064, p.ptroot), (0x059, p.ctxarea),
    (0x056, p.savebudget), (0x00D, p.wdlimit), (0x058, p.recallWord)].all (fun w => sysValueOk w.1 w.2) &&
  s.kernelWriteOk p.ctx k 0x058 p.recallWord && s.kernelWriteOk p.ctx k 0x059 p.ctxarea &&
  !((s.peers p.ctx).any fun q => q.2.lt.sys.tagown &&& p.tagown != 0)

/-- The image keeps the rules of R441 and R446, and those of the registers to which it gives launch values: each slot belongs to a context of
the launch and has a legal value (10 R302, R303, 19 R434). -/
def launchOk (l : Launch) : Bool :=
  loopsOk l.loops && decide (l.places.length = (spatialExtents l.loops).foldl (· * ·) 1) && decide (l.transform.length ≤ 1024) &&
  decide (l.spill ≤ 512) && l.slots.all (fun q => decide (q.1 < l.places.length) && slotValueOk q.2.2) && l.entry % 32 == 0 && decide (l.codeLo ≤ l.entry) && decide (l.entry + 32 ≤ l.codeHi) &&
  l.codeLo % 32 == 0 && l.formats.all (sysValueOk 0x010) && l.bonds.all (sysValueOk 0x020) &&
  l.patchesOk

/-- A cluster joins a slice for a tenant when it belongs to no other, or no context of that slice runs or has work in flight (01 R23, R25,
R27). SRAM that another tenant held last is zeroed as it joins (01 R26, 10 R301) [14]. -/
def State.allot (s : State) (cluster slice tenant : Nat) : State :=
  let c := s.cluster cluster
  if c.slice == some slice || c.slice.any fun old => s.ctxs.any fun p => p.2.slice == old && s.stays p then s
  else
    let foreign := c.tenant.any (· != tenant)
    let s := if foreign then { s with poison := s.poison.filter fun p => match p with
      | .sram d _ => d != cluster
      | _ => true } else s
    s.setCluster cluster { c with slice := some slice, tenant := some tenant, sram := if foreign then [] else c.sram }

/-- The clusters of a launch join its slice, and the slice passes to its tenant; a kernel-level launch takes no slice from a tenant. -/
def State.takeSlice (s : State) (l : Launch) : Option State :=
  let s := (l.places ++ l.twins).foldl (fun s p => s.allot (clusterOf p.ctx) l.slice (if l.kernelLvl then (s.slice l.slice).holder else l.tenant)) s
  if l.kernelLvl then some s
  else if s.mayPass l.slice l.tenant then some (s.passSlice l.slice l.tenant (l.places.any fun p => p.recallWord.getLsbD 32))
  else none

/-- Whether a share of a context was held last by another tenant (01 R26). -/
def State.foreign (s : State) (id : Nat) (k : Ctx) : Bool :=
  let co := s.core (coreOf id)
  (List.range (k.spSize / 4096)).any (fun j => (Sparse.get co.spTenant (k.spBase / 4096 + j)).any (· != k.tenant)) ||
  (List.range k.accCnt).any (fun j => (Sparse.get co.accTenant (k.accBase + j)).any (· != k.tenant)) ||
  !(s.foreignSram k).isEmpty

/-- A launched context placed: its shares are its tenant's, once zeroed where another held them (01 R26). -/
def State.placeNew (s : State) (id : Nat) (k : Ctx) : State :=
  let s := s.renameWriter id (s.pastWriter id)
  if s.foreign id k then s.setCtx id { k with zeroing := true }
  else ((s.setCore (coreOf id) ((s.core (coreOf id)).claim k)).claimSram k).setCtx id k

/-- Contexts placed, the n-th of the list with the n-th coordinates; none where a register or a share breaks a rule. -/
def State.placeAll (s : State) (l : Launch) (ps : List Placement) : Option State :=
  (ps.zipIdx).foldl (fun (acc : Option State) p =>
    acc.bind fun s => if s.placementOk l p.2 p.1 then some (s.placeNew p.1.ctx (launched l p.2 p.1 s.cycle)) else none) (some s)

/-- The state once a launch from a cluster is loaded and its contexts placed; none where the image, a share or the queue breaks a rule. -/
def State.launch (s : State) (cluster : Nat) (l : Launch) : Option State :=
  if !launchOk l || !l.spread cluster || !l.twinsOk || !s.slotTableOk l || !((s.cluster cluster).slots.any fun p => p.2.queue == l.queue) then
    none
  else
    (s.takeSlice l).bind fun s0 => (s0.loadImage l).bind fun s1 => (s1.placeAll l l.places).bind fun s2 => (s2.placeAll l l.twins).map fun s3 =>
      s3.setCluster cluster { s3.cluster cluster with notified := (s3.cluster cluster).notified.filter (· != l.queue) }

/-- CONTEXT_LAUNCH (01 R24, 20 R446): the loader reads and places the image, and the sorting office of a cluster the contexts of a launched
kernel whose queue holds a slot. It is refused with status 2 on a draining slice (14 R415) and 5 in safelight mode (14 R407); where the
image or a share breaks a rule, nothing is placed. -/
def execContextLaunch (cluster : Nat) (q : LaunchRequest) (s : State) : Host.Outcome State Fault Refusal :=
  let answer (s : State) (status : Nat) : State := { s with out := s.out ++ [.launch status] }
  if s.mgmt.boot == .safelight then .next (answer s 5)
  else if s.mgmt.draining || (s.slice q.slice).drain != .open_ then .next (answer s 2)
  else if (s.cluster cluster).frozen then .next s
  else match q.read.bind (s.launch cluster) with
    | none => .next (answer s 4)
    | some s' => .next (answer s' 0)

/-! Retention and the debugger (R374-R376) -/

/-- CONTEXT_DROWSY (R376): no stream has issued for 4096 cycles and no result is in flight. -/
def execContextDrowsy (ctx : Nat) (s : State) : Host.Outcome State Fault Refusal :=
  match s.ctx ctx with
  | none => .next s
  | some k =>
    if k.res == .resident && k.lt.flights.isEmpty && Strm.all.all (fun st => decide ((k.strm st).lastIssue + 4096 < s.cycle)) then
      .next (s.setCtx ctx { k with drowsy := true })
    else .next s

/-- A core is gated (R376): every context placed on it is drowsy, or none is, and no engine operation, sequencer run or courier command of its
contexts is queued or in flight. A context of a gated core is gated; neither changes any architectural value. -/
def State.gated (s : State) (core : Nat) : Bool :=
  (s.core core).seq.run.isNone && s.ctxs.all fun p => p.1 / 4 != core ||
    ((p.2.drowsy || (p.2.res != .resident && p.2.res != .saving)) && !p.2.engineBusy && p.2.pends.isEmpty)

/-- STATE_WAKE (R376): a drowsy or gated context leaves retention. -/
def execStateWake (ctx : Nat) (s : State) : Host.Outcome State Fault Refusal :=
  match s.ctx ctx with
  | none => .next s
  | some k => .next (s.setCtx ctx { k with drowsy := false })

/-- What a debugger reads of a context (R374): none while an operation in flight still writes the accumulator unit it names, and where the
place does not exist. -/
def State.debugValue (s : State) (id : Nat) (k : Ctx) (st : Strm) : DbgItem → Option Word
  | .reg spec => some (readSrc s.cycle k st spec)
  | .setReg .. => none
  | .acc u n => if k.unitsBusy u (u + 1) || decide (k.accCnt ≤ u) || decide (16384 ≤ n) then none
    else some (((Sparse.get (s.core (coreOf id)).acc ((k.accBase + u) * 16384 + n)).getD 0).setWidth 64)
  | .lane n => ((queueWords (k.strm st).queue)[n]?).map (BitVec.ofNat 64)
  | .pipe p n => (k.lt.pipe p)[n]?
  | .barrier n => if n < 8 then some (k.lt.cbar n).word else none
  | .entry r n => (((k.lt.fifos[r.num]?.getD ⟨[], 0⟩).entries)[n]?).map (·.val)

/-- DEBUGGER_READ (R374, R375): the management path reads the exact value of a register, or what else a debugger sees of a context, waking
its state; on a halted context it may write a register [69]. -/
def execDebuggerRead (ctx : Nat) (st : Strm) (item : DbgItem) (s : State) : Host.Outcome State Fault Refusal :=
  match s.ctx ctx with
  | none => .next s
  | some k =>
    let k := { k with drowsy := false }
    match item with
    | .setReg spec v =>
      if !k.halted then .next (s.setCtx ctx k)
      else if spec.toNat ≤ 15 then
        let ss := k.strm st
        .next (s.setCtx ctx (k.setStrm st { ss with q := ss.q.setIfInBounds spec.toNat v }))
      else if !regOk spec then .next (s.setCtx ctx k)
      else .next (s.setCtx ctx (k.landOne ⟨st, s.cycle, k.lt.ord, dstTarget k st spec, v, false, []⟩))
    | item =>
      let s := s.setCtx ctx k
      match s.debugValue ctx k st item with
      | some v => .next { s with out := s.out ++ [.regval v] }
      | none => .next s

end Sys2Proof.Machine
end

