-- ==== Sys2Proof/Machine/Mgmt.lean ====
section
/-! DEFINITION. The I/O die and the application die (14, 19 R430): host and root-port accesses, the management window, interrupts, the
mailbox, the fabric, boot, attestation, live update, the contact sheet, drain, power and cooling. -/

namespace Sys2Proof.Machine

open Sys2Proof

/-! Accesses of parties outside the compute contexts (R396-R399, 11 R328) -/

/-- An address under the table of an outside party, whose root is of the form of sys.ptroot and whose entries are those of 11 R350, where
R353 has the scrub bit that these accesses, too, wait for: the physical address and whether its page is pending scrub; none where the table does
not translate or permit [16]. -/
def State.hostTranslate (s : State) (root : Word) (write : Bool) (va : Nat) : Option (Nat × Bool) :=
  if 2 ^ 48 ≤ va ∨ !(root.getLsbD 0) then none else
  match walk s.mem root va with
  | .leaf pa size rd wr _ scrub _ => if scrub || (if write then wr else rd) then some (pa + va % size, scrub) else none
  | .fail _ => none

/-- The physical pieces of a range under an outside party's table (0 the host's window, 1 to 4 root ports, 5 application cores), and
whether a page of it is pending scrub; none where the table does not translate or permit, or leaves device memory [16]. -/
def State.hostPieces (s : State) (table : Nat) (write : Bool) (addr n : Nat) : Option (List (Nat × Nat) × Bool) :=
  let root := (Sparse.get s.mgmt.roots table).getD 0
  (pieces (n / 65536 + 2) addr n).foldl (fun acc p =>
    match acc, s.hostTranslate root write p.1 with
    | some l, some pa => if pa.1 + p.2 ≤ Config.deviceBytes then some (l.1 ++ [(pa.1, p.2)], l.2 || pa.2) else none
    | _, _ => none) (some ([], false))

/-- Bytes that an outside party reads. -/
def State.readPieces (s : State) (ps : List (Nat × Nat)) : List Byte := ps.flatMap fun p => s.mem.read p.1 p.2

/-- A write of the host that is discarded is recorded in the endpoint's error log and signalled (R396). -/
def State.discard (s : State) : State :=
  { s with mgmt := { s.mgmt with errors := s.mgmt.errors + 1 }, out := s.out ++ [.linkError] }

/-- An access of an outside party under its table: a read answers its bytes, a write is published; what the table does not translate
or permit changes nothing; while a page of it is pending scrub the access waits (11 R353). -/
def State.outside (s : State) (table addr : Nat) (write : Bool) (bytes : List Byte) : State :=
  match s.hostPieces table write addr bytes.length with
  | none => if write then s.discard else { s with out := s.out ++ [.abort] }
  | some (ps, scrub) =>
    if scrub then { s with mgmt := { s.mgmt with held := s.mgmt.held ++ [⟨table, addr, write, bytes⟩] } }
    else if write then s.publishPieces ps bytes
    else { s with out := s.out ++ [.data (s.readPieces ps)] }

/-- The first access that waited on a scrub and need not any more: its place among those that wait. -/
def State.heldReady (s : State) : Option Nat :=
  (List.range s.mgmt.held.length).find? fun n => match s.mgmt.held[n]? with
    | some a => !((s.hostPieces a.table a.write a.addr a.bytes.length).any (·.2))
    | none => false

/-- That access is performed. -/
def heldNow (s : State) : Host.Outcome State Fault Refusal :=
  match s.heldReady with
  | none => .next s
  | some n => match s.mgmt.held[n]? with
    | none => .next s
    | some a =>
      let s : State := { s with mgmt := { s.mgmt with held := s.mgmt.held.eraseIdx n } }
      .next (s.outside a.table a.addr a.write a.bytes)

/-! The contact sheet's page (R412) -/

/-- The number of the package's state in the sheet. -/
def State.pkgState (s : State) : Nat :=
  if s.mgmt.boot == .safelight then 3 else if s.mgmt.update.isSome then 4 else if s.mgmt.drained then 2
  else if s.mgmt.draining then 1 else 0

/-- A record of `n` bytes whose fields R412 names without their places. -/
def sheetRecord (kind n : Nat) (fields : List Nat) : List Byte := (List.range n).map (Config.sheetByte kind fields)

/-- A buffer of the page, by offset (R412, R414). -/
def Sheet.layout (b : Sheet) : List (Nat × List Byte) :=
  ((b.cores.zipIdx).map fun p => (8 * p.2, leBytes 8 p.1.toNat)) ++
  ((b.clusters.zipIdx).map fun p => (0x600 + 16 * p.2, sheetRecord 0 16 [p.1.1, p.1.2.1, p.1.2.2.1, p.1.2.2.2])) ++
  ((b.ports.zipIdx).map fun p => (0x800 + 16 * p.2, sheetRecord 1 16 p.1)) ++
  ((b.hbm.zipIdx).map fun p => (0xC00 + 16 * p.2, sheetRecord 2 16 [p.1.1, p.1.2.1, p.1.2.2])) ++
  [(0xD00, sheetRecord 3 0x100 [b.power, b.cap, b.temp, if b.limiting then 1 else 0]),
    (0xE00, b.retired.flatMap (leBytes 4))]

/-- The buffer of the contact sheet that its generation names (R413). -/
def Mgmt.sheet (m : Mgmt) : Sheet := if m.gen % 2 = 0 then m.buf0 else m.buf1

/-- The page, by offset: its header and its two buffers; a byte that nothing is placed at is zero. The header shows the current sample. -/
def State.sheetPage (s : State) : List (Nat × List Byte) :=
  let b := s.mgmt.sheet
  [(0x08, leBytes 8 s.mgmt.gen), (0x10, leBytes 8 b.cycle), (0x18, leBytes 8 b.pkg), (0x20, leBytes 8 b.pkgState),
    (0x28, leBytes 8 (if b.slot then 1 else 0))] ++
  (s.mgmt.buf0.layout.map fun p => (0x1000 + p.1, p.2)) ++ s.mgmt.buf1.layout.map fun p => (0x8800 + p.1, p.2)

/-- Bytes read from the page. -/
def State.sheetRead (s : State) (off n : Nat) : List Byte :=
  (List.range n).map fun j =>
    (s.sheetPage.findSome? fun p => if p.1 ≤ off + j then p.2[off + j - p.1]? else none).getD 0

/-- HOST_MEMORY_READ (R396, R412): of the device memory window of 64 GiB, or of the contact sheet's page. -/
def execHostMemoryRead (addr : HostAddr) (len : Nat) (s : State) : Host.Outcome State Fault Refusal :=
  match addr with
  | .sheet off => .next { s with out := s.out ++ [if off + len ≤ 65536 then .data (s.sheetRead off len) else .abort] }
  | .memory off =>
    if 2 ^ 36 < off + len then .next { s with out := s.out ++ [.abort] }
    else .next (s.outside 0 off false (List.replicate len 0))

/-- HOST_MEMORY_WRITE (R396): a posted write; one to the contact sheet has no effect (R412). -/
def execHostMemoryWrite (addr : HostAddr) (bytes : List Byte) (s : State) : Host.Outcome State Fault Refusal :=
  match addr with
  | .sheet _ => .next s
  | .memory off => if 2 ^ 36 < off + bytes.length then .next s.discard else .next (s.outside 0 off true bytes)

/-- ROOT_PORT_DMA (R398): by a device behind root port 0 to 3; a read is of as many bytes as are given. -/
def execRootPortDma (port addr : Nat) (write : Bool) (bytes : List Byte) (s : State) : Host.Outcome State Fault Refusal :=
  if 4 ≤ port then .next s else .next (s.outside (1 + port) addr write bytes)

/-- APPLICATION_CORE_ACCESS (R399): of device memory, or of the contact sheet where the kernel has mapped it (R412). -/
def execApplicationCoreAccess (addr : Nat) (write : Bool) (bytes : List Byte) (s : State) : Host.Outcome State Fault Refusal :=
  match s.mgmt.sheetMap with
  | some m =>
    if m ≤ addr ∧ addr + bytes.length ≤ m + 65536 then
      .next (if write then s else { s with out := s.out ++ [.data (s.sheetRead (addr - m) bytes.length)] })
    else .next (s.outside 5 addr write bytes)
  | none => .next (s.outside 5 addr write bytes)

/-! The management window (R397) -/

/-- The party reaches the context control window. -/
def State.windowOpen (s : State) (p : Party) : Bool := p == .kernel || s.mgmt.granted

/-- The boot status register (R406). -/
def Mgmt.bootWord (m : Mgmt) : Word :=
  let state := match m.boot with
    | .rom => 0
    | .verifying => 1
    | .monitor => 2
    | .kernel => 3
    | .safelight => 4
  BitVec.ofNat 64 (state + (if m.bootSlot then 2 ^ 3 else 0) + m.failcnt % 4 * 2 ^ 4 + m.reason % 2 ^ 8 * 2 ^ 8 + m.arb % 2 ^ 16 * 2 ^ 16)

/-- The reliability record of a core (13 R389). -/
def RelRec.word (r : RelRec) : Word :=
  BitVec.ofNat 64 (r.rb % 2 ^ 16 + r.vt % 2 ^ 12 * 2 ^ 16 + r.ce % 2 ^ 20 * 2 ^ 28 + r.nr % 2 ^ 8 * 2 ^ 48 + r.pr % 2 ^ 4 * 2 ^ 56 +
    (if r.off then 2 ^ 60 else 0))

/-- A word of the mailbox, by offset within it (R401). -/
def Mgmt.mailWord (m : Mgmt) (off : Nat) : Word :=
  if off < 64 then m.mbox[off / 8]?.getD 0
  else if off = 0x80 then m.answer.1 else if off = 0x88 then m.answer.2 else 0

/-- A register of a context read as a kernel-level RDSYS, which wakes its state; a number missing from the table reads as zero with an error
response. -/
def State.windowReg (s : State) (p : Party) (ctx n : Nat) : State × Reply :=
  match s.ctx ctx with
  | none => (s, .window 0 true)
  | some k =>
    if s.windowOpen p && sysOk n then (s.setCtx ctx { k with drowsy := false }, .window (sysRead s.cycle ctx k n) false)
    else (s, .window 0 true)

/-- CONTEXT_WINDOW_READ (R397): a word of the management window, at an offset in one of its 4 KiB pages: boot status, interrupt cause,
mailbox, reliability records, and the context control window. What its layout does not place reads as zero [66]. -/
def execContextWindowRead (p : Party) (page off : Nat) (s : State) : Host.Outcome State Fault Refusal :=
  let off := 4096 * page + off
  let answer (s : State) (r : Reply) : Host.Outcome State Fault Refusal := .next { s with out := s.out ++ [r] }
  if off = 0 then answer s (.window s.mgmt.bootWord false)
  else if off = 0x40 then answer s (.window (s.mgmt.cause.setWidth 64) false)
  else if 0x1000 ≤ off ∧ off < 0x2000 then answer s (.window (s.mgmt.mailWord (off - 0x1000)) false)
  else if 0x10000 ≤ off ∧ off < 0x10000 + 8 * 192 then answer s (.window (s.core ((off - 0x10000) / 8)).rel.word false)
  else if 0x80000 ≤ off ∧ off < 0x80000 + 0x800 * 768 then
    let (s, r) := s.windowReg p ((off - 0x80000) / 0x800) (off % 0x800 / 8)
    answer s r
  else answer s (.window 0 false)

/-- A kernel-level WRSYS of a register of a context with the register's waits: while it would make C wait, the write waits. One that would
raise a fault, or that the register's rule allows only off the core, changes nothing and is answered by an error. -/
def windowWrite (p : Party) (ctx n : Nat) (v : Word) (s : State) : Host.Outcome State Fault Refusal :=
  let err : Host.Outcome State Fault Refusal := .next { s with out := s.out ++ [.window 0 true] }
  let done (s : State) : Host.Outcome State Fault Refusal := .next { s with out := s.out ++ [.window 0 false] }
  match s.ctx ctx with
  | none => err
  | some k0 =>
    let k := { k0 with drowsy := false }
    let s := s.setCtx ctx k
    if !(s.windowOpen p && sysOk n) then err
    else if sysAccess n = .readOnly then done s
    else if !sysValueOk n v then err
    else if 0x080 ≤ n ∧ n ≤ 0x09F then
      let t := Tag.ofWord v
      if k.tagBusy (n - 0x080) then .next s
      else if t.en && (decide (k.spSize < t.range.2) || (List.range 32).any fun j =>
          j != n - 0x080 && (let u := k.lt.sys.tags[j]?.getD Tag.reset; u.en && meets t.range.1 t.range.2 u.range.1 u.range.2)) then err
      else done (s.setCtx ctx (k.both (·.sysLand s.cycle n v)))
    else if 0x04C ≤ n ∧ n ≤ 0x04F ∧ !(k.lt.sys.dbufOk (n - 0x04C) v) then err
    else if n = 0x00B then
      let low := k.accCnt - Nat.max (wbits v 3 0) k.bndUnits
      if k.lt.hold != .none || (k.mats.any fun m => m.kind == .tcon || m.kind == .cplan) || (k.pends.any fun p => p.boundary) ||
          k.unitsBusy low k.accCnt then .next s
      else if k.accCnt < wbits v 3 0 ∨ (k.lt.sys.bndshape.getLsbD 48 ∧ capacity v < k.bnd.length) then err
      else done (s.setCtx ctx (k.setLt { k.lt with hold := .move (s.cycle + 1 + (8 * k.bnd.length + 511) / 512 + 8) v }))
    else if n = 0x065 then
      let size := wbits v 5 0
      let va := wbits v 47 16 * 2 ^ 16
      if size < 16 ∨ 48 < size ∨ va % 2 ^ size ≠ 0 then err
      else if s.walksIn va (2 ^ size) then .next s
      else done { s.setCtx ctx (k.both (·.sysLand s.cycle n v)) with
        tlb := s.tlb.filter fun t => !(meets va (va + 2 ^ size) t.va (t.va + t.size)) }
    else kernelWrite ctx n v (decide (0x060 ≤ n ∧ n ≤ 0x062 ∨ 0x0C0 ≤ n)) s

/-- Interrupt cause bits written with one are cleared (R400). -/
def State.clearCause (s : State) (mask : BitVec 8) : State := { s with mgmt := { s.mgmt with cause := s.mgmt.cause &&& ~~~mask } }

/-- What the resident kernel sets by means that the spec does not give, by number: the roots of the outside parties' tables (R396, R398, R399),
and where it maps the contact sheet for the application cores (R412), with bit 0 for a mapping [16]. -/
def State.kernelSets (s : State) (n : Nat) (v : Word) : State :=
  if n < 6 then { s with mgmt := { s.mgmt with roots := Sparse.set s.mgmt.roots n v } }
  else if n = 6 then { s with mgmt := { s.mgmt with sheetMap := if v.getLsbD 0 then some (wbits v 63 16 * 65536) else none } }
  else s

/-- CONTEXT_WINDOW_WRITE (R397): a word of the management window: interrupt cause, write one to clear; the mailbox, whose submission joins the
requests that wait (R401); the context control window. Boot status, reliability records and the response keep their values. A write of the
kernel behind the window's 2 MiB stands for what it sets by means of its own [16]. -/
def execContextWindowWrite (p : Party) (page off : Nat) (v : Word) (s : State) : Host.Outcome State Fault Refusal :=
  let off := 4096 * page + off
  if 0x80000 ≤ off ∧ off < 0x80000 + 0x800 * 768 then windowWrite p ((off - 0x80000) / 0x800) (off % 0x800 / 8) v s
  else
    let m := s.mgmt
    .next (if off = 0x40 then s.clearCause (v.setWidth 8)
      else if 0x1000 ≤ off ∧ off < 0x1040 then { s with mgmt := { m with mbox := m.mbox.setIfInBounds ((off - 0x1000) / 8) v } }
      else if off = 0x1040 then { s with mgmt := { m with asked := m.asked ++ [(p, m.mbox, v.setWidth 16)] } }
      else if 2 ^ 21 ≤ off ∧ p = .kernel then s.kernelSets ((off - 2 ^ 21) / 8) v
      else s)

/-- INTERRUPT_CAUSE_CLEAR (R400). -/
def execInterruptCauseClear (mask : BitVec 8) (s : State) : Host.Outcome State Fault Refusal := .next (s.clearCause mask)

/-! The mailbox (R401) -/

/-- The response to a request stands at offset 0x80 of the mailbox, a value that the command returns in word 1, and its interrupt. -/
def State.respond (s : State) (q : Mbx) (status : Nat) (v : Word) : State :=
  State.cause { s with
    mgmt := { s.mgmt with answer := (BitVec.ofNat 64 (status % 2 ^ 8 + q.seq.toNat * 2 ^ 16), v) }
    out := s.out ++ [.mailbox q.seq status v] } 0

/-- A request served: the statuses of R401, or what the command does and the value it returns. `safe`: served in safelight mode. -/
def serve (q : Mbx) (safe bad : Bool) (f : State → State × Word) (s : State) : Host.Outcome State Fault Refusal :=
  if s.kernelBusy then .next (s.respond q 1 0)
  else if !q.auth then .next (s.respond q 3 0)
  else if bad then .next (s.respond q 4 0)
  else if s.mgmt.boot == .safelight && !safe then .next (s.respond q 5 0)
  else let (s, v) := f s; .next (s.respond q 0 v)

/-- READ_GENERATION (R401, R412): the current generation, with the buffer it names. -/
def execReadGeneration (q : Mbx) (s : State) : Host.Outcome State Fault Refusal :=
  serve q true false (fun s => ({ s with out := s.out ++ [.sheet s.mgmt.sheet] }, BitVec.ofNat 64 s.mgmt.gen)) s

/-- DRAIN_SLICE (R415). -/
def execDrainSlice (q : Mbx) (slice : Nat) (s : State) : Host.Outcome State Fault Refusal :=
  serve q false (decide (24 ≤ slice)) (fun s => (s.drainOne slice, 0)) s

/-- DRAIN_PACKAGE (R415). -/
def execDrainPackage (q : Mbx) (s : State) : Host.Outcome State Fault Refusal :=
  serve q false false (fun s => (s.drainPackage, 0)) s

/-- REOPEN_SLICE (R415). -/
def execReopenSlice (q : Mbx) (slice : Nat) (s : State) : Host.Outcome State Fault Refusal :=
  serve q false (decide (24 ≤ slice)) (fun s => (s.setSlice slice { s.slice slice with drain := .open_ }, 0)) s

/-- REOPEN_PACKAGE (R415). -/
def execReopenPackage (q : Mbx) (s : State) : Host.Outcome State Fault Refusal :=
  serve q false false (fun s =>
    ({ s with mgmt := { s.mgmt with draining := false, drained := false }
              slices := s.slices.map fun p => (p.1, { p.2 with drain := .open_ }) }, 0)) s

/-- Whether a context is placed and on its core. -/
def State.placed (s : State) (id : Nat) : Bool :=
  match s.ctx id with
  | some k => k.res == .resident
  | none => false

/-- HALT_CONTEXT (12 R374): a context that is halted stays so, its streams as far as they are. -/
def execHaltContext (q : Mbx) (ctx : Nat) (s : State) : Host.Outcome State Fault Refusal :=
  serve q false (!s.placed ctx) (fun s =>
    match s.ctx ctx with
    | some k => (s.setCtx ctx (if k.halted then { k with bkptHalt := false } else { k with halted := true, stopped := [] }), 0)
    | none => (s, 0)) s

/-- RESUME_CONTEXT (12 R374): all four streams restart in one cycle. -/
def execResumeContext (q : Mbx) (ctx : Nat) (s : State) : Host.Outcome State Fault Refusal :=
  serve q false (!s.placed ctx) (fun s =>
    match s.ctx ctx with
    | some k => (s.setCtx ctx { k with halted := false, bkptHalt := false, stopped := [] }, 0)
    | none => (s, 0)) s

/-- GRANT_WINDOW (R397). -/
def execGrantWindow (q : Mbx) (grant : Bool) (s : State) : Host.Outcome State Fault Refusal :=
  serve q false false (fun s => ({ s with mgmt := { s.mgmt with granted := grant } }, 0)) s

/-- STAGE_IMAGE (R401): the result is signalled by vector 5. -/
def execStageImage (q : Mbx) (image : Image) (s : State) : Host.Outcome State Fault Refusal :=
  serve q true false (fun s => ({ s with mgmt := { s.mgmt with staging := some image } }, 0)) s

/-- IMAGE_STAGE_DONE (R401): the image stands in the inactive slot. A staging that is still under way as a live update starts may so replace the staged
image after the monitor's checks, and is then what commits: R410 is silent on it, and the model lets it happen [70]. -/
def execImageStageDone (s : State) : Host.Outcome State Fault Refusal :=
  match s.mgmt.staging with
  | none => .next s
  | some i =>
    let m := if s.mgmt.active then { s.mgmt with imageA := some i } else { s.mgmt with imageB := some i }
    .next (State.cause { s with mgmt := { m with staging := none, staged := true } } 5)

/-- The package's power against its cap: limiting holds while it exceeds it, and its beginning raises vector 7 (R417, R400). -/
def State.limit (s : State) (milliwatts : Nat) : State :=
  let on := decide (s.mgmt.cap < milliwatts)
  let s' := { s with mgmt := { s.mgmt with power := milliwatts, limiting := on } }
  if on && !s.mgmt.limiting then s'.cause 7 else s'

/-- SET_POWER_CAP (R417): 1.0 to 2.2 kW, in milliwatts. -/
def execSetPowerCap (q : Mbx) (milliwatts : Nat) (s : State) : Host.Outcome State Fault Refusal :=
  serve q false (decide (milliwatts < 1000000) || decide (2200000 < milliwatts)) (fun s =>
    (({ s with mgmt := { s.mgmt with cap := milliwatts } } : State).limit s.mgmt.power, 0)) s

/-- ARM_INJECTOR (19 R430): a new arm replaces an old one; it counts from the cycle after the response. -/
def execArmInjector (q : Mbx) (port n b : Nat) (s : State) : Host.Outcome State Fault Refusal :=
  serve q false (decide (63 < port) || n == 0 || decide (2 ^ 32 ≤ n) || decide (511 < b)) (fun s =>
    (s.setPort port { s.port port with injector := some ⟨n, b, s.cycle⟩ }, 0)) s

/-! Boot and reset (R405-R407) -/

/-- The package without power or after a reset command: everything on the dies at its reset value [22]. -/
def State.cleared (s : State) (m : Mgmt) (mem : Memory) : State :=
  { State.reset with cycle := s.cycle, pkg := s.pkg, mem := mem, mgmt := m, out := s.out, free := s.free }

/-- What a reset keeps of the management state: the boot status fields that R406 keeps, the images in their slots [22]. -/
def Mgmt.afterReset (m : Mgmt) : Mgmt :=
  { Mgmt.reset with
    bootSlot := m.bootSlot, failcnt := m.failcnt, failed := m.failed, reason := m.reason, arb := m.arb, imageA := m.imageA, imageB := m.imageB
    active := m.active, staged := m.staged, retired := m.retired, uncorrected := m.uncorrected, gen := m.gen }

/-- RESET_PACKAGE (R401, R407): in safelight mode, after an image has been staged, the next start has failcnt 0. -/
def execResetPackage (q : Mbx) (s : State) : Host.Outcome State Fault Refusal :=
  serve q true false (fun s =>
    let m := s.mgmt.afterReset
    (s.cleared (if s.mgmt.boot == .safelight && s.mgmt.staged then { m with failcnt := 0 } else m) s.mem, 0)) s

/-- A change of the boot state, signalled by vector 4. -/
def State.bootTo (s : State) (b : Boot) : State := State.cause { s with mgmt := { s.mgmt with boot := b } } 4

/-- Every port taken down, or brought up. -/
def State.allPorts (s : State) (lanes : Nat) : State :=
  (List.range 64).foldl (fun s n => s.setPort n { s.port n with lanes := lanes, injector := if lanes = 0 then none else (s.port n).injector }) s

/-- A core without contexts: no operation is bound to its units, and its sequencer runs nothing. -/
def Core.vacant (c : Core) : Core :=
  { c with mat := ⟨none, none⟩, quant := ⟨none, none⟩, cordic := ⟨none, none⟩, seq := { c.seq with run := none } }

/-- No kernel runs, so that neither a restart nor an update of one goes on (13 R393, R410). -/
def State.kernelGone (s : State) : State := { s with mgmt := { s.mgmt with restarting := false, restarts := 0, update := none } }

/-- The notifies that a cluster holds are refused with status 5 (R407). -/
def State.refuseHeld (s : State) (cluster : Nat) : State :=
  let c := s.cluster cluster
  { s.setCluster cluster { c with frozen := false, held := [], overflow := [] } with
    out := s.out ++ (c.held ++ c.overflow).map fun _ => .launch 5 }

/-- Safelight mode (R407): no context is placed, no kernel runs, held launches are refused, every port is down. -/
def State.safelight (s : State) : State :=
  let s := (List.range 24).foldl State.refuseHeld s.kernelGone
  (({ s with ctxs := [], cores := s.cores.map fun p => (p.1, p.2.vacant) } : State).bootTo .safelight).allPorts 0

/-- A failed start (R405): the third in a row brings the package up in safelight mode. What the sorting offices held for a kernel's restart or
update is taken up, as at the end of one. -/
def State.failStart (s : State) (reason : Nat) : State :=
  let s := if s.kernelBusy then s.kernelGone.thaw else s
  let s := { s with mgmt := { s.mgmt with failcnt := Nat.min (s.mgmt.failcnt + 1) 3, failed := true, reason := reason, waiting := none } }
  if s.mgmt.failcnt = 3 then s.safelight else s.bootTo .rom

/-- The image of a slot. -/
def Mgmt.image (m : Mgmt) (slot : Bool) : Option Image := if slot then m.imageB else m.imageA

/-- POWER_ON_RESET (R405): the boot ROM verifies the firmware and the image of the slot and starts the kernel, whose heartbeat it awaits. After a failed
start it tries the other slot. `cold`: power comes on, which clears the fields that a reset keeps. A slot that holds no image fails the start with
reason 1, signature: R405 names no reason for it, and this is the model's choice [70]. -/
def execPowerOnReset (cold strap selfTest training : Bool) (s : State) : Host.Outcome State Fault Refusal :=
  if s.mgmt.boot != .rom || (!s.mgmt.powered && !cold) then .next s
  else
    let m := { s.mgmt with powered := true }
    let m := if cold then { m with bootSlot := m.active, failcnt := 0, failed := false, reason := 0, arb := 0 } else m
    let slot := if m.failed then !m.bootSlot else m.active
    let s := State.bootTo { s with mgmt := { m with bootSlot := slot } } .verifying
    if strap then .next (State.safelight { s with mgmt := { s.mgmt with reason := 6 } })
    else if !([2, 3, 4].all Config.firmwareOk) then .next (s.failStart 1)
    else if [2, 3, 4].any (fun n => decide (Config.firmwareVersion n < s.mgmt.arb)) then .next (s.failStart 2)
    else match s.mgmt.image slot with
      | none => .next (s.failStart 1)
      | some i =>
        if !(Config.sigOk i) then .next (s.failStart 1)
        else if i.version < s.mgmt.arb then .next (s.failStart 2)
        else if !selfTest then .next (s.failStart 4)
        else if !training then .next (s.failStart 5)
        else
          let s := s.bootTo .monitor
          .next { s with mgmt := { s.mgmt with waiting := some (s.cycle + 2 * Config.second) } }

/-- KERNEL_HEARTBEAT (R405): the start succeeds, failcnt becomes 0. The slot that has started is the active one from then on, also where it is the
other one: R405 says only that the next start tries it, and this is the model's choice [70]. -/
def execKernelHeartbeat (s : State) : Host.Outcome State Fault Refusal :=
  match s.mgmt.waiting with
  | none => .next s
  | some t =>
    if t < s.cycle then .next s
    else
      let body := match s.mgmt.image s.mgmt.bootSlot with
        | some i => i.body
        | none => []
      .next (State.bootTo { s with mgmt := { s.mgmt with
        waiting := none, failcnt := 0, failed := false, active := s.mgmt.bootSlot, measure5 := Config.sha384 body } } .kernel)

/-- HEARTBEAT_TIMEOUT (R405). -/
def execHeartbeatTimeout (s : State) : Host.Outcome State Fault Refusal :=
  match s.mgmt.waiting with
  | none => .next s
  | some t => if t < s.cycle then .next (s.failStart 3) else .next s

/-! Live update (R410, R411) -/

/-- LIVE_UPDATE (R410 step 1): from the staged slot. -/
def execLiveUpdate (q : Mbx) (s : State) : Host.Outcome State Fault Refusal :=
  serve q false (!s.mgmt.staged) (fun s =>
    let s := s.freeze
    ({ s with mgmt := { s.mgmt with update := some ⟨s.cycle, none, 0⟩ } }, 0)) s

/-- The staged image passes the monitor's checks (R410 step 2). -/
def Mgmt.stagedOk (m : Mgmt) : Bool :=
  match m.image (!m.active) with
  | some i => Config.sigOk i && decide (m.arb ≤ i.version)
  | none => false

/-- The image of the kernel that runs, and the staged one. -/
def Mgmt.images (m : Mgmt) : Image × Image := ((m.image m.active).getD default, (m.image (!m.active)).getD default)

/-- A live update has a step to take: the staged image fails the monitor's checks, or the time of the new kernel's start has come (R410 steps
2 and 3). -/
def State.updateDue (s : State) : Bool :=
  s.mgmt.update.any fun u => u.kernelAt.isNone && (!s.mgmt.stagedOk || decide (u.started + Config.updateDelay u.started ≤ s.cycle))

/-- Steps 2 and 3 of a live update (R410): the staged image is checked; the old kernel writes the handover structure and the new one
starts, unless it does not know its version. -/
def updateNow (s : State) : Host.Outcome State Fault Refusal :=
  match s.mgmt.update with
  | none => .next s
  | some u =>
    if !s.updateDue then .next s
    else
      let v := Config.handover s.mgmt.images.1
      if !s.mgmt.stagedOk || !(Config.knows s.mgmt.images.2 v) then .next s.rollbackUpdate
      else .next { s with mgmt := { s.mgmt with update := some { u with kernelAt := some s.cycle, handover := v } } }

/-- UPDATE_COMMIT (R410 step 4, R409): the new kernel's first heartbeat within 100 ms of its start. -/
def execUpdateCommit (s : State) : Host.Outcome State Fault Refusal :=
  if !(s.mgmt.update.any fun u => u.kernelAt.any fun t => decide (s.cycle ≤ t + Config.second / 10)) then .next s
  else
    let body := match s.mgmt.image (!s.mgmt.active) with
      | some i => i.body
      | none => []
    let s := { s with mgmt := { s.mgmt with
      update := none, active := !s.mgmt.active, staged := false, measure5 := Config.sha384 body } }
    .next (s.thaw.cause 5)

/-- UPDATE_ROLLBACK (R410 step 5): at a failure in steps 2 and 3, or where the new kernel has given no heartbeat within 100 ms of its start. -/
def execUpdateRollback (s : State) : Host.Outcome State Fault Refusal :=
  .next (if s.mgmt.update.any fun u => u.kernelAt.any fun t => decide (s.cycle ≤ t + Config.second / 10) then s else s.rollbackUpdate)

/-! The fabric (R402-R404, 19 R430) -/

/-- A command under way whose port halves its rate in a cycle: what has moved until then stays moved. -/
def State.slowed (s : State) (k : Ctx) (c : Cmd) : Cmd :=
  let sl := k.slotOf c.slot
  { c with first := s.cycle, part := c.part + (sl.before s.cycle - sl.before c.first) * s.bytesPerCycle sl }

/-- LANE_FAILURE (R404): the link goes on at half rate. -/
def execLaneFailure (port : Nat) (s : State) : Host.Outcome State Fault Refusal :=
  let p := s.port port
  if 64 ≤ port ∨ p.lanes ≠ 2 then .next s
  else
    let slow (k : Ctx) : Ctx := { k with cmds := k.cmds.map fun c =>
      let sl := k.slotOf c.slot
      if c.kind = .send ∧ sl.path = 5 ∧ sl.port = port ∧ c.begun ∧ !c.through ∧ c.fault = 0 then s.slowed k c else c }
    let slower : State := { s with ctxs := s.ctxs.map fun q => (q.1, slow q.2) }
    .next (slower.setPort port { p with lanes := 1 })

/-- PORT_DOWN (R404): the queued and moving commands on its slots end with 0x13; the injector is disarmed. -/
def execPortDown (port : Nat) (s : State) : Host.Outcome State Fault Refusal :=
  if 64 ≤ port then .next s
  else
    let s := s.setPort port { s.port port with lanes := 0, injector := none }
    .next { s with ctxs := s.ctxs.map fun p => (p.1, (p.2.cmds.zipIdx).foldl (fun k c =>
      let sl := k.slotOf c.1.slot
      if sl.path = 5 ∧ sl.port = port ∧ c.1.kind = .send ∧ !c.1.through ∧ c.1.fault = 0 then k.endCmd c.2 c.1 0x13 else k) p.2) }

/-- A bit of a 64-byte flit inverted. -/
def flipBit (bs : List Byte) (b : Nat) : List Byte := bs.set (b / 8) ((bs.getD (b / 8) 0) ^^^ BitVec.twoPow 8 (b % 8))

/-- FLIT_ARRIVAL (R402, 19 R430): a flit that fails its check is replayed by the link; the armed injector inverts a bit of its n-th
registered data flit. Traffic of the other classes has no effect on compute contexts. -/
def execFlitArrival (port cls : Nat) (crcOk : Bool) (f : Flit) (s : State) : Host.Outcome State Fault Refusal :=
  let p := s.port port
  if 64 ≤ port ∨ p.lanes = 0 then .next s
  else if !crcOk then .next (s.setPort port { p with replays := p.replays + 1 })
  else if cls ≠ 0 then .next s
  else match f, p.injector with
    | .data src bs, some i =>
      if s.cycle ≤ i.since then .next (s.setPort port { p with rx := p.rx ++ [f] })
      else if i.n ≤ 1 then .next (s.setPort port { p with rx := p.rx ++ [.data src (flipBit bs i.b)], injector := none })
      else .next (s.setPort port { p with rx := p.rx ++ [f], injector := some { i with n := i.n - 1 } })
    | f, _ => .next (s.setPort port { p with rx := p.rx ++ [f] })

/-! Drain, the contact sheet, power (R412-R417) -/

/-- A context that keeps its slice from being drained: placed, or with engine work queued or in flight. -/
def State.occupies (s : State) (p : Nat × Ctx) : Bool :=
  p.2.res == .resident || p.2.res == .saving ||
  (p.2.res == .ended && (p.2.engineBusy || !p.2.pends.isEmpty || p.2.xfRun.isSome || s.running p.1))

/-- SLICE_DRAINED (R415): of a slice, or of the package for a number above 23. -/
def execSliceDrained (slice : Nat) (s : State) : Host.Outcome State Fault Refusal :=
  if slice < 24 then
    let sl := s.slice slice
    if sl.drain == .draining && !(s.ctxs.any fun p => p.2.slice == slice && s.occupies p) then
      .next ((s.setSlice slice { sl with drain := .drained }).cause 3)
    else .next s
  else if s.mgmt.draining && !s.mgmt.drained && !(s.ctxs.any s.occupies) then
    .next (State.cause { s with mgmt := { s.mgmt with drained := true }
                                slices := s.slices.map fun p => (p.1, { p.2 with drain := .drained }) } 3)
  else .next s

/-- The number of a drain state. -/
def Drain.num : Drain → Nat
  | .open_ => 0
  | .draining => 1
  | .drained => 2

/-- A core's record (R414). Its temperature is the junction temperature of the package, the one temperature that the state holds: the model's
choice [18]. -/
def State.coreRecord (s : State) (n : Nat) : Word :=
  let co := s.core n
  let here := s.ctxs.filter fun p => p.1 / 4 == n && (p.2.res == .resident || p.2.res == .saving)
  let state := if co.retired then 3 else if co.rel.off then 2 else if here.isEmpty then 0 else 1
  let sl := (s.cluster (n / 8)).slice
  BitVec.ofNat 64 (state + (here.map fun p => 2 ^ (2 + p.1 % 4)).sum + (here.foldl (fun m p => Nat.max m p.2.rank.toNat) 0) * 2 ^ 6 +
    (sl.getD 0x3F) % 64 * 2 ^ 10 + ((sl.map fun i => (s.slice i).drain.num).getD 0) * 2 ^ 16 + s.mgmt.temp % 256 * 2 ^ 24 +
    co.rel.rb % 2 ^ 16 * 2 ^ 32 + co.rel.ce % 2 ^ 16 * 2 ^ 48)

/-- What the monitor samples (R412) [18]. -/
def State.sample (s : State) : Sheet where
  cycle := s.cycle
  pkg := s.pkg
  pkgState := s.pkgState
  slot := s.mgmt.active
  cores := (List.range 192).map s.coreRecord
  clusters := (List.range 24).map fun n =>
    let c := s.cluster n
    (c.slice.getD 0x3F, (c.slice.map fun i => (s.slice i).drain.num).getD 0, c.slots.length, c.held.length)
  ports := (List.range 64).map fun n =>
    let p := s.port n
    let q := Config.neighbour s.pkg n
    [if p.lanes = 0 then 0 else 1, p.lanes, p.replays, q.1, q.2]
  power := s.mgmt.power / 1000
  cap := s.mgmt.cap / 1000
  temp := s.mgmt.temp
  limiting := s.mgmt.limiting
  retired := (s.mgmt.retired.filter (· < 2 ^ 32)).take 256
  hbm := (List.range 8).map fun n =>
    ((Sparse.get s.mgmt.hbmCe n).getD 0, (s.mgmt.retired.filter fun p => decide (p < 2 ^ 32) && Config.hbmStack (8192 * p) % 8 == n).length,
      s.mgmt.temp)

/-- CONTACT_SHEET_SAMPLE (R413): the buffer that is not current is written, then the generation is incremented. -/
def execContactSheetSample (s : State) : Host.Outcome State Fault Refusal :=
  let m := if s.mgmt.gen % 2 = 0 then { s.mgmt with buf1 := s.sample } else { s.mgmt with buf0 := s.sample }
  .next { s with mgmt := { m with gen := m.gen + 1 } }

/-- POWER_LIMIT (R417): the package's power against its cap; while it exceeds the cap, L, X and S issue nothing. -/
def execPowerLimit (milliwatts : Nat) (s : State) : Host.Outcome State Fault Refusal := .next (s.limit milliwatts)

/-- THERMAL_DRAIN (R417). -/
def execThermalDrain (celsius : Nat) (s : State) : Host.Outcome State Fault Refusal :=
  let s := { s with mgmt := { s.mgmt with temp := celsius } }
  if celsius < 105 then .next s else .next (s.drainPackage.cause 7)

/-- THERMAL_POWER_OFF (R417): power is removed without a save. -/
def execThermalPowerOff (celsius : Nat) (s : State) : Host.Outcome State Fault Refusal :=
  if celsius < 115 then .next s
  else .next (s.cleared { s.mgmt.afterReset with powered := false, temp := celsius } [])

/-! Attestation (R408, R409) -/

/-- An SPDM message sent. -/
def State.spdm (s : State) (name : String) (body : List Byte) : State := { s with out := s.out ++ [.spdm name body] }

/-- The 48 bytes of a digest. -/
def digestBytes (d : BitVec 384) : List Byte := leBytes 48 d.toNat

/-- A measurement block (R409); none for an index that has none. -/
def Mgmt.measurement (m : Mgmt) (i : Nat) : Option (List Byte) :=
  if i = 0 ∨ 6 < i then none
  else if i ≤ 4 then some (digestBytes (Config.firmware i))
  else if i = 5 then some (digestBytes m.measure5)
  else some (leBytes 2 m.arb ++ [if m.active then 1 else 0])

/-- All measurement blocks. -/
def Mgmt.allMeasurements (m : Mgmt) : List Byte := (List.range 6).flatMap fun j => (m.measurement (j + 1)).getD []

/-- GET_VERSION (R408): SPDM 1.3. -/
def execGetVersion (s : State) : Host.Outcome State Fault Refusal :=
  .next (State.spdm { s with mgmt := { s.mgmt with version := true, algorithms := false } } "VERSION" [0x13])

/-- GET_CAPABILITIES (R408): neither key exchange nor secured sessions. -/
def execGetCapabilities (s : State) : Host.Outcome State Fault Refusal :=
  .next (if s.mgmt.version then s.spdm "CAPABILITIES" [] else s.spdm "ERROR" [])

/-- NEGOTIATE_ALGORITHMS (R408): agreed when the requester offers the one extended asymmetric algorithm. -/
def execNegotiateAlgorithms (offered : Bool) (s : State) : Host.Outcome State Fault Refusal :=
  .next (if s.mgmt.version && offered then State.spdm { s with mgmt := { s.mgmt with algorithms := true } } "ALGORITHMS" []
    else s.spdm "ERROR" [])

/-- GET_DIGESTS (R408): of slot 0, the one certificate slot. -/
def execGetDigests (s : State) : Host.Outcome State Fault Refusal :=
  .next (if s.mgmt.algorithms then s.spdm "DIGESTS" (digestBytes (Config.sha384 Config.certChain)) else s.spdm "ERROR" [])

/-- GET_CERTIFICATE (R408). -/
def execGetCertificate (slot : Nat) (s : State) : Host.Outcome State Fault Refusal :=
  .next (if s.mgmt.algorithms && slot == 0 then s.spdm "CERTIFICATE" Config.certChain else s.spdm "ERROR" [])

/-- CHALLENGE (R408): signed over the nonce and the summary of the measurements. -/
def execChallenge (q : SpdmArgs) (s : State) : Host.Outcome State Fault Refusal :=
  let sum := Config.sha384 s.mgmt.allMeasurements
  .next (if s.mgmt.algorithms && q.slot == 0 then s.spdm "CHALLENGE_AUTH" (digestBytes sum ++ Config.spdmSign q.nonce sum)
    else s.spdm "ERROR" [])

/-- GET_MEASUREMENTS (R409): one of the six blocks, signed. R409 gives the indices 1 to 6 alone; that 0xFF answers all six blocks, and 0 and any other
index an ERROR, is the model's choice [70]. -/
def execGetMeasurements (q : SpdmArgs) (s : State) : Host.Outcome State Fault Refusal :=
  let body := if q.index = 0xFF then some s.mgmt.allMeasurements else s.mgmt.measurement q.index
  match body with
  | some b => .next (if s.mgmt.algorithms then s.spdm "MEASUREMENTS" (b ++ Config.spdmSign q.nonce (Config.sha384 b)) else s.spdm "ERROR" [])
  | none => .next (s.spdm "ERROR" [])

/-! Requests of the mailbox (R401) -/

/-- The request that waits longest is served: its command with the arguments of words 1 to 3, of which R401 and 19 R430 give the meaning;
where R401 gives no place, an argument stands in word 1 [66]. A command that the table does not list is a bad argument [23]. -/
def mailboxNow (s : State) : Host.Outcome State Fault Refusal :=
  match s.mgmt.asked with
  | [] => .next s
  | (p, ws, seq) :: rest =>
    let s : State := { s with mgmt := { s.mgmt with asked := rest } }
    let arg (j : Nat) : Word := ws[j]?.getD 0
    let code := wbits (arg 0) 7 0
    let q : Mbx := ⟨seq, Config.mayAsk p code⟩
    match code with
    | 0x01 => execReadGeneration q s
    | 0x10 => execDrainSlice q (arg 1).toNat s
    | 0x11 => execDrainPackage q s
    | 0x12 => execReopenSlice q (arg 1).toNat s
    | 0x13 => execReopenPackage q s
    | 0x20 => execHaltContext q (arg 1).toNat s
    | 0x21 => execResumeContext q (arg 1).toNat s
    | 0x22 => execGrantWindow { q with auth := p == .kernel } ((arg 1).getLsbD 0) s
    | 0x30 => execStageImage q (Config.imageAt ws.toList) s
    | 0x31 => execLiveUpdate q s
    | 0x32 => execSetPowerCap q (arg 1).toNat s
    | 0x3F => execResetPackage q s
    | 0x40 => execArmInjector { q with auth := p == .kernel } (wbits (arg 1) 5 0) (wbits (arg 2) 31 0) (wbits (arg 3) 8 0) s
    | _ => serve q true true (fun s => (s, 0)) s

end Sys2Proof.Machine
end

