-- ==== Sys2Proof/Machine/Scalar.lean ====
section
/-! DEFINITION. The scalar instructions of the C stream (03 R90-R100) and the scalar subset of L, X and S (03 R102-R107): the
arithmetic once, and one meaning for each instruction over it. -/

namespace Sys2Proof.Machine

open Sys2Proof

/-! The arithmetic of 64-bit values -/

/-- 1 for true and 0 for false. -/
def ofBool (b : Bool) : Word := if b then 1 else 0

/-- Bits 127:64 of the signed product (03 R90). -/
def mulHigh (a b : Word) : Word := BitVec.ofInt 64 (a.toInt * b.toInt / 2 ^ 64)

/-- Bits 127:64 of the unsigned product (03 R90). -/
def mulHighU (a b : Word) : Word := BitVec.ofNat 64 (a.toNat * b.toNat / 2 ^ 64)

/-- Signed quotient rounded towards zero; all ones for a zero divisor (03 R91). -/
def divS (a b : Word) : Word := if b = 0 then BitVec.allOnes 64 else BitVec.ofInt 64 (a.toInt.tdiv b.toInt)

/-- Unsigned quotient; all ones for a zero divisor (03 R91). -/
def divU (a b : Word) : Word := if b = 0 then BitVec.allOnes 64 else BitVec.ofNat 64 (a.toNat / b.toNat)

/-- Signed remainder, with the sign of the dividend; the dividend for a zero divisor (03 R91). -/
def remS (a b : Word) : Word := if b = 0 then a else BitVec.ofInt 64 (a.toInt.tmod b.toInt)

/-- Unsigned remainder; the dividend for a zero divisor (03 R91). -/
def remU (a b : Word) : Word := if b = 0 then a else BitVec.ofNat 64 (a.toNat % b.toNat)

/-- A shift amount: bits 5:0 of the operand (03 R90). -/
def shAmt (b : Word) : Nat := b.toNat % 64

/-- Shift left. -/
def shiftL (a b : Word) : Word := a <<< shAmt b

/-- Logical shift right. -/
def shiftR (a b : Word) : Word := a >>> shAmt b

/-- Arithmetic shift right. -/
def shiftA (a b : Word) : Word := a.sshiftRight (shAmt b)

/-- Rotate left. -/
def rotL (a b : Word) : Word := a.rotateLeft (shAmt b)

/-- Rotate right. -/
def rotR (a b : Word) : Word := a.rotateRight (shAmt b)

/-- Signed minimum. -/
def minS (a b : Word) : Word := if a.slt b then a else b

/-- Signed maximum. -/
def maxS (a b : Word) : Word := if a.slt b then b else a

/-- Unsigned minimum. -/
def minU (a b : Word) : Word := if a < b then a else b

/-- Unsigned maximum. -/
def maxU (a b : Word) : Word := if a < b then b else a

/-- Magnitude; -2^63 gives -2^63 (03 R92). -/
def absW (a : Word) : Word := if a.msb then 0 - a else a

/-- Leading zero bits (03 R92). -/
def clzW (a : Word) : Word := BitVec.ofNat 64 (((List.range 64).find? fun j => a.getLsbD (63 - j)).getD 64)

/-- Trailing zero bits (03 R92). -/
def ctzW (a : Word) : Word := BitVec.ofNat 64 (((List.range 64).find? fun j => a.getLsbD j).getD 64)

/-- One bits (03 R92). -/
def popcW (a : Word) : Word := BitVec.ofNat 64 ((List.range 64).countP fun j => a.getLsbD j)

/-- The low n bits sign-extended to 64 (00 R13). -/
def sextW (a : Word) (n : Nat) : Word := BitVec.ofInt 64 (sextN a.toNat n)

/-- The low n bits zero-extended to 64 (00 R13). -/
def zextW (a : Word) (n : Nat) : Word := BitVec.ofNat 64 (a.toNat % 2 ^ n)

/-- The bytes reversed (03 R92). -/
def bswapW (a : Word) : Word := BitVec.ofNat 64 (leNat (leBytes 8 a.toNat).reverse)

/-- An immediate of n bits, sign-extended. -/
def simm {n : Nat} (v : BitVec n) : Word := v.signExtend 64

/-- The condition of PSET and PSETI by its code (03 R99). -/
def condW (c : Nat) (a b : Word) : Bool :=
  match c with
  | 0 => a == b
  | 1 => a != b
  | 2 => a.slt b
  | 3 => a.ult b
  | 4 => a.sle b
  | 5 => a.ule b
  | 6 => b.slt a
  | 7 => b.ult a
  | 8 => b.sle a
  | 9 => b.ule a
  | 10 => (a &&& b) != 0
  | _ => (a &&& b) == 0

/-- A region descriptor packed (03 R98). -/
def packRgn (a b : Word) (ty : Nat) : Word :=
  BitVec.ofNat 64 (wbits a 23 0 + wbits b 15 0 * 2 ^ 24 + wbits b 31 16 * 2 ^ 40 + ty * 2 ^ 56 + wbits b 35 32 * 2 ^ 60)

/-- A bit field of `len` bits from `pos`, extended (03 R96, R105); bits above bit 63 read as zero. -/
def field (a : Word) (pos len : Nat) (sign : Bool) : Word :=
  let f : Word := a >>> pos
  if sign then sextW f len else zextW f len

/-- A bit field inserted (03 R96). -/
def insertField (d a : Word) (pos len : Nat) : Word :=
  let m : Word := BitVec.ofNat 64 ((2 ^ len - 1) * 2 ^ pos)
  (d &&& ~~~m) ||| ((a <<< pos) &&& m)

/-- A predicate or stage predicate of C by its PLOG number (03 R100): 0x06 where stage predicates are undefined. -/
def plogSrc (e : Env) (n : Nat) : Att Bool :=
  if n < 8 then (e.predGood n).bind fun _ => .ok (e.pred n)
  else match (e.k0.strm e.st).stg (n - 8) with
    | some b => .ok b
    | none => .fault 0x06

/-- A PLOG operation on two predicates. -/
def plog (d : BitVec 3) (a b : BitVec 4) (f : Bool → Bool → Bool) (s : State) : Host.Outcome State Fault Refusal :=
  issue .c 0 none [] (fun e =>
    (plogSrc e a.toNat).bind fun x => (plogSrc e b.toNat).bind fun y => e.done (e.predResult d.toNat (f x y) e.push)) s

/-! The C stream -/

/-- ADD (R90). -/
def execAdd (d a b : Spec) (s : State) : Host.Outcome State Fault Refusal :=
  issueReg .c 0 d [a, b] 1 (fun e => e.rd a + e.rd b) s

/-- SUB (R90). -/
def execSub (d a b : Spec) (s : State) : Host.Outcome State Fault Refusal :=
  issueReg .c 0 d [a, b] 1 (fun e => e.rd a - e.rd b) s

/-- MUL (R90). -/
def execMul (d a b : Spec) (s : State) : Host.Outcome State Fault Refusal :=
  issueReg .c 0 d [a, b] 3 (fun e => e.rd a * e.rd b) s

/-- MULH (R90). -/
def execMulh (d a b : Spec) (s : State) : Host.Outcome State Fault Refusal :=
  issueReg .c 0 d [a, b] 3 (fun e => mulHigh (e.rd a) (e.rd b)) s

/-- MULHU (R90). -/
def execMulhu (d a b : Spec) (s : State) : Host.Outcome State Fault Refusal :=
  issueReg .c 0 d [a, b] 3 (fun e => mulHighU (e.rd a) (e.rd b)) s

/-- DIV (R91). -/
def execDiv (d a b : Spec) (s : State) : Host.Outcome State Fault Refusal :=
  issueReg .c 0 d [a, b] 12 (fun e => divS (e.rd a) (e.rd b)) s

/-- DIVU (R91). -/
def execDivu (d a b : Spec) (s : State) : Host.Outcome State Fault Refusal :=
  issueReg .c 0 d [a, b] 12 (fun e => divU (e.rd a) (e.rd b)) s

/-- REM (R91). -/
def execRem (d a b : Spec) (s : State) : Host.Outcome State Fault Refusal :=
  issueReg .c 0 d [a, b] 12 (fun e => remS (e.rd a) (e.rd b)) s

/-- REMU (R91). -/
def execRemu (d a b : Spec) (s : State) : Host.Outcome State Fault Refusal :=
  issueReg .c 0 d [a, b] 12 (fun e => remU (e.rd a) (e.rd b)) s

/-- AND (R90). -/
def execAnd (d a b : Spec) (s : State) : Host.Outcome State Fault Refusal :=
  issueReg .c 0 d [a, b] 1 (fun e => e.rd a &&& e.rd b) s

/-- OR (R90). -/
def execOr (d a b : Spec) (s : State) : Host.Outcome State Fault Refusal :=
  issueReg .c 0 d [a, b] 1 (fun e => e.rd a ||| e.rd b) s

/-- XOR (R90). -/
def execXor (d a b : Spec) (s : State) : Host.Outcome State Fault Refusal :=
  issueReg .c 0 d [a, b] 1 (fun e => e.rd a ^^^ e.rd b) s

/-- ANDN (R90). -/
def execAndn (d a b : Spec) (s : State) : Host.Outcome State Fault Refusal :=
  issueReg .c 0 d [a, b] 1 (fun e => e.rd a &&& ~~~(e.rd b)) s

/-- SHL (R90). -/
def execShl (d a b : Spec) (s : State) : Host.Outcome State Fault Refusal :=
  issueReg .c 0 d [a, b] 1 (fun e => shiftL (e.rd a) (e.rd b)) s

/-- SHR (R90). -/
def execShr (d a b : Spec) (s : State) : Host.Outcome State Fault Refusal :=
  issueReg .c 0 d [a, b] 1 (fun e => shiftR (e.rd a) (e.rd b)) s

/-- SAR (R90). -/
def execSar (d a b : Spec) (s : State) : Host.Outcome State Fault Refusal :=
  issueReg .c 0 d [a, b] 1 (fun e => shiftA (e.rd a) (e.rd b)) s

/-- ROL (R90). -/
def execRol (d a b : Spec) (s : State) : Host.Outcome State Fault Refusal :=
  issueReg .c 0 d [a, b] 1 (fun e => rotL (e.rd a) (e.rd b)) s

/-- ROR (R90). -/
def execRor (d a b : Spec) (s : State) : Host.Outcome State Fault Refusal :=
  issueReg .c 0 d [a, b] 1 (fun e => rotR (e.rd a) (e.rd b)) s

/-- MIN (R90). -/
def execMin (d a b : Spec) (s : State) : Host.Outcome State Fault Refusal :=
  issueReg .c 0 d [a, b] 1 (fun e => minS (e.rd a) (e.rd b)) s

/-- MAX (R90). -/
def execMax (d a b : Spec) (s : State) : Host.Outcome State Fault Refusal :=
  issueReg .c 0 d [a, b] 1 (fun e => maxS (e.rd a) (e.rd b)) s

/-- MINU (R90). -/
def execMinu (d a b : Spec) (s : State) : Host.Outcome State Fault Refusal :=
  issueReg .c 0 d [a, b] 1 (fun e => minU (e.rd a) (e.rd b)) s

/-- MAXU (R90). -/
def execMaxu (d a b : Spec) (s : State) : Host.Outcome State Fault Refusal :=
  issueReg .c 0 d [a, b] 1 (fun e => maxU (e.rd a) (e.rd b)) s

/-- CMPEQ (R90). -/
def execCmpeq (d a b : Spec) (s : State) : Host.Outcome State Fault Refusal :=
  issueReg .c 0 d [a, b] 1 (fun e => ofBool (e.rd a == e.rd b)) s

/-- CMPNE (R90). -/
def execCmpne (d a b : Spec) (s : State) : Host.Outcome State Fault Refusal :=
  issueReg .c 0 d [a, b] 1 (fun e => ofBool (e.rd a != e.rd b)) s

/-- CMPLT (R90). -/
def execCmplt (d a b : Spec) (s : State) : Host.Outcome State Fault Refusal :=
  issueReg .c 0 d [a, b] 1 (fun e => ofBool ((e.rd a).slt (e.rd b))) s

/-- CMPLTU (R90). -/
def execCmpltu (d a b : Spec) (s : State) : Host.Outcome State Fault Refusal :=
  issueReg .c 0 d [a, b] 1 (fun e => ofBool ((e.rd a).ult (e.rd b))) s

/-- CMPLE (R90). -/
def execCmple (d a b : Spec) (s : State) : Host.Outcome State Fault Refusal :=
  issueReg .c 0 d [a, b] 1 (fun e => ofBool ((e.rd a).sle (e.rd b))) s

/-- CMPLEU (R90). -/
def execCmpleu (d a b : Spec) (s : State) : Host.Outcome State Fault Refusal :=
  issueReg .c 0 d [a, b] 1 (fun e => ofBool ((e.rd a).ule (e.rd b))) s

/-- MOV (R92). -/
def execMov (d a : Spec) (s : State) : Host.Outcome State Fault Refusal :=
  issueReg .c 0 d [a] 1 (fun e => e.rd a) s

/-- NOT (R92). -/
def execNot (d a : Spec) (s : State) : Host.Outcome State Fault Refusal :=
  issueReg .c 0 d [a] 1 (fun e => ~~~(e.rd a)) s

/-- NEG (R92). -/
def execNeg (d a : Spec) (s : State) : Host.Outcome State Fault Refusal :=
  issueReg .c 0 d [a] 1 (fun e => 0 - e.rd a) s

/-- ABS (R92). -/
def execAbs (d a : Spec) (s : State) : Host.Outcome State Fault Refusal :=
  issueReg .c 0 d [a] 1 (fun e => absW (e.rd a)) s

/-- CLZ (R92). -/
def execClz (d a : Spec) (s : State) : Host.Outcome State Fault Refusal :=
  issueReg .c 0 d [a] 1 (fun e => clzW (e.rd a)) s

/-- CTZ (R92). -/
def execCtz (d a : Spec) (s : State) : Host.Outcome State Fault Refusal :=
  issueReg .c 0 d [a] 1 (fun e => ctzW (e.rd a)) s

/-- POPC (R92). -/
def execPopc (d a : Spec) (s : State) : Host.Outcome State Fault Refusal :=
  issueReg .c 0 d [a] 1 (fun e => popcW (e.rd a)) s

/-- SEXTB (R92). -/
def execSextb (d a : Spec) (s : State) : Host.Outcome State Fault Refusal :=
  issueReg .c 0 d [a] 1 (fun e => sextW (e.rd a) 8) s

/-- SEXTH (R92). -/
def execSexth (d a : Spec) (s : State) : Host.Outcome State Fault Refusal :=
  issueReg .c 0 d [a] 1 (fun e => sextW (e.rd a) 16) s

/-- SEXTW (R92). -/
def execSextw (d a : Spec) (s : State) : Host.Outcome State Fault Refusal :=
  issueReg .c 0 d [a] 1 (fun e => sextW (e.rd a) 32) s

/-- ZEXTB (R92). -/
def execZextb (d a : Spec) (s : State) : Host.Outcome State Fault Refusal :=
  issueReg .c 0 d [a] 1 (fun e => zextW (e.rd a) 8) s

/-- ZEXTH (R92). -/
def execZexth (d a : Spec) (s : State) : Host.Outcome State Fault Refusal :=
  issueReg .c 0 d [a] 1 (fun e => zextW (e.rd a) 16) s

/-- ZEXTW (R92). -/
def execZextw (d a : Spec) (s : State) : Host.Outcome State Fault Refusal :=
  issueReg .c 0 d [a] 1 (fun e => zextW (e.rd a) 32) s

/-- BSWAP (R92). -/
def execBswap (d a : Spec) (s : State) : Host.Outcome State Fault Refusal :=
  issueReg .c 0 d [a] 1 (fun e => bswapW (e.rd a)) s

/-- ADDI (R93). -/
def execAddi (d a : Spec) (i : BitVec 14) (s : State) : Host.Outcome State Fault Refusal :=
  issueReg .c 0 d [a] 1 (fun e => e.rd a + simm i) s

/-- ANDI (R93). -/
def execAndi (d a : Spec) (i : BitVec 14) (s : State) : Host.Outcome State Fault Refusal :=
  issueReg .c 0 d [a] 1 (fun e => e.rd a &&& simm i) s

/-- ORI (R93). -/
def execOri (d a : Spec) (i : BitVec 14) (s : State) : Host.Outcome State Fault Refusal :=
  issueReg .c 0 d [a] 1 (fun e => e.rd a ||| simm i) s

/-- XORI (R93). -/
def execXori (d a : Spec) (i : BitVec 14) (s : State) : Host.Outcome State Fault Refusal :=
  issueReg .c 0 d [a] 1 (fun e => e.rd a ^^^ simm i) s

/-- MULI (R93). -/
def execMuli (d a : Spec) (i : BitVec 14) (s : State) : Host.Outcome State Fault Refusal :=
  issueReg .c 0 d [a] 3 (fun e => e.rd a * simm i) s

/-- SHI_SHL (R94). -/
def execShiShl (d a : Spec) (n : BitVec 6) (s : State) : Host.Outcome State Fault Refusal :=
  issueReg .c 0 d [a] 1 (fun e => shiftL (e.rd a) (n.setWidth 64)) s

/-- SHI_SHR (R94). -/
def execShiShr (d a : Spec) (n : BitVec 6) (s : State) : Host.Outcome State Fault Refusal :=
  issueReg .c 0 d [a] 1 (fun e => shiftR (e.rd a) (n.setWidth 64)) s

/-- SHI_SAR (R94). -/
def execShiSar (d a : Spec) (n : BitVec 6) (s : State) : Host.Outcome State Fault Refusal :=
  issueReg .c 0 d [a] 1 (fun e => shiftA (e.rd a) (n.setWidth 64)) s

/-- SHI_ROL (R94). -/
def execShiRol (d a : Spec) (n : BitVec 6) (s : State) : Host.Outcome State Fault Refusal :=
  issueReg .c 0 d [a] 1 (fun e => rotL (e.rd a) (n.setWidth 64)) s

/-- BFX (R96). -/
def execBfx (d a : Spec) (sg : BitVec 1) (l p : BitVec 6) (s : State) : Host.Outcome State Fault Refusal :=
  issueReg .c 0 d [a] 1 (fun e => field (e.rd a) p.toNat (l.toNat + 1) (sg == 1)) s

/-- LI (R95). -/
def execLi (d : Spec) (i : BitVec 20) (s : State) : Host.Outcome State Fault Refusal :=
  issueReg .c 0 d [] 1 (fun _ => simm i) s

/-- LIH (R95). -/
def execLih (d : Spec) (i : BitVec 20) (s : State) : Host.Outcome State Fault Refusal :=
  issueMod .c 0 d [] (fun old _ => insertField old (i.setWidth 64) 20 20) s

/-- LIX (R95). -/
def execLix (d : Spec) (i : BitVec 20) (s : State) : Host.Outcome State Fault Refusal :=
  issueMod .c 0 d [] (fun old _ => insertField old (i.signExtend 64) 40 24) s

/-- BFI (R96). -/
def execBfi (d a : Spec) (l p : BitVec 6) (s : State) : Host.Outcome State Fault Refusal :=
  issueMod .c 0 d [a] (fun old e => insertField old (e.rd a) p.toNat (l.toNat + 1)) s

/-- SEL (R97). -/
def execSel (d a b : Spec) (p : BitVec 3) (s : State) : Host.Outcome State Fault Refusal :=
  issue .c 0 (some d) [a, b] (fun e => (e.predGood p.toNat).bind fun _ =>
    e.done (e.result d 1 (if e.pred p.toNat then e.rd a else e.rd b) e.push)) s

/-- RGN (R98). -/
def execRgn (d a b : Spec) (y : BitVec 4) (s : State) : Host.Outcome State Fault Refusal :=
  issueReg .c 0 d [a, b] 1 (fun e => packRgn (e.rd a) (e.rd b) y.toNat) s

/-- PSET (R99). -/
def execPset (n : BitVec 3) (a b : Spec) (c : BitVec 8) (s : State) : Host.Outcome State Fault Refusal :=
  issue .c 0 none [a, b] (fun e => e.done (e.predResult n.toNat (condW c.toNat (e.rd a) (e.rd b)) e.push)) s

/-- PSETI (R99). -/
def execPseti (n : BitVec 3) (a : Spec) (c : BitVec 4) (i : BitVec 10) (s : State) : Host.Outcome State Fault Refusal :=
  issue .c 0 none [a] (fun e => e.done (e.predResult n.toNat (condW c.toNat (e.rd a) (simm i)) e.push)) s

/-- PAND (R100). -/
def execPand (d : BitVec 3) (a b : BitVec 4) (s : State) : Host.Outcome State Fault Refusal :=
  plog d a b (fun x y => x && y) s

/-- POR (R100). -/
def execPor (d : BitVec 3) (a b : BitVec 4) (s : State) : Host.Outcome State Fault Refusal :=
  plog d a b (fun x y => x || y) s

/-- PXOR (R100). -/
def execPxor (d : BitVec 3) (a b : BitVec 4) (s : State) : Host.Outcome State Fault Refusal :=
  plog d a b (fun x y => x != y) s

/-- PNOT (R100). -/
def execPnot (d : BitVec 3) (a : BitVec 4) (s : State) : Host.Outcome State Fault Refusal :=
  plog d a a (fun x _ => !x) s

/-! L, X and S: the stream that issues is the selected one -/

/-- SALU_ADD (R102). -/
def execSaluAdd (t : Tok) (d a b : Spec) (s : State) : Host.Outcome State Fault Refusal :=
  issueReg s.sel.st t d [a, b] 1 (fun e => e.rd a + e.rd b) s

/-- SALU_SUB (R102). -/
def execSaluSub (t : Tok) (d a b : Spec) (s : State) : Host.Outcome State Fault Refusal :=
  issueReg s.sel.st t d [a, b] 1 (fun e => e.rd a - e.rd b) s

/-- SALU_AND (R102). -/
def execSaluAnd (t : Tok) (d a b : Spec) (s : State) : Host.Outcome State Fault Refusal :=
  issueReg s.sel.st t d [a, b] 1 (fun e => e.rd a &&& e.rd b) s

/-- SALU_OR (R102). -/
def execSaluOr (t : Tok) (d a b : Spec) (s : State) : Host.Outcome State Fault Refusal :=
  issueReg s.sel.st t d [a, b] 1 (fun e => e.rd a ||| e.rd b) s

/-- SALU_XOR (R102). -/
def execSaluXor (t : Tok) (d a b : Spec) (s : State) : Host.Outcome State Fault Refusal :=
  issueReg s.sel.st t d [a, b] 1 (fun e => e.rd a ^^^ e.rd b) s

/-- SALU_SHL (R102). -/
def execSaluShl (t : Tok) (d a b : Spec) (s : State) : Host.Outcome State Fault Refusal :=
  issueReg s.sel.st t d [a, b] 1 (fun e => shiftL (e.rd a) (e.rd b)) s

/-- SALU_SHR (R102). -/
def execSaluShr (t : Tok) (d a b : Spec) (s : State) : Host.Outcome State Fault Refusal :=
  issueReg s.sel.st t d [a, b] 1 (fun e => shiftR (e.rd a) (e.rd b)) s

/-- SALU_MIN (R102). -/
def execSaluMin (t : Tok) (d a b : Spec) (s : State) : Host.Outcome State Fault Refusal :=
  issueReg s.sel.st t d [a, b] 1 (fun e => minS (e.rd a) (e.rd b)) s

/-- SALU_MAX (R102). -/
def execSaluMax (t : Tok) (d a b : Spec) (s : State) : Host.Outcome State Fault Refusal :=
  issueReg s.sel.st t d [a, b] 1 (fun e => maxS (e.rd a) (e.rd b)) s

/-- SALU_MUL (R102). -/
def execSaluMul (t : Tok) (d a b : Spec) (s : State) : Host.Outcome State Fault Refusal :=
  issueReg s.sel.st t d [a, b] 3 (fun e => e.rd a * e.rd b) s

/-- SALU_MOV (R102). -/
def execSaluMov (t : Tok) (d a : Spec) (s : State) : Host.Outcome State Fault Refusal :=
  issueReg s.sel.st t d [a] 1 (fun e => e.rd a) s

/-- LXS_ADDI (R103). -/
def execLxsAddi (t : Tok) (d a : Spec) (i : BitVec 10) (s : State) : Host.Outcome State Fault Refusal :=
  issueReg s.sel.st t d [a] 1 (fun e => e.rd a + simm i) s

/-- LXS_LI (R103). -/
def execLxsLi (t : Tok) (d : Spec) (i : BitVec 16) (s : State) : Host.Outcome State Fault Refusal :=
  issueReg s.sel.st t d [] 1 (fun _ => simm i) s

/-- LXS_LIH (R103). -/
def execLxsLih (t : Tok) (d : Spec) (i : BitVec 16) (s : State) : Host.Outcome State Fault Refusal :=
  issueMod s.sel.st t d [] (fun old _ => insertField old (i.signExtend 64) 16 48) s

/-- LXS_RGN (R104). -/
def execLxsRgn (t : Tok) (d a b : Spec) (y : BitVec 4) (s : State) : Host.Outcome State Fault Refusal :=
  issueReg s.sel.st t d [a, b] 1 (fun e => packRgn (e.rd a) (e.rd b) y.toNat) s

/-- LXS_BFX (R105). -/
def execLxsBfx (t : Tok) (d a b : Spec) (sg : BitVec 1) (s : State) : Host.Outcome State Fault Refusal :=
  issueReg s.sel.st t d [a, b] 1 (fun e =>
    field (e.rd a) (wbits (e.rd b) 5 0) (wbits (e.rd b) 11 6 + 1) (sg == 1)) s

/-- LXS_PSET (R106). -/
def execLxsPset (t : Tok) (n : BitVec 3) (a b : Spec) (c : BitVec 4) (s : State) : Host.Outcome State Fault Refusal :=
  issue s.sel.st t none [a, b] (fun e => e.done (e.predResult n.toNat (condW c.toNat (e.rd a) (e.rd b)) e.push)) s

/-- LXS_NOP (R107). -/
def execLxsNop (t : Tok) (s : State) : Host.Outcome State Fault Refusal :=
  issue s.sel.st t none [] (fun e => e.doneNow e.k) s

end Sys2Proof.Machine
end

