-- ==== Sys2Proof/Machine/Dispatch.lean ====
section
/-! DEFINITION. One arm for each row of spec/opcode_table.json: its meaning. -/

namespace Sys2Proof.Machine

open Sys2Proof

/-- What an instruction or a step of the machine does to a state. -/
def exec (i : Instr) (s : State) : Host.Outcome State Fault Refusal :=
  match i with
  | .add d a b => Sys2Proof.Machine.execAdd d a b s
  | .sub d a b => Sys2Proof.Machine.execSub d a b s
  | .mul d a b => Sys2Proof.Machine.execMul d a b s
  | .mulh d a b => Sys2Proof.Machine.execMulh d a b s
  | .mulhu d a b => Sys2Proof.Machine.execMulhu d a b s
  | .div d a b => Sys2Proof.Machine.execDiv d a b s
  | .divu d a b => Sys2Proof.Machine.execDivu d a b s
  | .rem d a b => Sys2Proof.Machine.execRem d a b s
  | .remu d a b => Sys2Proof.Machine.execRemu d a b s
  | .and d a b => Sys2Proof.Machine.execAnd d a b s
  | .or d a b => Sys2Proof.Machine.execOr d a b s
  | .xor d a b => Sys2Proof.Machine.execXor d a b s
  | .andn d a b => Sys2Proof.Machine.execAndn d a b s
  | .shl d a b => Sys2Proof.Machine.execShl d a b s
  | .shr d a b => Sys2Proof.Machine.execShr d a b s
  | .sar d a b => Sys2Proof.Machine.execSar d a b s
  | .rol d a b => Sys2Proof.Machine.execRol d a b s
  | .ror d a b => Sys2Proof.Machine.execRor d a b s
  | .min d a b => Sys2Proof.Machine.execMin d a b s
  | .max d a b => Sys2Proof.Machine.execMax d a b s
  | .minu d a b => Sys2Proof.Machine.execMinu d a b s
  | .maxu d a b => Sys2Proof.Machine.execMaxu d a b s
  | .cmpeq d a b => Sys2Proof.Machine.execCmpeq d a b s
  | .cmpne d a b => Sys2Proof.Machine.execCmpne d a b s
  | .cmplt d a b => Sys2Proof.Machine.execCmplt d a b s
  | .cmpltu d a b => Sys2Proof.Machine.execCmpltu d a b s
  | .cmple d a b => Sys2Proof.Machine.execCmple d a b s
  | .cmpleu d a b => Sys2Proof.Machine.execCmpleu d a b s
  | .mov d a => Sys2Proof.Machine.execMov d a s
  | .not d a => Sys2Proof.Machine.execNot d a s
  | .neg d a => Sys2Proof.Machine.execNeg d a s
  | .abs d a => Sys2Proof.Machine.execAbs d a s
  | .clz d a => Sys2Proof.Machine.execClz d a s
  | .ctz d a => Sys2Proof.Machine.execCtz d a s
  | .popc d a => Sys2Proof.Machine.execPopc d a s
  | .sextb d a => Sys2Proof.Machine.execSextb d a s
  | .sexth d a => Sys2Proof.Machine.execSexth d a s
  | .sextw d a => Sys2Proof.Machine.execSextw d a s
  | .zextb d a => Sys2Proof.Machine.execZextb d a s
  | .zexth d a => Sys2Proof.Machine.execZexth d a s
  | .zextw d a => Sys2Proof.Machine.execZextw d a s
  | .bswap d a => Sys2Proof.Machine.execBswap d a s
  | .addi d a imm_ => Sys2Proof.Machine.execAddi d a imm_ s
  | .andi d a imm_ => Sys2Proof.Machine.execAndi d a imm_ s
  | .ori d a imm_ => Sys2Proof.Machine.execOri d a imm_ s
  | .xori d a imm_ => Sys2Proof.Machine.execXori d a imm_ s
  | .muli d a imm_ => Sys2Proof.Machine.execMuli d a imm_ s
  | .shiShl d a n => Sys2Proof.Machine.execShiShl d a n s
  | .shiShr d a n => Sys2Proof.Machine.execShiShr d a n s
  | .shiSar d a n => Sys2Proof.Machine.execShiSar d a n s
  | .shiRol d a n => Sys2Proof.Machine.execShiRol d a n s
  | .li d imm_ => Sys2Proof.Machine.execLi d imm_ s
  | .lih d imm_ => Sys2Proof.Machine.execLih d imm_ s
  | .lix d imm_ => Sys2Proof.Machine.execLix d imm_ s
  | .bfx d a sel_ l p => Sys2Proof.Machine.execBfx d a sel_ l p s
  | .bfi d a l p => Sys2Proof.Machine.execBfi d a l p s
  | .sel d a b p => Sys2Proof.Machine.execSel d a b p s
  | .rgn d a b y => Sys2Proof.Machine.execRgn d a b y s
  | .pset n a b c => Sys2Proof.Machine.execPset n a b c s
  | .pseti n a c imm_ => Sys2Proof.Machine.execPseti n a c imm_ s
  | .pand d a b => Sys2Proof.Machine.execPand d a b s
  | .por d a b => Sys2Proof.Machine.execPor d a b s
  | .pxor d a b => Sys2Proof.Machine.execPxor d a b s
  | .pnot d a => Sys2Proof.Machine.execPnot d a s
  | .br o => Sys2Proof.Machine.execBr o s
  | .brp p sel_ o => Sys2Proof.Machine.execBrp p sel_ o s
  | .call o => Sys2Proof.Machine.execCall o s
  | .jmpi a => Sys2Proof.Machine.execJmpi a s
  | .calli a => Sys2Proof.Machine.execCalli a s
  | .loop lv a imm len icnt => Sys2Proof.Machine.execLoop lv a imm len icnt s
  | .lpipe lv a stages imm m len moff icnt => Sys2Proof.Machine.execLpipe lv a stages imm m len moff icnt s
  | .lrd d sel_ => Sys2Proof.Machine.execLrd d sel_ s
  | .lwr a sel_ => Sys2Proof.Machine.execLwr a sel_ s
  | .lrdRsbot d => Sys2Proof.Machine.execLrdRsbot d s
  | .lwrRsbot a => Sys2Proof.Machine.execLwrRsbot a s
  | .rep b a d c => Sys2Proof.Machine.execRep b a d c s
  | .ld a w o => Sys2Proof.Machine.execLd a w o s
  | .st d a w o => Sys2Proof.Machine.execSt d a w o s
  | .lds d a w => Sys2Proof.Machine.execLds d a w s
  | .sts d a w => Sys2Proof.Machine.execSts d a w s
  | .spld d n => Sys2Proof.Machine.execSpld d n s
  | .spst a n => Sys2Proof.Machine.execSpst a n s
  | .aadd sel_ o a b => Sys2Proof.Machine.execAadd sel_ o a b s
  | .aand sel_ o a b => Sys2Proof.Machine.execAand sel_ o a b s
  | .aor sel_ o a b => Sys2Proof.Machine.execAor sel_ o a b s
  | .axor sel_ o a b => Sys2Proof.Machine.execAxor sel_ o a b s
  | .amin sel_ o a b => Sys2Proof.Machine.execAmin sel_ o a b s
  | .amax sel_ o a b => Sys2Proof.Machine.execAmax sel_ o a b s
  | .aminu sel_ o a b => Sys2Proof.Machine.execAminu sel_ o a b s
  | .amaxu sel_ o a b => Sys2Proof.Machine.execAmaxu sel_ o a b s
  | .aswap sel_ o a b => Sys2Proof.Machine.execAswap sel_ o a b s
  | .acas sel_ o a b => Sys2Proof.Machine.execAcas sel_ o a b s
  | .ald sel_ o a => Sys2Proof.Machine.execAld sel_ o a s
  | .ast sel_ o a b => Sys2Proof.Machine.execAst sel_ o a b s
  | .swap a => Sys2Proof.Machine.execSwap a s
  | .fence o sel_ => Sys2Proof.Machine.execFence o sel_ s
  | .bar a => Sys2Proof.Machine.execBar a s
  | .waitc a => Sys2Proof.Machine.execWaitc a s
  | .waitk n => Sys2Proof.Machine.execWaitk n s
  | .sigk n => Sys2Proof.Machine.execSigk n s
  | .epush d a k => Sys2Proof.Machine.execEpush d a k s
  | .epop d a m p => Sys2Proof.Machine.execEpop d a m p s
  | .cbset q a => Sys2Proof.Machine.execCbset q a s
  | .cbwait d q m p => Sys2Proof.Machine.execCbwait d q m p s
  | .rdsys d n => Sys2Proof.Machine.execRdsys d n s
  | .wrsys a n => Sys2Proof.Machine.execWrsys a n s
  | .trap a n => Sys2Proof.Machine.execTrap a n s
  | .trapKExit d a => Sys2Proof.Machine.execTrapKExit d a s
  | .trapKSaved d a => Sys2Proof.Machine.execTrapKSaved d a s
  | .trapKService d a n => Sys2Proof.Machine.execTrapKService d a n s
  | .rdcyc d => Sys2Proof.Machine.execRdcyc d s
  | .bkpt n => Sys2Proof.Machine.execBkpt n s
  | .saluAdd t d a b => Sys2Proof.Machine.execSaluAdd t d a b s
  | .saluSub t d a b => Sys2Proof.Machine.execSaluSub t d a b s
  | .saluAnd t d a b => Sys2Proof.Machine.execSaluAnd t d a b s
  | .saluOr t d a b => Sys2Proof.Machine.execSaluOr t d a b s
  | .saluXor t d a b => Sys2Proof.Machine.execSaluXor t d a b s
  | .saluShl t d a b => Sys2Proof.Machine.execSaluShl t d a b s
  | .saluShr t d a b => Sys2Proof.Machine.execSaluShr t d a b s
  | .saluMin t d a b => Sys2Proof.Machine.execSaluMin t d a b s
  | .saluMax t d a b => Sys2Proof.Machine.execSaluMax t d a b s
  | .saluMul t d a b => Sys2Proof.Machine.execSaluMul t d a b s
  | .saluMov t d a => Sys2Proof.Machine.execSaluMov t d a s
  | .lxsAddi t d a imm_ => Sys2Proof.Machine.execLxsAddi t d a imm_ s
  | .lxsLi t d imm_ => Sys2Proof.Machine.execLxsLi t d imm_ s
  | .lxsLih t d imm_ => Sys2Proof.Machine.execLxsLih t d imm_ s
  | .lxsRgn t d a b y => Sys2Proof.Machine.execLxsRgn t d a b y s
  | .lxsBfx t d a b sel_ => Sys2Proof.Machine.execLxsBfx t d a b sel_ s
  | .lxsPset t n a b c => Sys2Proof.Machine.execLxsPset t n a b c s
  | .lxsWaitc t a => Sys2Proof.Machine.execLxsWaitc t a s
  | .lxsEpop t d a m p => Sys2Proof.Machine.execLxsEpop t d a m p s
  | .lxsCbwait t d q m p => Sys2Proof.Machine.execLxsCbwait t d q m p s
  | .lxsNop t => Sys2Proof.Machine.execLxsNop t s
  | .lxsRep b a d c => Sys2Proof.Machine.execLxsRep b a d c s
  | .ldt t n a w => Sys2Proof.Machine.execLdt t n a w s
  | .ldtc t n a b w => Sys2Proof.Machine.execLdtc t n a b w s
  | .cfetch t d a b slot tag seed cmp codec size nt => Sys2Proof.Machine.execCfetch t d a b slot tag seed cmp codec size nt s
  | .cqfetch t d a b slot tag seed cmp bf16 cbk nt => Sys2Proof.Machine.execCqfetch t d a b slot tag seed cmp bf16 cbk nt s
  | .stt t d f n => Sys2Proof.Machine.execStt t d f n s
  | .sttc t d f n b => Sys2Proof.Machine.execSttc t d f n b s
  | .cstore t d a b slot tag seed cmp codec size nt => Sys2Proof.Machine.execCstore t d a b slot tag seed cmp codec size nt s
  | .csend t d a b slot tag seed cmp nt => Sys2Proof.Machine.execCsend t d a b slot tag seed cmp nt s
  | .vadd t d a b => Sys2Proof.Machine.execVadd t d a b s
  | .vsub t d a b => Sys2Proof.Machine.execVsub t d a b s
  | .vmul t d a b => Sys2Proof.Machine.execVmul t d a b s
  | .vdiv t d a b => Sys2Proof.Machine.execVdiv t d a b s
  | .vmin t d a b => Sys2Proof.Machine.execVmin t d a b s
  | .vmax t d a b => Sys2Proof.Machine.execVmax t d a b s
  | .vand t d a b => Sys2Proof.Machine.execVand t d a b s
  | .vor t d a b => Sys2Proof.Machine.execVor t d a b s
  | .vxor t d a b => Sys2Proof.Machine.execVxor t d a b s
  | .vshl t d a b => Sys2Proof.Machine.execVshl t d a b s
  | .vshr t d a b => Sys2Proof.Machine.execVshr t d a b s
  | .vsar t d a b => Sys2Proof.Machine.execVsar t d a b s
  | .vadds t d a b => Sys2Proof.Machine.execVadds t d a b s
  | .vsubs t d a b => Sys2Proof.Machine.execVsubs t d a b s
  | .vavg t d a b => Sys2Proof.Machine.execVavg t d a b s
  | .vfma t d a b => Sys2Proof.Machine.execVfma t d a b s
  | .vabs t d a => Sys2Proof.Machine.execVabs t d a s
  | .vneg t d a => Sys2Proof.Machine.execVneg t d a s
  | .vnot t d a => Sys2Proof.Machine.execVnot t d a s
  | .vcpy t d a => Sys2Proof.Machine.execVcpy t d a s
  | .vfill t d a => Sys2Proof.Machine.execVfill t d a s
  | .vrsq t d a => Sys2Proof.Machine.execVrsq t d a s
  | .vrcp t d a => Sys2Proof.Machine.execVrcp t d a s
  | .vcvt t d a sel_ r => Sys2Proof.Machine.execVcvt t d a sel_ r s
  | .vredSum t d a => Sys2Proof.Machine.execVredSum t d a s
  | .vredMax t d a => Sys2Proof.Machine.execVredMax t d a s
  | .vredMin t d a => Sys2Proof.Machine.execVredMin t d a s
  | .vredArgmax t d a => Sys2Proof.Machine.execVredArgmax t d a s
  | .vredArgmin t d a => Sys2Proof.Machine.execVredArgmin t d a s
  | .vscanSum t d a e => Sys2Proof.Machine.execVscanSum t d a e s
  | .vscanMax t d a e => Sys2Proof.Machine.execVscanMax t d a e s
  | .vscanMin t d a e => Sys2Proof.Machine.execVscanMin t d a e s
  | .vsel t d a b imm_ => Sys2Proof.Machine.execVsel t d a b imm_ s
  | .vcmp t d a b u c => Sys2Proof.Machine.execVcmp t d a b u c s
  | .part t d a b => Sys2Proof.Machine.execPart t d a b s
  | .vgath t d a b => Sys2Proof.Machine.execVgath t d a b s
  | .vscat t d a b => Sys2Proof.Machine.execVscat t d a b s
  | .vquant t d a c g => Sys2Proof.Machine.execVquant t d a c g s
  | .vdeq t d a c => Sys2Proof.Machine.execVdeq t d a c s
  | .vpermRev t d a => Sys2Proof.Machine.execVpermRev t d a s
  | .vpermTrn t d a b => Sys2Proof.Machine.execVpermTrn t d a b s
  | .vpermZip t d a => Sys2Proof.Machine.execVpermZip t d a s
  | .vpermUnzip t d a => Sys2Proof.Machine.execVpermUnzip t d a s
  | .vpermRot t d a b => Sys2Proof.Machine.execVpermRot t d a b s
  | .mma t n ta fa tb fb fsel mode cm mk cb tag => Sys2Proof.Machine.execMma t n ta fa tb fb fsel mode cm mk cb tag s
  | .mmat t n ta fa tb fb fsel mode cm mk cb tag => Sys2Proof.Machine.execMmat t n ta fa tb fb fsel mode cm mk cb tag s
  | .mmac t n ta fa b fsel mode cm mk cb tag tsrc => Sys2Proof.Machine.execMmac t n ta fa b fsel mode cm mk cb tag tsrc s
  | .accrd t d m c n imm_ sel_ v => Sys2Proof.Machine.execAccrd t d m c n imm_ sel_ v s
  | .accwr t m c n a imm_ v => Sys2Proof.Machine.execAccwr t m c n a imm_ v s
  | .accz t m c n => Sys2Proof.Machine.execAccz t m c n s
  | .apeek t d m c n imm_ sel_ v => Sys2Proof.Machine.execApeek t d m c n imm_ sel_ v s
  | .mstat t d m p sel_ => Sys2Proof.Machine.execMstat t d m p sel_ s
  | .maskRange t p a c => Sys2Proof.Machine.execMaskRange t p a c s
  | .maskRegion t p a c => Sys2Proof.Machine.execMaskRegion t p a c s
  | .ftsel t a => Sys2Proof.Machine.execFtsel t a s
  | .bdset t n a => Sys2Proof.Machine.execBdset t n a s
  | .bdsetLd t d a => Sys2Proof.Machine.execBdsetLd t d a s
  | .bdsetLdw t d a => Sys2Proof.Machine.execBdsetLdw t d a s
  | .bdsetSt t d => Sys2Proof.Machine.execBdsetSt t d s
  | .bdsetStw t d => Sys2Proof.Machine.execBdsetStw t d s
  | .bdsetAck t => Sys2Proof.Machine.execBdsetAck t s
  | .bdsetClr t => Sys2Proof.Machine.execBdsetClr t s
  | .tcon t d a l r nb fold mode fmt cbk cb tag => Sys2Proof.Machine.execTcon t d a l r nb fold mode fmt cbk cb tag s
  | .cplan t d a q => Sys2Proof.Machine.execCplan t d a q s
  | .crdRot t d a b => Sys2Proof.Machine.execCrdRot t d a b s
  | .crdVec t d a b => Sys2Proof.Machine.execCrdVec t d a b s
  | .crdHrot t d a b => Sys2Proof.Machine.execCrdHrot t d a b s
  | .crdHvec t d a b => Sys2Proof.Machine.execCrdHvec t d a b s
  | .crdLin t d a b => Sys2Proof.Machine.execCrdLin t d a b s
  | .cbld t k a => Sys2Proof.Machine.execCbld t k a s
  | .cbldClr t k => Sys2Proof.Machine.execCbldClr t k s
  | .xfgo t a b => Sys2Proof.Machine.execXfgo t a b s
  | .txloop d a l => Sys2Proof.Machine.execTxloop d a l s
  | .txld d a b c ty => Sys2Proof.Machine.execTxld d a b c ty s
  | .txst d a b sel_ c ty => Sys2Proof.Machine.execTxst d a b sel_ c ty s
  | .txopAdd d a b => Sys2Proof.Machine.execTxopAdd d a b s
  | .txopSub d a b => Sys2Proof.Machine.execTxopSub d a b s
  | .txopMul d a b => Sys2Proof.Machine.execTxopMul d a b s
  | .txopFma d a b => Sys2Proof.Machine.execTxopFma d a b s
  | .txopMax d a b => Sys2Proof.Machine.execTxopMax d a b s
  | .txopMin d a b => Sys2Proof.Machine.execTxopMin d a b s
  | .txopRelu d a => Sys2Proof.Machine.execTxopRelu d a s
  | .txopAbs d a => Sys2Proof.Machine.execTxopAbs d a s
  | .txopSplat d a => Sys2Proof.Machine.execTxopSplat d a s
  | .txpermRev d a => Sys2Proof.Machine.execTxpermRev d a s
  | .txpermRot d a b => Sys2Proof.Machine.execTxpermRot d a b s
  | .txpermZip d a => Sys2Proof.Machine.execTxpermZip d a s
  | .txpermUnzip d a => Sys2Proof.Machine.execTxpermUnzip d a s
  | .txcbEnlarge a b sel_ => Sys2Proof.Machine.execTxcbEnlarge a b sel_ s
  | .txcbReduce a b sel_ => Sys2Proof.Machine.execTxcbReduce a b sel_ s
  | .txsig n => Sys2Proof.Machine.execTxsig n s
  | .txwait n => Sys2Proof.Machine.execTxwait n s
  | .txaddi d a imm_ => Sys2Proof.Machine.execTxaddi d a imm_ s
  | .txli d imm_ => Sys2Proof.Machine.execTxli d imm_ s
  | .wrsysTag n a => Sys2Proof.Machine.execWrsysTag n a s
  | .wrsysBndcap a => Sys2Proof.Machine.execWrsysBndcap a s
  | .wrsysTlbinv a => Sys2Proof.Machine.execWrsysTlbinv a s
  | .wrsysDbuf n a => Sys2Proof.Machine.execWrsysDbuf n a s
  | .wrsysBd n a => Sys2Proof.Machine.execWrsysBd n a s
  | .wrsysEvcnt n a => Sys2Proof.Machine.execWrsysEvcnt n a s
  | .wrsysEvstat a => Sys2Proof.Machine.execWrsysEvstat a s
  | .ret => Sys2Proof.Machine.execRet s
  | .lexit => Sys2Proof.Machine.execLexit s
  | .vote => Sys2Proof.Machine.execVote s
  | .fix => Sys2Proof.Machine.execFix s
  | .yield => Sys2Proof.Machine.execYield s
  | .eret => Sys2Proof.Machine.execEret s
  | .eretSkip => Sys2Proof.Machine.execEretSkip s
  | .nop => Sys2Proof.Machine.execNop s
  | .txhalt => Sys2Proof.Machine.execTxhalt s
  | .wrsysSpbase ctx size v => Sys2Proof.Machine.execWrsysSpbase ctx size v s
  | .wrsysAccset ctx v => Sys2Proof.Machine.execWrsysAccset ctx v s
  | .wrsysSlot ctx n v => Sys2Proof.Machine.execWrsysSlot ctx n v s
  | .wrsysRecall ctx v => Sys2Proof.Machine.execWrsysRecall ctx v s
  | .wrsysCtxarea ctx v => Sys2Proof.Machine.execWrsysCtxarea ctx v s
  | .lineFetch ctx addr => Sys2Proof.Machine.execLineFetch ctx addr s
  | .lineDelivery ctx => Sys2Proof.Machine.execLineDelivery ctx s
  | .resultLanding ctx => Sys2Proof.Machine.execResultLanding ctx s
  | .regionComplete ctx k => Sys2Proof.Machine.execRegionComplete ctx k s
  | .eventWindowClose ctx cls => Sys2Proof.Machine.execEventWindowClose ctx cls s
  | .tileLoadComplete ctx tl => Sys2Proof.Machine.execTileLoadComplete ctx tl s
  | .tileReadEnd ctx tl => Sys2Proof.Machine.execTileReadEnd ctx tl s
  | .ldEntryPost ctx => Sys2Proof.Machine.execLdEntryPost ctx s
  | .atomicEffect ctx k => Sys2Proof.Machine.execAtomicEffect ctx k s
  | .fixPublication ctx => Sys2Proof.Machine.execFixPublication ctx s
  | .barRelease slice barrier => Sys2Proof.Machine.execBarRelease slice barrier s
  | .pageWalk ctx va => Sys2Proof.Machine.execPageWalk ctx va s
  | .pageScrub ctx va => Sys2Proof.Machine.execPageScrub ctx va s
  | .matrixDispatch ctx cls => Sys2Proof.Machine.execMatrixDispatch ctx cls s
  | .arrayFree core cls => Sys2Proof.Machine.execArrayFree core cls s
  | .blockBoundary ctx cls => Sys2Proof.Machine.execBlockBoundary ctx cls s
  | .matrixComplete ctx => Sys2Proof.Machine.execMatrixComplete ctx s
  | .stripStep ctx => Sys2Proof.Machine.execStripStep ctx s
  | .boundaryMoveEnd ctx => Sys2Proof.Machine.execBoundaryMoveEnd ctx s
  | .cordicBatch ctx => Sys2Proof.Machine.execCordicBatch ctx s
  | .cordicComplete ctx => Sys2Proof.Machine.execCordicComplete ctx s
  | .quantiserComplete ctx => Sys2Proof.Machine.execQuantiserComplete ctx s
  | .xfRunStart ctx => Sys2Proof.Machine.execXfRunStart ctx s
  | .courierChunk ctx k => Sys2Proof.Machine.execCourierChunk ctx k s
  | .courierComplete ctx k => Sys2Proof.Machine.execCourierComplete ctx k s
  | .csendReceive port => Sys2Proof.Machine.execCsendReceive port s
  | .csendAcknowledgement ctx k c code => Sys2Proof.Machine.execCsendAcknowledgement ctx k c code s
  | .promiseMissed ctx k => Sys2Proof.Machine.execPromiseMissed ctx k s
  | .trapEntry ctx => Sys2Proof.Machine.execTrapEntry ctx s
  | .kernelReply ctx reply => Sys2Proof.Machine.execKernelReply ctx reply s
  | .watchdog ctx => Sys2Proof.Machine.execWatchdog ctx s
  | .sliceEndNotice ctx => Sys2Proof.Machine.execSliceEndNotice ctx s
  | .saveBudgetExpiry ctx => Sys2Proof.Machine.execSaveBudgetExpiry ctx s
  | .lightSave ctx => Sys2Proof.Machine.execLightSave ctx s
  | .restore ctx place spbase accbase => Sys2Proof.Machine.execRestore ctx place spbase accbase s
  | .recallSlice slice => Sys2Proof.Machine.execRecallSlice slice s
  | .recallDeadline slice => Sys2Proof.Machine.execRecallDeadline slice s
  | .contextLaunch cluster l => Sys2Proof.Machine.execContextLaunch cluster l s
  | .launchNotify cluster queue rank preempt => Sys2Proof.Machine.execLaunchNotify cluster queue rank preempt s
  | .slotRelease cluster slot => Sys2Proof.Machine.execSlotRelease cluster slot s
  | .checkerCheck ctx agree pc => Sys2Proof.Machine.execCheckerCheck ctx agree pc s
  | .patrolScrub block => Sys2Proof.Machine.execPatrolScrub block s
  | .kernelRestart ok => Sys2Proof.Machine.execKernelRestart ok s
  | .pairedCompare a b => Sys2Proof.Machine.execPairedCompare a b s
  | .contextDrowsy ctx => Sys2Proof.Machine.execContextDrowsy ctx s
  | .stateWake ctx => Sys2Proof.Machine.execStateWake ctx s
  | .debuggerRead ctx st item => Sys2Proof.Machine.execDebuggerRead ctx st item s
  | .sliceDrained slice => Sys2Proof.Machine.execSliceDrained slice s
  | .contactSheetSample => Sys2Proof.Machine.execContactSheetSample s
  | .powerLimit milliwatts => Sys2Proof.Machine.execPowerLimit milliwatts s
  | .thermalDrain celsius => Sys2Proof.Machine.execThermalDrain celsius s
  | .thermalPowerOff celsius => Sys2Proof.Machine.execThermalPowerOff celsius s
  | .powerOnReset cold strap selfTest training => Sys2Proof.Machine.execPowerOnReset cold strap selfTest training s
  | .kernelHeartbeat => Sys2Proof.Machine.execKernelHeartbeat s
  | .heartbeatTimeout => Sys2Proof.Machine.execHeartbeatTimeout s
  | .updateCommit => Sys2Proof.Machine.execUpdateCommit s
  | .updateRollback => Sys2Proof.Machine.execUpdateRollback s
  | .imageStageDone => Sys2Proof.Machine.execImageStageDone s
  | .laneFailure port => Sys2Proof.Machine.execLaneFailure port s
  | .portDown port => Sys2Proof.Machine.execPortDown port s
  | .flitArrival port cls crcOk f => Sys2Proof.Machine.execFlitArrival port cls crcOk f s
  | .hostMemoryRead addr len => Sys2Proof.Machine.execHostMemoryRead addr len s
  | .hostMemoryWrite addr bytes => Sys2Proof.Machine.execHostMemoryWrite addr bytes s
  | .rootPortDma port addr write bytes => Sys2Proof.Machine.execRootPortDma port addr write bytes s
  | .contextWindowRead p page off => Sys2Proof.Machine.execContextWindowRead p page off s
  | .contextWindowWrite p page off v => Sys2Proof.Machine.execContextWindowWrite p page off v s
  | .interruptCauseClear mask => Sys2Proof.Machine.execInterruptCauseClear mask s
  | .readGeneration q => Sys2Proof.Machine.execReadGeneration q s
  | .drainSlice q slice => Sys2Proof.Machine.execDrainSlice q slice s
  | .drainPackage q => Sys2Proof.Machine.execDrainPackage q s
  | .reopenSlice q slice => Sys2Proof.Machine.execReopenSlice q slice s
  | .reopenPackage q => Sys2Proof.Machine.execReopenPackage q s
  | .haltContext q ctx => Sys2Proof.Machine.execHaltContext q ctx s
  | .resumeContext q ctx => Sys2Proof.Machine.execResumeContext q ctx s
  | .grantWindow q grant => Sys2Proof.Machine.execGrantWindow q grant s
  | .stageImage q image => Sys2Proof.Machine.execStageImage q image s
  | .liveUpdate q => Sys2Proof.Machine.execLiveUpdate q s
  | .setPowerCap q milliwatts => Sys2Proof.Machine.execSetPowerCap q milliwatts s
  | .resetPackage q => Sys2Proof.Machine.execResetPackage q s
  | .armInjector q port n b => Sys2Proof.Machine.execArmInjector q port n b s
  | .getVersion => Sys2Proof.Machine.execGetVersion s
  | .getCapabilities => Sys2Proof.Machine.execGetCapabilities s
  | .negotiateAlgorithms offered => Sys2Proof.Machine.execNegotiateAlgorithms offered s
  | .getDigests => Sys2Proof.Machine.execGetDigests s
  | .getCertificate slot => Sys2Proof.Machine.execGetCertificate slot s
  | .challenge q => Sys2Proof.Machine.execChallenge q s
  | .getMeasurements q => Sys2Proof.Machine.execGetMeasurements q s
  | .illegalInstruction word => Sys2Proof.Machine.execIllegalInstruction word s
  | .softError loc corrected => Sys2Proof.Machine.execSoftError loc corrected s
  | .coreSelfTestPassed core => Sys2Proof.Machine.execCoreSelfTestPassed core s
  | .allottedShareZeroed ctx => Sys2Proof.Machine.execAllottedShareZeroed ctx s
  | .kernelEndsContext ctx => Sys2Proof.Machine.execKernelEndsContext ctx s
  | .applicationCoreAccess addr write bytes => Sys2Proof.Machine.execApplicationCoreAccess addr write bytes s

end Sys2Proof.Machine
end

