-- ==== Sys2Proof/Machine/Turns.lean ====
section
/-! DEFINITION. What happens next (00, 02 R38, 03 R85-R89, 04 R137, 12 R356-R358): the events that a cycle fixes, the word that a
stream issues next, whether it may issue, and the turns of a cycle [2]. -/

namespace Sys2Proof.Machine

open Sys2Proof

/-! Events of a fixed cycle -/

/-- What an event does. -/
abbrev Act := State → Host.Outcome State Fault Refusal

/-- The unit classes of a core (07 R225). -/
def UnitClass.all : List UnitClass := [.matrix, .quantiser, .cordic]

/-- The first event that `f` finds in a context. A drowsy context leaves retention first (12 R376). -/
def State.ctxDue (s : State) (f : Nat → Ctx → Option Act) : Option Act :=
  s.ctxs.findSome? fun p => (f p.1 p.2).map fun act => if p.2.drowsy then execStateWake p.1 else act

/-- The first event that `f` finds in a class of a context. -/
def State.clsDue (s : State) (f : Nat → Ctx → UnitClass → Option Act) : Option Act :=
  s.ctxDue fun id k => UnitClass.all.findSome? (f id k)

/-- An event where a condition holds. -/
def ifDue (c : Bool) (i : Act) : Option Act := if c then some i else none

/-- An event window that has reached its length (06 R210). -/
def State.windowEvent (s : State) : Option Act :=
  s.ctxDue fun id k => if k.onCore || k.res == .saving then
    ((List.range 8).find? (k.lt.sys.windowDue s.cycle)).map (execEventWindowClose id) else none

/-- A context with a result due to land (03 R71). -/
def State.landingEvent (s : State) : Option Act :=
  s.ctxDue fun id k => ifDue (k.res == .resident && k.landingDue s.cycle) (execResultLanding id)

/-- A mismatch of the checker that is raised (13 R379), and a rollback (R383). -/
def State.checkEvent (s : State) : Option Act :=
  s.ctxDue fun id k => if (k.mismatchDue s.cycle).isSome then some (checkDue id) else ifDue (s.undoes id k).isSome (undo id)

/-- An ERET whose wait is over (12 R361). -/
def State.eretEvent (s : State) : Option Act :=
  s.ctxDue fun id k => match k.lt.hold with
    | .eret _ => ifDue (k.res == .resident && k.handlerDone) (finishEret id)
    | _ => none

/-- An STS whose write is due (05 R151). -/
def State.stsEvent (s : State) : Option Act :=
  s.ctxDue fun id k => ((List.range k.pends.length).find? fun n => (k.pendFirst n).any fun p =>
    p.strm == .c && p.due.any (fun c => decide (c ≤ s.cycle)) && !p.quant && p.load.isNone && p.reads.isEmpty).map (execRegionComplete id)

/-- A boundary move that ends (08 R253). -/
def State.moveEvent (s : State) : Option Act :=
  s.ctxDue fun id k => match k.lt.hold with
    | .move till _ => ifDue (decide (till ≤ s.cycle)) (execBoundaryMoveEnd id)
    | _ => none

/-- A barrier generation whose release is due (11 R348). -/
def State.barEvent (s : State) : Option Act :=
  s.slices.findSome? fun p => ((List.range 16).find? fun b => (p.2.barrier b).release.any fun c => decide (c ≤ s.cycle)).map
    (execBarRelease p.1)

/-- An engine operation that completes (07 R230, 05 R177, 09 R278). -/
def State.completeEvent (s : State) : Option Act :=
  s.ctxDue fun id k =>
    if k.mats.head?.any fun m => m.bind.complete s.cycle then some (execMatrixComplete id)
    else if k.quants.head?.any fun q => q.bind.complete s.cycle && (q.bind.cancelled ||
      (List.range k.pends.length).any fun n => (k.pendFirst n).any fun p => p.ord == q.ord) then some (execQuantiserComplete id)
    else if k.crds.head?.any fun c => c.bind.complete s.cycle then some (execCordicComplete id)
    else none

/-- A strip step that is checked and read (08 R259). -/
def State.stripEvent (s : State) : Option Act :=
  s.ctxDue fun id k => match k.mats with
    | [] => none
    | m :: _ => ifDue (s.stepDue k m && (s.stripLoad id k m).moves) (execStripStep id)

/-- A quantiser operation or a CORDIC batch that is admitted and reads its operands (05 R159, 09 R277). -/
def State.readEvent (s : State) : Option Act :=
  s.ctxDue fun id k =>
    if (s.quantReady k).isSome then some (quantNow id)
    else ifDue (k.crds.head?.any fun c => (s.batchReady k c).isSome) (batchNow id)

/-- An operation that ends at its next block (07 R229). -/
def State.failEvent (s : State) : Option Act := s.clsDue fun id k cls => ifDue (s.failsNext id k cls) (failNow id cls)

/-- A dedicated unit that frees (07 R232). -/
def State.freeEvent (s : State) : Option Act :=
  s.cores.findSome? fun p => UnitClass.all.findSome? fun cls =>
    ifDue ((p.2.arb cls).holder.isSome && !(s.arraySettled p.1 cls)) (execArrayFree p.1 cls)

/-- An operation that dispatches (07 R230). -/
def State.dispatchEvent (s : State) : Option Act :=
  s.clsDue fun id k cls => ifDue (s.dispatchNext id k cls) (execMatrixDispatch id cls)

/-- A block or a batch whose last cycle has come (07 R448, 09 R277). The blocks of the quantiser have no fixed time. -/
def State.blockEvent (s : State) : Option Act :=
  s.ctxDue fun id k =>
    if (k.mats.head?.any fun m => m.bind.running && k.blockEnds .matrix m.bind s.cycle) && (k.onCore || k.res == .saving) then
      some (execBlockBoundary id .matrix)
    else if k.crds.head?.any fun c => c.bind.running && c.bind.cancelled && k.blockEnds .cordic c.bind s.cycle then
      some (execBlockBoundary id .cordic)
    else ifDue (k.crds.head?.any (s.batchDue k)) (execCordicBatch id)

/-- A block that starts (07 R448). -/
def State.startEvent (s : State) : Option Act :=
  s.clsDue fun id k cls => match k.headBind cls with
    | none => none
    | some b => ifDue (k.onCore && b.mayStart s.cycle &&
        (((s.core (coreOf id)).arb cls).nextUnit id b.waiting (s.newcomer (coreOf id) cls)).isSome) (execBlockBoundary id cls)

/-- A courier command of a context for which `f` holds. -/
def State.cmdDueBy (s : State) (f : Nat → Ctx → Nat → Cmd → Bool) (i : Nat → Nat → Act) : Option Act :=
  s.ctxDue fun id k => ((List.range k.cmds.length).find? fun n => (k.cmds[n]?).any (f id k n)).map (i id)

/-- A courier command that completes (10 R316). -/
def State.cmdEvent (s : State) : Option Act := s.cmdDueBy (fun _ k n c => k.cmdDue n c s.cycle) execCourierComplete

/-- A courier command that moves (10 R305, R317). -/
def State.chunkEvent (s : State) : Option Act := s.cmdDueBy s.chunkMoves execCourierChunk

/-- A pending fault that is taken (12 R358). -/
def State.trapEvent (s : State) : Option Act :=
  s.ctxDue fun id k => ifDue (k.trapReady s.cycle && k.nextFault.any fun f =>
    if k.handlerTakes f.code then (s.frameAt k).moves else !s.kernelDown) (execTrapEntry id)

/-- A save budget that has run out, or a forced save that has reached its bound (12 R365, R369). -/
def State.saveEvent (s : State) : Option Act :=
  s.ctxDue fun id k => ifDue (k.budgetOut s.cycle ||
    (k.res == .saving && decide (k.saveBy ≤ s.cycle) && k.saveReady s.cycle && s.saveTurn id k && (s.areaPieces k).moves)) (execSaveBudgetExpiry id)

/-- A watchdog that fires (04 R140). -/
def State.watchdogEvent (s : State) : Option Act := s.ctxDue fun id k => ifDue (s.watchdogDue id k) (execWatchdog id)

/-- A promise that is missed (10 R306). -/
def State.promiseEvent (s : State) : Option Act := s.cmdDueBy (fun _ k _ c => k.missed c s.cycle) execPromiseMissed

/-- A recall whose deadline has come (12 R372). -/
def State.recallEvent (s : State) : Option Act :=
  s.slices.findSome? fun p => ifDue (s.recallDue p.1) (execRecallDeadline p.1)

/-- A deadline of the monitor: the first heartbeat (14 R405), a live update (R410), a restart of the kernel (13 R393). -/
def State.monitorEvent (s : State) : Option Act :=
  if s.mgmt.waiting.any fun t => decide (t < s.cycle) then some execHeartbeatTimeout
  else if s.updateDue then some updateNow
  else if s.mgmt.update.any fun u => u.kernelAt.any fun t => decide (t + Config.second / 10 < s.cycle) then some execUpdateRollback
  else ifDue (s.mgmt.restarting && decide (s.mgmt.restartBy < s.cycle)) (execKernelRestart false)

/-- A request of the mailbox that is served (14 R401). -/
def State.mailEvent (s : State) : Option Act := ifDue (!s.mgmt.asked.isEmpty) mailboxNow

/-- A page walk that takes its next step (11 R351), and an outside access whose page has been scrubbed (R353). -/
def State.walkEvent (s : State) : Option Act := if s.walkDue.isSome then some walkNow else ifDue s.heldReady.isSome heldNow

/-- The events that fall due, those that come first in a cycle first: the event that the machine must take before any stream issues
and before the cycle ends. Events whose cycle the spec leaves open are taken by the agenda [2]. -/
def State.due (s : State) : Option Act :=
  [State.checkEvent, State.windowEvent, State.landingEvent, State.walkEvent, State.eretEvent, State.stsEvent, State.moveEvent, State.barEvent,
    State.completeEvent, State.stripEvent, State.readEvent, State.failEvent, State.freeEvent, State.dispatchEvent, State.blockEvent, State.startEvent,
    State.promiseEvent, State.cmdEvent, State.chunkEvent, State.trapEvent, State.saveEvent, State.watchdogEvent, State.recallEvent, State.mailEvent, State.monitorEvent].findSome? fun f => f s

/-! The word a stream issues next -/

/-- Which of the fields d, a and b of a 32-bit word an instruction uses as operand specifiers (03 R87). -/
def stepFields : Instr → Bool × Bool × Bool
  | .add .. | .sub .. | .mul .. | .mulh .. | .mulhu .. | .div .. | .divu .. | .rem .. | .remu .. | .and .. | .or ..
  | .xor .. | .andn .. | .shl .. | .shr .. | .sar .. | .rol .. | .ror .. | .min .. | .max .. | .minu .. | .maxu ..
  | .cmpeq .. | .cmpne .. | .cmplt .. | .cmpltu .. | .cmple .. | .cmpleu .. | .sel .. | .rgn .. | .saluAdd ..
  | .saluSub .. | .saluAnd .. | .saluOr .. | .saluXor .. | .saluShl .. | .saluShr .. | .saluMin .. | .saluMax ..
  | .saluMul .. | .lxsRgn .. | .lxsBfx .. | .vadd .. | .vsub .. | .vmul .. | .vdiv .. | .vmin .. | .vmax .. | .vand ..
  | .vor .. | .vxor .. | .vshl .. | .vshr .. | .vsar .. | .vadds .. | .vsubs .. | .vavg .. | .vfma .. | .vsel ..
  | .vcmp .. | .part .. | .vgath .. | .vscat .. | .crdRot .. | .crdVec .. | .crdHrot .. | .crdHvec .. | .crdLin .. => (true, true, true)
  | .mov .. | .not .. | .neg .. | .abs .. | .clz .. | .ctz .. | .popc .. | .sextb .. | .sexth .. | .sextw ..
  | .zextb .. | .zexth .. | .zextw .. | .bswap .. | .addi .. | .andi .. | .ori .. | .xori .. | .muli .. | .shiShl ..
  | .shiShr .. | .shiSar .. | .shiRol .. | .bfx .. | .bfi .. | .st .. | .lds .. | .sts .. | .epush .. | .trapKExit ..
  | .trapKSaved .. | .trapKService .. | .saluMov .. | .lxsAddi .. | .vabs .. | .vneg .. | .vnot .. | .vcpy ..
  | .vfill .. | .vrsq .. | .vrcp .. | .vcvt .. | .vredSum .. | .vredMax .. | .vredMin .. | .vredArgmax ..
  | .vredArgmin .. | .vscanSum .. | .vscanMax .. | .vscanMin .. | .vquant .. | .vdeq .. | .vpermRev .. | .vpermTrn ..
  | .vpermZip .. | .vpermUnzip .. | .vpermRot .. | .bdsetLd .. | .bdsetLdw .. | .cplan .. => (true, true, false)
  | .li .. | .lih .. | .lix .. | .lrd .. | .lrdRsbot .. | .spld .. | .epop .. | .cbwait .. | .rdsys .. | .rdcyc ..
  | .lxsLi .. | .lxsLih .. | .lxsEpop .. | .lxsCbwait .. | .stt .. | .accrd .. | .apeek .. | .mstat .. | .bdsetSt ..
  | .bdsetStw .. => (true, false, false)
  | .pset .. | .aadd .. | .aand .. | .aor .. | .axor .. | .amin .. | .amax .. | .aminu .. | .amaxu .. | .aswap ..
  | .acas .. | .ast .. | .lxsPset .. | .ldtc .. | .xfgo .. => (false, true, true)
  | .pseti .. | .jmpi .. | .calli .. | .lwr .. | .lwrRsbot .. | .ld .. | .spst .. | .ald .. | .swap .. | .bar ..
  | .waitc .. | .cbset .. | .wrsys .. | .trap .. | .lxsWaitc .. | .ldt .. | .accwr .. | .maskRange .. | .maskRegion ..
  | .ftsel .. | .bdset .. | .cbld .. | .wrsysTag .. | .wrsysBndcap .. | .wrsysTlbinv .. | .wrsysDbuf .. | .wrsysBd ..
  | .wrsysEvcnt .. | .wrsysEvstat .. => (false, true, false)
  | .sttc .. => (true, false, true)
  | _ => (false, false, false)

/-- The prefixes: no target of a REP or a VOTE (03 R87, 04 R137). -/
def isPrefix : Instr → Bool
  | .rep .. | .lxsRep .. | .vote => true
  | _ => false

/-- The control transfers (02 R39). -/
def transfers : Instr → Bool
  | .br .. | .brp .. | .call .. | .ret | .jmpi .. | .calli .. | .eret | .eretSkip => true
  | _ => false

/-- The least bit of the fields d, a and b of a stream's words (02 R53, R54). -/
def fieldPlaces (st : Strm) : Nat × Nat × Nat := if st == .c then (20, 14, 8) else (16, 10, 4)

/-- A step of REP applied to a field is legal (03 R87). -/
def stepOk (w : W32) (place step count : Nat) (used : Bool) : Bool :=
  step == 0 || (used &&
    (let v : Spec := BitVec.ofNat 6 (w.toNat / 2 ^ place)
     regOk v && decide (v.toNat + (count - 1) * step ≤ if v.toNat < 32 then 23 else 63)))

/-- The pairing of a REP with its target is legal (03 R87). -/
def RepState.ok (r : RepState) (st : Strm) (w : W32) (i : Instr) : Bool :=
  let p := fieldPlaces st
  let u := stepFields i
  !i.long && !(isPrefix i) && !(transfers i) && !(match i with
    | .lexit => true
    | _ => false) && !r.brk &&
  stepOk w p.1 r.ds r.count u.1 && stepOk w p.2.1 r.as r.count u.2.1 && stepOk w p.2.2 r.bs r.count u.2.2

/-- The target's word with its fields stepped for the next repetition (03 R85). -/
def RepState.word (r : RepState) (st : Strm) (w : W32) : W32 :=
  let p := fieldPlaces st
  BitVec.ofNat 32 (w.toNat + r.k * (r.ds * 2 ^ p.1 + r.as * 2 ^ p.2.1 + r.bs * 2 ^ p.2.2))

/-- The instruction that a stream issues next; none where its word raises 0x02 (02 R66, 03 R87, 04 R137). -/
def Ctx.nextInstr (k : Ctx) (st : Strm) : Option Instr :=
  let ss := k.strm st
  let l := k.lane st
  match decode st l.word l.cont with
  | none => none
  | some i =>
    if ss.vote.isSome && (i.long || isPrefix i) then none
    else match ss.rep with
      | none => some i
      | some r => if r.ok st l.word i then decode st (r.word st l.word) none else none

/-! Whether it may issue -/

/-- The token counters that a stream's next word pops (02 R44). -/
def Ctx.headPops (k : Ctx) (st : Strm) : List Ctr := popsOf st (BitVec.ofNat 4 ((k.lane st).word.toNat / 2 ^ 28))

/-- Where the mark of a stream's next word also stands (13 R385, R386): the loop buffer's line, or its word, and device memory. -/
def State.laneSource (s : State) (id : Nat) (k : Ctx) (st : Strm) : List Loc :=
  let a := (k.lane st).addr
  (([.line (a / 32 * 32), .word (a / 8 * 8)] : List RegPlace).filter k.lt.bad.contains).map (.file id) ++
    match s.translate k.place k.lt.sys.ptroot a .exec with
    | .ok pa => if s.poison.contains (.dev (pa / 8)) then [.dev (pa / 8)] else []
    | _ => []

/-- A word that an uncorrectable error has marked is consumed as it would issue (13 R385). -/
def State.consumeLane (s : State) (id : Nat) (k : Ctx) (st : Strm) : State :=
  s.setCtx id (k.raise (syncFault k st 0x13 0 0 false 0 (.lane id st 0 :: s.laneSource id k st) s.cycle))

/-- Stream `st` has a word and may try to issue it in this cycle: the context is resident and not about to take a trap (12 R358), the
stream is not held (11 R345, R348, 12 R362, R366, 14 R417) and not halted (12 R374). A fault that is raised in this cycle stops its own
stream at once and the others from the next cycle on. -/
def State.mayIssue (s : State) (k : Ctx) (st : Strm) : Bool :=
  k.res == .resident && (headLane (k.strm st).queue).isSome && decide ((k.strm st).ready ≤ s.cycle) &&
  k.lt.hold != .saving && (st != .c || k.lt.hold == .none) &&
  !(k.lt.faults.any fun f => k.takeable f && (f.strm == st || decide (f.at_ < s.cycle))) &&
  !(s.mgmt.limiting && st != .c) && (!k.halted || (st != .c && !k.stopped.contains st))

/-- The next word of a stream waits for a token that it pops (02 R45): one that raises a fault instead (02 R48, R66), or that its gate
squashes (04 R120), does not. -/
def State.popBlocks (s : State) (id : Nat) (k : Ctx) (st : Strm) : Bool :=
  !(k.lane st).bad && (k.headPops st).any (fun c => (k.lt.ctr c).vis == 0) &&
    match k.nextInstr st with
    | none => false
    | some i => match exec i { s with sel := ⟨id, st, false⟩ } with
      | .next t => t.ctx id == some k
      | _ => false

/-- A stream of a halted context stops (12 R374): C at once, the others when they block on a token pop or their queue empties. -/
def State.stopsNow (s : State) (id : Nat) (k : Ctx) (st : Strm) : Bool :=
  k.halted && st != .c && !k.stopped.contains st &&
  ((headLane (k.strm st).queue).isNone || (s.mayIssue k st && s.popBlocks id k st))

/-! Turns -/

/-- The steps that are no word of a stream or of the sequencer: the constructors of Instr from wrsysSpbase on. -/
def isStep (i : Instr) : Bool :=
  decide (252 ≤ i.ctorIdx) && (match i with
    | .illegalInstruction _ => false
    | _ => true)

/-- The turns of one cycle: every stream of every resident context in the order of 03 R80 and 01 R29, every sequencer that runs, and
the end of the cycle. -/
def State.turns (s : State) : List Turn :=
  (s.ctxs.filter fun p => p.2.res == .resident).flatMap (fun p => Strm.all.map (Turn.issue p.1)) ++
  (s.cores.filter fun p => p.2.seq.run.isSome).map (fun p => Turn.seq p.1) ++ [.tick]

/-- What the end of a cycle does to a context: a rank that the kernel has written governs from now on (01 R22), and stays over a rollback; the
watchdog count of a resident context goes up (04 R140). -/
def Ctx.tick (k : Ctx) : Ctx :=
  let k := match k.rankNext with
    | some v => { k with rank := v, shRank := v, rankNext := none }
    | none => k
  if k.res == .resident then { k with wd := k.wd + 1 } else k

/-- The end of a cycle: the package counter (00 R6) and the contexts. -/
def State.tick (s : State) : State :=
  { s with cycle := s.cycle + 1, decided := false, ctxs := s.ctxs.map fun p => (p.1, p.2.tick) }

/-- The agenda of what comes next, once it is empty: a step whose time the spec leaves open, an access under way that sees later writes (05
R154), or the turns of the present cycle [2]. What falls due at the start of the cycle has been taken, so that its arbiters have decided (07
R448). -/
def State.refill (s : State) : State :=
  let s := { s with decided := true }
  let (n, s) := s.draw
  let (ctx, s) := s.draw
  let (m, s) := s.draw
  { s with agenda :=
      if n % 2 = 0 then [.event (Config.freeInstr s.free)] else if n % 4 = 1 then [.again ctx m] else s.turns }

/-- The words of an opcode-table row as the lanes that hold them (02 R31). -/
def rowWords (nbits w : Nat) : W32 × W32 :=
  (wordOfBytes (bytesOfWord (BitVec.ofNat 32 w)), wordOfBytes (bytesOfWord (BitVec.ofNat 32 (if nbits > 32 then w / 2 ^ 32 else 0))))

/-- The lane of a row's words in stream `st`: with a continuation where the row is a 64-bit instruction. -/
def rowLane (st : Strm) (nbits w : Nat) : Lane :=
  let ws := rowWords nbits w
  let long := (decode st ws.1 (some ws.2)).isSome && (decide (nbits > 32) || (decode st ws.1 none).isNone)
  ⟨0, ws.1, if long then some ws.2 else none, false, none, false⟩

/-- A run at the first word of a sequencer whose memory holds one word. -/
def rowSeq (w : W32) : Seq :=
  ⟨some 0, [w], some ⟨0, 0, 0, 0, Vector.replicate 16 0, Vector.replicate 4 (List.replicate 128 0), [], 0, false, 0, []⟩, []⟩

end Sys2Proof.Machine
end

