-- ==== Sys2Proof/Machine/Reread.lean ====
section
/-! DEFINITION. An access under way that sees what has been written since it read (05 R152 to R154): where nothing orders two accesses, each
element that one of them reads is the old or the new value, the new one of a word that issued later too [7]. -/

namespace Sys2Proof.Machine

open Sys2Proof

/-- The context as the word of a pending access issued from it, with its light state `l`: the accesses of its stream before it, and as
accesses of another stream all that others have written since or are writing. Its own conditions were met then. -/
def Ctx.asIssued (k : Ctx) (p : Pend) (l : Light) (w : Saw) : Ctx :=
  let other : Strm := if p.strm == .c then .x else .c
  let k0 := match p.load with
    | some q => k.setTile q.1 Tile.reset
    | none => k
  { k0 with
    lt := l
    res := .resident
    zeroing := false
    mats := k.mats.filter fun m => decide (m.ord < p.ord)
    quants := []
    crds := []
    cmds := []
    pends := (k.sinceOthers p.strm w ++ k.engineWrites).map (fun ws => { Pend.new k other [] with esz := ws.1, writes := ws.2 }) ++
      k.pends.filter fun q => q.strm != p.strm || decide (q.ord < p.ord) }

/-- What the word of a pending access leaves where it issues once more from what it may have seen by now: its access, the results it has in
flight, the context with what an APEEK has shown, and the next free choice. -/
def State.issuedAgain (s : State) (id : Nat) (k : Ctx) (p : Pend) (l : Light) (w : Saw) : Option (Pend × List Flight × Ctx × Nat) :=
  let k0 := k.asIssued p l w
  let co := s.core (coreOf id)
  let s0 := (s.setCore (coreOf id) { co with sp := k.sinceMem p.strm p.ord w }).setCtx id k0
  match k0.nextInstr p.strm with
  | none => none
  | some i =>
    match exec i { s0 with sel := ⟨id, p.strm, false⟩, cycle := w.cycle } with
    | .next t =>
      match t.ctx id with
      | none => none
      | some k1 =>
        match k1.pends.drop k0.pends.length with
        | [r] => some (r, k1.lt.flights.drop l.flights.length, k1, t.free)
        | _ => none
    | _ => none

/-- The value of a result in flight replaced by that of `f`, which is the same but for its value. -/
def Ctx.refly (k : Ctx) (f : Flight) : Ctx :=
  k.setLt { k.lt with flights := k.lt.flights.map fun g => if { g with val := f.val } == f then f else g }

/-- A pending APEEK that is behind no access under way on its units: no word of its own stream can change what it has read (05 R153), and what it
has shown stands (07 R240). -/
def Ctx.peekStands (k : Ctx) (m : Nat) (p : Pend) : Bool :=
  !p.units.isEmpty && p.accw.isEmpty && !p.boundary &&
    !((k.pends.take m).any fun q => q.strm == p.strm && q.saw.isSome && q.units.any p.units.contains)

/-- A pending access of a stream takes what its word leaves now; none where that is no access, or a result of it has landed. -/
def State.rereadPend (s : State) (id m : Nat) : Option State :=
  match s.ctx id with
  | none => none
  | some k =>
    match k.pends[m]? with
    | none => none
    | some p =>
      match (if k.peekStands m p then none else p.again), p.saw with
      | some l, some w =>
        match s.issuedAgain id k p l w with
        | none => none
        | some (r, fs, k1, free) =>
          if fs.all fun f => k.lt.flights.any fun g => { g with val := f.val } == f then
            let p := { p with
              writes := r.writes, events := r.events, load := r.load, accw := r.accw, bnd := r.bnd, book := r.book }
            some (({ s with free := free }).setCtx id
              { k.upd p.ord fun k => fs.foldl Ctx.refly k with
                pends := k.pends.set m p
                peek := k1.peek
                mats := k.mats.map fun (m : MatOp) => (k1.mats.find? fun (r : MatOp) => r.ord == m.ord).getD m })
          else none
      | _, _ => some s

/-- A pending access of a stream, and after it those of the stream behind it (R153), take what their words leave now: all of them or
none. -/
def State.rereadFrom (s : State) (id n : Nat) (k : Ctx) (p : Pend) : State :=
  (((List.range k.pends.length).filter fun m => decide (n ≤ m) && (k.pends[m]?).any fun q => q.strm == p.strm && !q.quant).foldl
    (fun (o : Option State) m => o.bind fun s => s.rereadPend id m) (some s)).getD s

/-- The access of a quantiser operation, which no access of X behind it touches (R161). -/
def State.rereadQuant (s : State) (id n : Nat) (k : Ctx) (p : Pend) : State :=
  match p.saw, k.quants.findIdx? fun q => q.ord == p.ord && !q.waits && q.fault == 0 with
  | some w, some j =>
    match k.quants[j]? with
    | none => s
    | some q =>
      let (q, r) := q.fill p (s.viewSince id { k with pends := k.pends.eraseIdx n } .x p.ord w)
      (s.drew 524288).setCtx id { k with pends := k.pends.set n r, quants := k.quants.set j q }
  | _, _ => s

/-- The CORDIC batch under way. -/
def State.rereadBatch (s : State) (id : Nat) (k : Ctx) : State :=
  match k.crds with
  | [] => s
  | c :: rest =>
    match c.ahead with
    | none => s
    | some b =>
      if b.bad then s else
      let (ws, evs) := c.runBatch (s.viewSince id { k with crds := rest } .x c.ord b.saw)
        (c.batch c.bind.blk)
      (s.drew 524288).setCtx id { k with crds :=
        { c with ahead := some { b with writes := ws, counted := sumEvents evs, all := evs.foldl (· ||| ·) 0 } } :: rest }

/-- The n-th pending access of a context, or its CORDIC batch under way, sees what has been written since it read, element by element (05
R154). Noted writes that no access under way can see any more are dropped. -/
def State.seesLater (s : State) (id n : Nat) : State :=
  match s.ctx id with
  | none => s
  | some k =>
    if !k.watched then s.setCtx id { k with past := [] } else
    match k.pends[n]? with
    | none => s.rereadBatch id k
    | some p => if p.quant then s.rereadQuant id n k p else s.rereadFrom id n k p

end Sys2Proof.Machine
end

