-- ==== Sys2Proof/Machine/Step.lean ====
section
/-! DEFINITION. One step of the package, and the placing of one instruction where the next step issues it. -/

namespace Sys2Proof.Machine

open Sys2Proof

/-- The turn of stream `st` of context `ctx` [2]: its next word issues, if it may; a word that decodes to no instruction raises
illegal instruction (02 R66). A drowsy context wakes first (12 R376). -/
def issueTurn (ctx : Nat) (st : Strm) (s : State) : Host.Outcome State Fault Refusal :=
  match s.ctx ctx with
  | none => .next s
  | some k =>
    if s.stopsNow ctx k st then .next (s.setCtx ctx { k with stopped := k.stopped ++ [st] })
    else if !(s.mayIssue k st) then .next s
    else if k.drowsy then execStateWake ctx s
    else
      let s := { s with sel := ⟨ctx, st, false⟩ }
      if (k.lane st).bad then .next (s.consumeLane ctx k st) else
      match k.nextInstr st with
      | some i => exec i s
      | none => execIllegalInstruction (k.lane st).word s

/-- The turn of a core's transform sequencer (09 R283): the next word of its run; a run that gives way does so here (04 R139). -/
def seqTurn (core : Nat) (s : State) : Host.Outcome State Fault Refusal :=
  let q := (s.core core).seq
  match q.run with
  | none => .next s
  | some r =>
    match s.ctx r.ctx with
    | none => .next s
    | some k =>
      if r.gives && !(s.seqWaiting core).isEmpty then .next (s.suspendRun r)
      else if k.onCore && coreOf r.ctx == core then
        let w := q.word r.pc
        let s := { s with sel := ⟨r.ctx, .x, true⟩ }
        match decodeSeq w with
        | some i => exec i s
        | none => execIllegalInstruction w s
      else .next s

/-- One turn. -/
def takeTurn (t : Turn) (s : State) : Host.Outcome State Fault Refusal :=
  match t with
  | .issue ctx st => issueTurn ctx st s
  | .seq core => seqTurn core s
  | .event i => if isStep i then exec i s else .next s
  | .again ctx n => .next (s.seesLater ctx n)
  | .tick => .next s.tick

/-- One step of the package: an event that falls due, or the next turn of the agenda [2]. Without power (14 R417) there is none but the
power-on that the agenda may bring. -/
def step (s : State) : Host.Outcome State Fault Refusal :=
  if s.mgmt.powered then
    match s.due with
    | some f => f s
    | none =>
      match s.agenda with
      | [] => .next s.refill
      | t :: rest => takeTurn t { s with agenda := rest }
  else
    match s.agenda with
    | .event i :: rest =>
      match i with
      | .powerOnReset .. => exec i { s with agenda := rest }
      | _ => .fault .powerRemoved
    | _ => .fault .powerRemoved

/-- `s` with one instruction as the next word of the stream that decodeTableWord reads it for, of context 0, whose turn comes next; or
as the word that the transform sequencer of core 0 runs next [3]. -/
def State.withFetchWord (s : State) (nbits w : Nat) : State :=
  let k := (s.ctx 0).getD Ctx.reset
  match tableWordUnit nbits w with
  | some st =>
    let ss := { k.strm st with queue := [.lane (rowLane st nbits w)], rep := none, vote := none, ready := s.cycle }
    { s.setCtx 0 (k.setStrm st ss) with agenda := [.issue 0 st] }
  | none =>
    { (s.setCtx 0 k).setCore 0 { s.core 0 with seq := rowSeq (rowWords nbits w).1 } with agenda := [.seq 0] }

end Sys2Proof.Machine
end

