-- ==== Sys2Proof/Safety.lean ====
section
/-! DEFINITION. What counts as a safe run, and the terms in which claims are stated: when a word can issue, when an operand is legal,
what a word leaves in flight. Conditions are on the state and the operands alone. -/

namespace Sys2Proof.Machine

open Sys2Proof

/-! Runs -/

/-- The states that steps reach. -/
inductive Reach : State → State → Prop where
  | refl (s : State) : Reach s s
  | tail {s t u : State} : Reach s t → step t = .next u → Reach s u

/-- A safe run: while the package has power, every step gives a next state. -/
def SafeRun (s : State) : Prop := ∀ t, Reach s t → t.mgmt.powered = true → ∃ u, step t = .next u

/-- An answer is a next state of which `P` holds. -/
def Gives (o : Host.Outcome State Fault Refusal) (P : State → Prop) : Prop := ∃ t, o = .next t ∧ P t

/-! When a word can issue -/

/-- Stream `st` of the selected context, whose record is `k`, can issue a word with these token bits, destination and sources: its
gate is open (04 R120), the counters and pipes that it names are declared (02 R48), tokens, room and entries are there (02 R45, R51,
R52), and no source register is poisoned (13 R385). -/
structure CanIssue (s : State) (k : Ctx) (st : Strm) (t : Tok) (d : Option Spec) (srcs : List Spec) : Prop where
  placed   : s.ctx s.sel.ctx = some k
  gate     : k.squashed st = false
  declared : k.syncOk st t d srcs = true
  ready    : k.syncReady st t d srcs = true
  clean    : srcs.any (s.poisonedReg s.sel.ctx st k) = false

/-- Predicate `n` of stream `st` holds good data (13 R385). -/
def PredGood (k : Ctx) (st : Strm) (n : Nat) : Prop := k.lt.bad.contains (.p st n) = false

/-- Nothing pends that a rollback answers: a publication may complete (13 R383). -/
def Calm (k : Ctx) : Prop := ∀ f ∈ k.lt.faults, f.code ≠ 0x12 ∧ f.code ≠ 0x13

/-- The value of a source specifier as a word of the selected context reads it (02 R49). -/
def src (s : State) (k : Ctx) (st : Strm) (v : Spec) : Word := readSrc s.cycle k st v

/-- What a word of the selected context sees once it may issue. -/
def issueEnv (s : State) (k : Ctx) (st : Strm) (t : Tok) (srcs : List Spec) : Env :=
  ⟨s, s.sel.ctx, st, k, k.syncTake st t srcs, pushesOf st t⟩

/-- The word has issued: only the selected context's record differs, and its stream issues nothing more for `cost` cycles. -/
def Issues (s : State) (st : Strm) (cost : Nat) (o : Host.Outcome State Fault Refusal) (P : Ctx → Prop) : Prop :=
  ∃ k', o = .next (s.setCtx s.sel.ctx k') ∧ (k'.strm st).ready = s.cycle + cost ∧ P k'

/-- The word has issued, one cycle long, with one register result more in flight: of latency `lat`, for destination `d`, entering q
(03 R71 to R76). -/
def Delivers (s : State) (k : Ctx) (st : Strm) (t : Tok) (d : Spec) (lat : Nat) (v : Word) (o : Host.Outcome State Fault Refusal) : Prop :=
  Issues s st 1 o fun k' =>
    k'.lt.flights = k.lt.flights ++ [⟨st, landAt s.cycle k st lat, k.lt.ord, dstTarget k st d, v, true, pushesOf st t⟩]

/-- The word has issued with one write more in flight that does not enter q. -/
def Sends (s : State) (k : Ctx) (st : Strm) (lat : Nat) (tgt : Target) (v : Word) (push : List Ctr)
    (o : Host.Outcome State Fault Refusal) : Prop :=
  Issues s st 1 o fun k' => k'.lt.flights = k.lt.flights ++ [⟨st, landAt s.cycle k st lat, k.lt.ord, tgt, v, false, push⟩]

/-- The word has issued with one predicate more in flight (03 R99). -/
def DeliversPred (s : State) (k : Ctx) (st : Strm) (t : Tok) (n : Nat) (b : Bool) (o : Host.Outcome State Fault Refusal) : Prop :=
  Sends s k st 1 (.pred n) (if b then 1 else 0) (pushesOf st t) o

/-- The word has not issued, and has raised a synchronous fault in its stream: nothing else of the package differs (12 R356). -/
def Raises (s : State) (k : Ctx) (st : Strm) (code : Nat) (o : Host.Outcome State Fault Refusal) : Prop :=
  ∃ f, o = .next (s.setCtx s.sel.ctx (k.raise f)) ∧ f.strm = st ∧ f.code = code ∧ f.sync = true

/-- The word has issued, and its context stands as `k'` when its stream goes on: everything but that context is as before. -/
def IssuesAs (s : State) (st : Strm) (cost : Nat) (k' : Ctx) (o : Host.Outcome State Fault Refusal) : Prop :=
  o = .next (s.setCtx s.sel.ctx (k'.retire st s.cycle cost .none))

/-- C's next word is the last of its line: `l` is all that C's queue holds (02 R38, R39). -/
structure LastInLine (k : Ctx) (l : Lane) : Prop where
  queue : k.lt.c.queue = [.lane l]
  last  : l.later = false

/-- A line that a taken branch of `l` may enter (04 R115): with a level of the frame active, both lines lie in its body. -/
def StaysInBody (k : Ctx) (l : Lane) (target : Nat) : Prop :=
  ∀ lv r, k.lt.c.innermost = some (lv, r) →
    r.first ≤ l.addr / 32 * 32 ∧ l.addr / 32 * 32 ≤ r.last ∧ r.first ≤ target ∧ target ≤ r.last

/-! Operands -/

/-- A region descriptor is legal for an operand that takes the types of `accept` (05 R150): type and layout assigned, the sub-byte
rules kept, the base aligned, and every element inside the partition. -/
structure RgnLegal (k : Ctx) (r : Rgn) (accept : Nat → Bool) : Prop where
  type     : r.ty ≤ 11
  layout   : r.layout ≤ 2
  accepted : accept r.ty = true
  packed   : subByte r.ty = true → r.stride = 1 ∧ r.layout = 0
  blocks   : r.ty = 9 → r.count % 32 = 0
  aligned  : r.base % r.align = 0
  inside   : r.count ≠ 0 → 0 ≤ r.extent.1 ∧ r.extent.2 ≤ (k.spSize : Int)

/-- A source region of an instruction whose destination has `n` elements: of `n` elements or of one (05 R162). -/
structure SrcLegal (k : Ctx) (r : Rgn) (accept : Nat → Bool) (n : Nat) : Prop extends RgnLegal k r accept where
  size : r.count = n ∨ r.count = 1

/-- A tile tag of a context. -/
def Ctx.tagAt (k : Ctx) (n : Nat) : Tag := k.lt.sys.tags[n]?.getD Tag.reset

/-- Every enabled tag whose range an access touches admits it (05 R158): a writer while the range is empty, a reader while it is full,
an update while it is full; and no write of such a tag is under way (05 R157). -/
structure Admitted (k : Ctx) (reads writes : List (Nat × Nat)) : Prop where
  steady  : ∀ n ∈ (k.governing reads writes).w ++ (k.governing reads writes).r ++ (k.governing reads writes).u, k.tagWritten n = false
  writers : ∀ n ∈ (k.governing reads writes).w, (k.tagAt n).full = false ∧ (k.tagAt n).wadm ≤ (k.tagAt n).wcnt
  readers : ∀ n ∈ (k.governing reads writes).r, (k.tagAt n).full = true ∧ (k.tagAt n).radm ≤ (k.tagAt n).rcnt
  updates : ∀ n ∈ (k.governing reads writes).u, (k.tagAt n).full = true

/-- A scratchpad access of stream `st` waits for nothing and meets no poisoned data: the share is zeroed (01 R26), no CORDIC or
quantiser operation of X has the bytes (09 R280, 05 R161), the tags let it in (05 R158), what it reads is good (13 R385). -/
structure AccessOk (s : State) (k : Ctx) (st : Strm) (reads writes : List (Nat × Nat)) : Prop extends Admitted k reads writes where
  zeroed : k.zeroing = false
  cordic : st = .x → rangesMeet (reads ++ writes) k.crdRanges = false
  quants : st = .x → rangesMeet (reads ++ writes) k.quantRanges = false
  good   : s.spMarks s.sel.ctx k reads = []

/-- A word that names an aligned scratchpad place of `n` bytes inside the partition (11 R342). -/
def OffOk (k : Ctx) (off n : Nat) : Prop := off % n = 0 ∧ off + n ≤ k.spSize

/-- The word has issued with one region access more pending, of which `P` holds (05 R151). -/
def Accesses (s : State) (k : Ctx) (st : Strm) (o : Host.Outcome State Fault Refusal) (P : Pend → Prop) : Prop :=
  Gives o fun t => ∃ k' p, t.ctx s.sel.ctx = some k' ∧ k'.pends = k.pends ++ [p] ∧ p.strm = st ∧ (k'.strm st).ready = s.cycle + 1 ∧
    t.cores = s.cores ∧ t.mem = s.mem ∧ P p

/-- What an access of X reads of a region at issue (05 R151 to R154), as encodings; `j` numbers the region among the sources of its
instruction, and a source of one element serves all `n` places (05 R162). -/
def elemsOf (s : State) (k : Ctx) (j n : Nat) (r : Rgn) : List Nat := spread n (((s.view s.sel.ctx k .x).at_ j).elems r)

/-- A place in a result FIFO is free (03 R79). -/
def RoomIn (k : Ctx) (r : Ring) : Prop := (k.lt.fifo r).entries.length + (k.lt.fifo r).res < r.depth

/-- A completion barrier that one more operation may name (07 R237). -/
def CbarOpen (k : Ctx) (q : Nat) : Prop := (k.lt.cbar q).phase = .armed ∧ (k.lt.cbar q).members < (k.lt.cbar q).count

/-- The acquire atomics before a push of the selected context may take effect: a release among them waits for the engine commands pushed before it
(11 R331). -/
def Settled (s : State) (k : Ctx) : Prop := s.settleReady s.sel.ctx k = true

/-- The word has issued and handed work to an engine: `P` holds of the context's record. Where no atomic is in flight, nothing outside the
context has changed (11 R331: an acquire atomic before it takes effect first). -/
def Queues (s : State) (k : Ctx) (st : Strm) (o : Host.Outcome State Fault Refusal) (P : Ctx → Prop) : Prop :=
  Gives o fun t => ∃ k', t.ctx s.sel.ctx = some k' ∧ (k'.strm st).ready = s.cycle + 1 ∧
    (k.atoms = [] → t.mem = s.mem ∧ t.cores = s.cores ∧ t.clusters = s.clusters) ∧ P k'

/-! What a word leaves alone -/

/-- The register files and predicates of every stream are the same. -/
def SameRegs (k k' : Ctx) : Prop :=
  ∀ st, (k'.strm st).q = (k.strm st).q ∧ (k'.strm st).o = (k.strm st).o ∧ (k'.strm st).g = (k.strm st).g ∧ (k'.strm st).p = (k.strm st).p

/-- An instruction that stream `st` may issue as a word. -/
def WordOf (st : Strm) (i : Instr) : Prop := i.wf st = true

/-- The words that hand work to an engine: their push makes the acquire atomics before it take effect (11 R331, R336). -/
def pushesEngine : Instr → Bool
  | .mma .. | .mmat .. | .mmac .. | .tcon .. | .cplan .. | .crdRot .. | .crdVec .. | .crdHrot .. | .crdHvec .. | .crdLin ..
  | .vquant .. | .vdeq .. | .xfgo .. | .cfetch .. | .cqfetch .. | .cstore .. | .csend .. | .epush .. => true
  | _ => false

/-- The words that publish: with an empty store buffer in their very issue cycle (11 R345, R347, R348). -/
def publishes : Instr → Bool
  | .fix | .swap _ | .bar _ => true
  | _ => false

/-- The words whose region access is complete at issue, as they read it there (07 R220, 08 R261). -/
def readsAtOnce : Instr → Bool
  | .tcon .. | .maskRegion .. => true
  | _ => false

/-- A tile tag after an access that it has admitted as a reader and that is complete (05 R158). -/
def Tag.readThrough (t : Tag) : Tag :=
  if t.rdone = t.rcnt then { t with radm := t.radm + 1, rdone := t.rdone + 1, full := false, wadm := 0, wdone := 0 }
  else { t with radm := t.radm + 1, rdone := t.rdone + 1 }

/-- The returns from a trap handler. -/
def returnsFromTrap : Instr → Bool
  | .eret | .eretSkip => true
  | _ => false

end Sys2Proof.Machine
end

