-- ==== Sys2Proof/Certificates/Slice0/Obligations.lean ====
section
/-! DEFINITION. The statements for the provers: what the numbered rules of spec/ say of the machine, each as a proposition. A statement
that says that a word issues and what it leaves in flight is at once the completion statement of that word: its conditions are on the
state and the operands alone. -/

open Sys2Proof Sys2Proof.Machine

/-! Encodings (02 R53 to R65) -/

/-- Words that the spec writes out field by field, each read as the instruction it stands for (02, 03, 04, 07, 08, 09, 10, 12). -/
def Obligations.DecodeWords : Prop :=
  decode .c 0x06386200 none = some (.add 35 33 34) ∧ decode .c 0x0E28BFFF none = some (.addi 34 34 0x3FFF) ∧
  decode .c 0x44384864 none = some (.pseti 3 33 2 100) ∧ decode .c 0x557FFFBF none = some (.brp 2 1 0x3FFFBF) ∧
  decode .c 0x580013FF none = some (.call 0x13FF) ∧ decode .c 0x5C000000 none = some .ret ∧
  decode .c 0x6818C000 (some 0x00000003) = some (.loop 1 35 0 3 0) ∧
  decode .c 0x6C040200 (some 0x00002880) = some (.lpipe 0 16 2 0 1 0 40 0) ∧
  decode .c 0x70000000 none = some .lexit ∧ decode .c 0x76200E00 none = some (.lrd 34 14) ∧
  decode .c 0x78000542 none = some (.rep 1 1 1 2) ∧ decode .c 0x7C000000 none = some .vote ∧
  decode .c 0xC0000000 none = some .yield ∧ decode .c 0xC8000000 none = some (.waitk 0) ∧
  decode .c 0xCC000003 none = some (.sigk 3) ∧ decode .c 0xD6308A00 none = some (.epop 35 2 1 2) ∧
  decode .c 0xD8294000 none = some (.cbset 2 37) ∧ decode .c 0xEC000000 none = some .eret ∧
  decode .c 0xEC000001 none = some .eretSkip ∧
  decode .l 0x42C00000 none = some (.lxsNop 4) ∧ decode .x 0x02A60800 none = some (.lxsCbwait 0 38 2 0 0) ∧
  decode .x 0x64249660 none = some (.vadd 6 36 37 38) ∧ decode .x 0x0A01A400 none = some (.maskRange 0 1 41 0) ∧
  decode .x 0x08022010 (some 0x00045153) = some (.mma 0 2 0 1 1 0 3 1 1 1 2 0x11) ∧
  decode .x 0x0B2CB403 none = some (.cplan 0 44 45 3) ∧ decode .x 0x0A818C00 none = some (.bdset 0 1 35) ∧
  decode .x 0x0B64A2C0 none = some (.crdRot 0 36 40 44) ∧ decode .x 0x0B819800 none = some (.cbld 0 1 38) ∧
  (∀ st, decode st 0 none = none) ∧ decodeSeq 0 = none

/-- Decode and encode agree: every instruction of a stream, and every word of the transform sequencer, with every operand that the encoding
admits, is read from its words (02 R53 to R65). -/
def Obligations.EncodeDecode : Prop :=
  (∀ i : Instr, i.wf .c = true → decode .c (encode i).1 (encode i).2 = some i) ∧
  (∀ (st : Strm) (i : Instr), st ≠ .c → i.wf st = true → decode st (encode i).1 (encode i).2 = some i) ∧
  (∀ i : Instr, i.wfSeq = true → decodeSeq (encode i).1 = some i)

/-- Each word has one meaning and each meaning one word: no bit of a word is dropped (02 R53 to R65). -/
def Obligations.DecodeEncode : Prop :=
  (∀ (st : Strm) (w : W32) (c : Option W32) (i : Instr), decode st w c = some i → i.wf st = true ∧ encode i = (w, c)) ∧
  (∀ (w : W32) (i : Instr), decodeSeq w = some i → i.wfSeq = true ∧ encode i = (w, none))

/-- 02 R31 to R34, R36: a line's header routes its lanes. Every lane that a stream gets is a lane 1 to 7 whose nibble is that stream's,
with the word that stands there and, where the next nibble is 5, the next word as its continuation; lanes come in rising order. -/
def Obligations.LanesRouted : Prop :=
  ∀ (st : Strm) (ws : List W32), nibble (ws.getD 0 0) 0 = 0 →
    (∀ k w c, (k, w, c) ∈ lanesFor st ws ↔
      1 ≤ k ∧ k ≤ 7 ∧ nibble (ws.getD 0 0) k = st.nib ∧ w = ws.getD k 0 ∧
        c = (if k < 7 ∧ nibble (ws.getD 0 0) (k + 1) = 5 then some (ws.getD (k + 1) 0) else none)) ∧
    ((lanesFor st ws).map (·.1)).Pairwise (· < ·)

/-! Scalar words of C (03) -/

/-- 03 R90, R91: the three-operand words. Each issues and has its function of the two sources in flight, with the latency of R72. -/
def Obligations.CThreeOperandResults : Prop :=
  ∀ (s : State) (k : Ctx) (d a b : Spec), CanIssue s k .c 0 (some d) [a, b] →
    let x := src s k .c a
    let y := src s k .c b
    let n := y.toNat % 64
    let gives (i : Instr) (lat : Nat) (v : Word) : Prop := Delivers s k .c 0 d lat v (exec i s)
    gives (.add d a b) 1 (x + y) ∧ gives (.sub d a b) 1 (x - y) ∧ gives (.mul d a b) 3 (x * y) ∧
    gives (.mulh d a b) 3 ((x.signExtend 128 * y.signExtend 128).extractLsb' 64 64) ∧
    gives (.mulhu d a b) 3 ((x.setWidth 128 * y.setWidth 128).extractLsb' 64 64) ∧
    gives (.div d a b) 12 (if y = 0 then BitVec.allOnes 64 else x.sdiv y) ∧
    gives (.divu d a b) 12 (if y = 0 then BitVec.allOnes 64 else x / y) ∧
    gives (.rem d a b) 12 (if y = 0 then x else x - y * x.sdiv y) ∧
    gives (.remu d a b) 12 (if y = 0 then x else x - y * (x / y)) ∧
    gives (.and d a b) 1 (x &&& y) ∧ gives (.or d a b) 1 (x ||| y) ∧ gives (.xor d a b) 1 (x ^^^ y) ∧
    gives (.andn d a b) 1 (x &&& ~~~y) ∧ gives (.shl d a b) 1 (x <<< n) ∧ gives (.shr d a b) 1 (x >>> n) ∧
    gives (.sar d a b) 1 (x.sshiftRight n) ∧ gives (.rol d a b) 1 (x.rotateLeft n) ∧ gives (.ror d a b) 1 (x.rotateRight n) ∧
    gives (.min d a b) 1 (if x.toInt ≤ y.toInt then x else y) ∧ gives (.max d a b) 1 (if x.toInt ≤ y.toInt then y else x) ∧
    gives (.minu d a b) 1 (if x.toNat ≤ y.toNat then x else y) ∧ gives (.maxu d a b) 1 (if x.toNat ≤ y.toNat then y else x) ∧
    gives (.cmpeq d a b) 1 (if x = y then 1 else 0) ∧ gives (.cmpne d a b) 1 (if x = y then 0 else 1) ∧
    gives (.cmplt d a b) 1 (if x.toInt < y.toInt then 1 else 0) ∧ gives (.cmpltu d a b) 1 (if x.toNat < y.toNat then 1 else 0) ∧
    gives (.cmple d a b) 1 (if x.toInt ≤ y.toInt then 1 else 0) ∧ gives (.cmpleu d a b) 1 (if x.toNat ≤ y.toNat then 1 else 0)

/-- 03 R92 to R94: the two-operand words and the immediate forms. -/
def Obligations.CTwoOperandResults : Prop :=
  (∀ (s : State) (k : Ctx) (d a : Spec), CanIssue s k .c 0 (some d) [a] →
     let x := src s k .c a
     let gives (i : Instr) (v : Word) : Prop := Delivers s k .c 0 d 1 v (exec i s)
     gives (.mov d a) x ∧ gives (.not d a) (~~~x) ∧ gives (.neg d a) (-x) ∧
     gives (.abs d a) (if x.toInt < 0 then -x else x) ∧
     (∃ n : Nat, gives (.clz d a) (BitVec.ofNat 64 n) ∧ n ≤ 64 ∧ (∀ j < n, x.getLsbD (63 - j) = false) ∧ (n < 64 → x.getLsbD (63 - n) = true)) ∧
     (∃ n : Nat, gives (.ctz d a) (BitVec.ofNat 64 n) ∧ n ≤ 64 ∧ (∀ j < n, x.getLsbD j = false) ∧ (n < 64 → x.getLsbD n = true)) ∧
     gives (.popc d a) (BitVec.ofNat 64 ((Finset.range 64).filter fun j => x.getLsbD j = true).card) ∧
     gives (.sextb d a) ((x.setWidth 8).signExtend 64) ∧ gives (.sexth d a) ((x.setWidth 16).signExtend 64) ∧
     gives (.sextw d a) ((x.setWidth 32).signExtend 64) ∧ gives (.zextb d a) ((x.setWidth 8).setWidth 64) ∧
     gives (.zexth d a) ((x.setWidth 16).setWidth 64) ∧ gives (.zextw d a) ((x.setWidth 32).setWidth 64) ∧
     (∃ v : Word, gives (.bswap d a) v ∧ ∀ j < 8, v.extractLsb' (8 * j) 8 = x.extractLsb' (56 - 8 * j) 8)) ∧
  (∀ (s : State) (k : Ctx) (d a : Spec) (i : BitVec 14) (n : BitVec 6), CanIssue s k .c 0 (some d) [a] →
     let x := src s k .c a
     let y : Word := i.signExtend 64
     let gives (j : Instr) (lat : Nat) (v : Word) : Prop := Delivers s k .c 0 d lat v (exec j s)
     gives (.addi d a i) 1 (x + y) ∧ gives (.andi d a i) 1 (x &&& y) ∧ gives (.ori d a i) 1 (x ||| y) ∧
     gives (.xori d a i) 1 (x ^^^ y) ∧ gives (.muli d a i) 3 (x * y) ∧
     gives (.shiShl d a n) 1 (x <<< n.toNat) ∧ gives (.shiShr d a n) 1 (x >>> n.toNat) ∧
     gives (.shiSar d a n) 1 (x.sshiftRight n.toNat) ∧ gives (.shiRol d a n) 1 (x.rotateLeft n.toNat))

/-- 03 R95 to R98, 04 R126, 12 R364: constants, bit fields, SEL, RGN, LRD and RDCYC. LIH, LIX and BFI keep the other bits of the register that d
names, which they read and which must hold good data; so must the predicate that SEL reads (13 R385). -/
def Obligations.CFieldsSelectAndRead : Prop :=
  (∀ (s : State) (k : Ctx) (d a : Spec) (i : BitVec 20) (l p : BitVec 6) (sg : BitVec 1),
     let gives (j : Instr) (v : Word) : Prop := Delivers s k .c 0 d 1 v (exec j s)
     let old := src s k .c d
     let x := src s k .c a
     let good := s.poisonedReg s.sel.ctx .c k d = false
     (CanIssue s k .c 0 (some d) [] →
       gives (.li d i) (i.signExtend 64) ∧
       (good → gives (.lih d i) (old.extractLsb' 40 24 ++ i ++ old.extractLsb' 0 20)) ∧
       (good → gives (.lix d i) (i.signExtend 24 ++ old.extractLsb' 0 40))) ∧
     (CanIssue s k .c 0 (some d) [a] → p.toNat + l.toNat + 1 ≤ 64 →
       gives (.bfx d a sg l p) (if sg = 1 then (x.extractLsb' p.toNat (l.toNat + 1)).signExtend 64
         else (x.extractLsb' p.toNat (l.toNat + 1)).setWidth 64) ∧
       (good → ∃ v : Word, gives (.bfi d a l p) v ∧ ∀ j < 64, v.getLsbD j =
         if p.toNat ≤ j ∧ j ≤ p.toNat + l.toNat then x.getLsbD (j - p.toNat) else old.getLsbD j))) ∧
  (∀ (s : State) (k : Ctx) (d a b : Spec) (n : BitVec 3) (y : BitVec 4) (sel : BitVec 6),
     let gives (j : Instr) (v : Word) : Prop := Delivers s k .c 0 d 1 v (exec j s)
     let va := src s k .c a
     let vb := src s k .c b
     (CanIssue s k .c 0 (some d) [a, b] →
       (PredGood k .c n.toNat → gives (.sel d a b n) (if (k.strm .c).p[n.toNat] then va else vb)) ∧
       (¬PredGood k .c n.toNat → Raises s k .c 0x13 (exec (.sel d a b n) s)) ∧
       gives (.rgn d a b y) (vb.extractLsb' 32 4 ++ y ++ vb.extractLsb' 16 16 ++ vb.extractLsb' 0 16 ++ va.extractLsb' 0 24)) ∧
     (CanIssue s k .c 0 (some d) [] →
       gives (.rdcyc d) (BitVec.ofNat 64 s.cycle) ∧
       gives (.lrd d sel) (lctlRead k sel.toNat)))

/-- 03 R99, R100: conditions and predicate logic. A stage predicate named while no pipelined loop is active raises 0x06, as either operand, and a
predicate that holds poisoned data raises 0x13 (13 R385). Where both operands would stop the word, the first one's stop is taken, which is the
model's choice (log entry 54). -/
def Obligations.CPredicates : Prop :=
  ∀ (s : State) (k : Ctx) (n d : BitVec 3) (a b : Spec) (c : BitVec 8) (c4 : BitVec 4) (i : BitVec 10) (pa pb : BitVec 4),
    let gives (j : Instr) (m : BitVec 3) (v : Bool) : Prop := DeliversPred s k .c 0 m.toNat v (exec j s)
    let x := src s k .c a
    let y := src s k .c b
    let holds (c : Nat) (x y : Word) : Bool :=
      [decide (x = y), decide (x ≠ y), decide (x.toInt < y.toInt), decide (x.toNat < y.toNat), decide (x.toInt ≤ y.toInt),
        decide (x.toNat ≤ y.toNat), decide (y.toInt < x.toInt), decide (y.toNat < x.toNat), decide (y.toInt ≤ x.toInt),
        decide (y.toNat ≤ x.toNat), decide (x &&& y ≠ 0), decide (x &&& y = 0)].getD c false
    let pv (v : BitVec 4) : Option Bool := if h : v.toNat < 8 then some (k.strm .c).p[v.toNat] else (k.strm .c).stg (v.toNat - 8)
    let good (v : BitVec 4) : Prop := v.toNat < 8 → PredGood k .c v.toNat
    (CanIssue s k .c 0 none [a, b] → c.toNat < 12 → gives (.pset n a b c) n (holds c.toNat x y)) ∧
    (CanIssue s k .c 0 none [a] → c4.toNat < 12 → gives (.pseti n a c4 i) n (holds c4.toNat x (i.signExtend 64))) ∧
    (CanIssue s k .c 0 none [] →
      (∀ u v, pv pa = some u → pv pb = some v → good pa → good pb →
        gives (.pand d pa pb) d (u && v) ∧ gives (.por d pa pb) d (u || v) ∧ gives (.pxor d pa pb) d (u ^^ v) ∧
        gives (.pnot d pa) d (!u)) ∧
      let stops (code : Nat) : Prop := Raises s k .c code (exec (.pand d pa pb) s) ∧ Raises s k .c code (exec (.por d pa pb) s) ∧
        Raises s k .c code (exec (.pxor d pa pb) s)
      (pv pa = none → stops 0x06 ∧ Raises s k .c 0x06 (exec (.pnot d pa) s)) ∧
      (¬good pa → stops 0x13 ∧ Raises s k .c 0x13 (exec (.pnot d pa) s)) ∧
      (pv pa ≠ none → good pa → pv pb = none → stops 0x06) ∧ (pv pa ≠ none → good pa → ¬good pb → stops 0x13))

/-! The scalar subset of L, X and S (03 R102 to R107) -/

/-- 03 R102 to R106: the scalar words of L, X and S, with their token bits; `st` is the stream whose turn it is. -/
def Obligations.LxsScalarResults : Prop :=
  ∀ (s : State) (k : Ctx) (t : Tok) (d a b : Spec) (i : BitVec 10) (j : BitVec 16) (y : BitVec 4) (sg : BitVec 1),
    let st := s.sel.st
    let gives (i : Instr) (lat : Nat) (v : Word) : Prop := Delivers s k st t d lat v (exec i s)
    let va := src s k st a
    let vb := src s k st b
    let n := vb.toNat % 64
    let len := vb.toNat / 64 % 64 + 1
    (CanIssue s k st t (some d) [a, b] →
      gives (.saluAdd t d a b) 1 (va + vb) ∧ gives (.saluSub t d a b) 1 (va - vb) ∧ gives (.saluAnd t d a b) 1 (va &&& vb) ∧
      gives (.saluOr t d a b) 1 (va ||| vb) ∧ gives (.saluXor t d a b) 1 (va ^^^ vb) ∧ gives (.saluShl t d a b) 1 (va <<< n) ∧
      gives (.saluShr t d a b) 1 (va >>> n) ∧ gives (.saluMin t d a b) 1 (if va.toInt ≤ vb.toInt then va else vb) ∧
      gives (.saluMax t d a b) 1 (if va.toInt ≤ vb.toInt then vb else va) ∧ gives (.saluMul t d a b) 3 (va * vb) ∧
      gives (.lxsRgn t d a b y) 1 (vb.extractLsb' 32 4 ++ y ++ vb.extractLsb' 16 16 ++ vb.extractLsb' 0 16 ++ va.extractLsb' 0 24) ∧
      gives (.lxsBfx t d a b sg) 1 (if sg = 1 then (va.extractLsb' n len).signExtend 64 else (va.extractLsb' n len).setWidth 64)) ∧
    (CanIssue s k st t (some d) [a] → gives (.saluMov t d a) 1 va ∧ gives (.lxsAddi t d a i) 1 (va + i.signExtend 64)) ∧
    (CanIssue s k st t (some d) [] →
      gives (.lxsLi t d j) 1 (j.signExtend 64) ∧
      (s.poisonedReg s.sel.ctx st k d = false →
        gives (.lxsLih t d j) 1 (j.signExtend 48 ++ (src s k st d).extractLsb' 0 16)))

/-! Steps -/

/-- A step whose turn is a stream's, and whose stream may issue, runs the instruction that its next word decodes to (02 R36, R45, R55): step is
exec of that instruction with the stream selected; and under no prefix that instruction is what the bits of the lane at the head of the
stream's queue decode to. A word that decodes to no instruction raises 0x02 in its stream, stays unissued, and nothing else of the package
changes (02 R66); one that an uncorrectable error has marked raises 0x13 so (13 R385). A step whose turn is a sequencer's runs the word at its pc (09 R283). -/
def Obligations.StepRunsWord : Prop :=
  (∀ (s : State) (ctx : Nat) (st : Strm) (rest : List Turn) (k : Ctx),
     let s' : State := { s with agenda := rest, sel := ⟨ctx, st, false⟩ }
     s.mgmt.powered = true → s.due.isNone = true → s.agenda = .issue ctx st :: rest → s.ctx ctx = some k →
     s'.stopsNow ctx k st = false → s.mayIssue k st = true → k.drowsy = false →
     ((k.lane st).bad = true → Raises s' k st 0x13 (step s)) ∧
     ((k.lane st).bad = false → ∀ i, k.nextInstr st = some i → step s = exec i s') ∧
     ((k.lane st).bad = false → k.nextInstr st = none → Raises s' k st 0x02 (step s) ∧ Raises s' k st 0x02 (exec (.illegalInstruction (k.lane st).word) s'))) ∧
  (∀ (k : Ctx) (st : Strm), (k.strm st).rep = none → (k.strm st).vote = none →
     k.nextInstr st = decode st (k.lane st).word (k.lane st).cont) ∧
  (∀ (s : State) (core : Nat) (rest : List Turn) (r : SeqRun) (k : Ctx) (i : Instr),
     s.mgmt.powered = true → s.due.isNone = true → s.agenda = .seq core :: rest → (s.core core).seq.run = some r →
     s.ctx r.ctx = some k → k.onCore = true → coreOf r.ctx = core → r.gives = false → r.pc < 1024 → decodeSeq ((s.core core).seq.imem.getD r.pc 0) = some i →
     step s = exec i { s with agenda := rest, sel := ⟨r.ctx, .x, true⟩ })

/-- Nothing that a program does stops the machine: while the package has power, every step gives a next state, whatever the state; without
power nothing but a power-on does (14 R417). That a step then answers the fault powerRemoved is the model's choice (log entry 33). -/
def Obligations.StepAlwaysCompletes : Prop :=
  ∀ s : State, (s.mgmt.powered = true → ∃ t : State, step s = .next t) ∧
    (s.mgmt.powered = false → (∀ cold strap a b rest, s.agenda ≠ .event (.powerOnReset cold strap a b) :: rest) →
      step s = .fault .powerRemoved)

/-- 00 R6: the package's cycle counter goes up by one with the end of a cycle, and nothing else changes it; in a package with power the end of a
cycle comes when nothing is due and the agenda has come to it (the order of a cycle's turns is the model's own, log entry 2). -/
def Obligations.CycleCountsUp : Prop :=
  (∀ s t : State, step s = .next t → t.cycle = s.cycle ∨
    (t.cycle = s.cycle + 1 ∧ s.due.isNone = true ∧ ∃ rest, s.agenda = .tick :: rest)) ∧
  ∀ (s : State) (rest : List Turn), s.mgmt.powered = true → s.due.isNone = true → s.agenda = .tick :: rest →
    Gives (step s) fun t => t.cycle = s.cycle + 1 ∧ t.mem = s.mem

/-- Device memory keeps its canonical form: every step from a state in which it has it leaves a state in which it has it (the form is the
model's own, log entry 5). -/
def Obligations.MemoryFormKept : Prop :=
  ∀ s t : State, s.mem.wf = true → step s = .next t → t.mem.wf = true

/-- Right after reset device memory has its canonical form and reads as zero everywhere (log entry 5), no context is placed, the boot ROM
is about to run (14 R406), and the package has power. That memory reads as zero, that the cycle counter holds 0 and that no translation is
cached are the model's choices (log entries 5 and 4). -/
def Obligations.ResetState : Prop :=
  State.reset.mem.wf = true ∧ (∀ a, State.reset.mem.get a = 0) ∧ (∀ id, State.reset.ctx id = none) ∧ State.reset.mgmt.boot = .rom ∧
  State.reset.mgmt.powered = true ∧ State.reset.cycle = 0 ∧ State.reset.tlb = []

/-! Transfers and loops (02 R39, R40, 04 R111 to R138) -/

/-- 04 R115, R129, R130, R133: BR, BRP and JMPI. The target is the branch word's address plus four times the offset, or bits 47:0 of a
register. A taken branch continues C's path there after two cycles; one that is not taken takes two cycles as well. A target off a line or
a branch that is not the last lane raises 0x02, one that leaves the level's body 0x04; a marked predicate raises 0x13 (13 R385). -/
def Obligations.CBranches : Prop :=
  (∀ (s : State) (k : Ctx) (l : Lane) (o : BitVec 22) (p : BitVec 3) (sense : BitVec 1) (target : Nat),
     CanIssue s k .c 0 none [] → k.lane .c = l → (l.addr : Int) + 4 * o.toInt = target → target < 2 ^ 64 →
     let ok := l.later = false ∧ target % 32 = 0
     let taken := (k.strm .c).p[p.toNat] = decide (sense = 1)
     let good := PredGood k .c p.toNat
     (ok → StaysInBody k l target →
       IssuesAs s .c 2 (k.setLt { k.lt with next := some target }) (exec (.br o) s) ∧
       (good → taken → IssuesAs s .c 2 (k.setLt { k.lt with next := some target }) (exec (.brp p sense o) s))) ∧
     (ok → good → ¬taken → IssuesAs s .c 2 k (exec (.brp p sense o) s)) ∧
     (ok → ¬StaysInBody k l target →
       Raises s k .c 0x04 (exec (.br o) s) ∧ (good → taken → Raises s k .c 0x04 (exec (.brp p sense o) s))) ∧
     (ok → ¬good → Raises s k .c 0x13 (exec (.brp p sense o) s)) ∧
     (¬ok → Raises s k .c 0x02 (exec (.br o) s) ∧ Raises s k .c 0x02 (exec (.brp p sense o) s))) ∧
  (∀ (s : State) (k : Ctx) (l : Lane) (a : Spec), CanIssue s k .c 0 none [a] → k.lane .c = l →
     let target := (src s k .c a).toNat % 2 ^ 48
     let ok := l.later = false ∧ target % 32 = 0
     let k1 := k.syncTake .c 0 [a]
     (ok → StaysInBody k l target → IssuesAs s .c 2 (k1.setLt { k1.lt with next := some target }) (exec (.jmpi a) s)) ∧
     (ok → ¬StaysInBody k l target → Raises s k .c 0x04 (exec (.jmpi a) s)) ∧
     (¬ok → Raises s k .c 0x02 (exec (.jmpi a) s)))

/-- 04 R131, R133, R115: CALL and CALLI push the line after the call, deepen the call depth by one and open a new frame at the target; they
raise 0x19 while the return stack is full. RET pops the newest entry and continues there, one frame up; 0x04 with a level of the
frame active, 0x02 at depth 0, 0x19 with no entry held. At launch the depth is 0. -/
def Obligations.CCallsAndReturn : Prop :=
  (∀ (s : State) (k : Ctx) (l : Lane) (o : BitVec 22) (a : Spec) (target : Nat),
     let entered (k' : Ctx) := k'.lt.next = some target ∧ k'.lt.rstack = (l.addr / 32 * 32 + 32) :: k.lt.rstack ∧
       k'.lt.depth = k.lt.depth + 1 ∧ k'.lt.c.frame = ⟨k.lt.depth + 1, k.lt.c.frame.hnd⟩
     let calls (i : Instr) : Prop :=
       (LastInLine k l → target % 32 = 0 →
         (k.lt.depth ≠ 65535 → k.lt.rstack.length ≠ 16 → Issues s .c 2 (exec i s) entered) ∧
         (k.lt.depth ≠ 65535 → k.lt.rstack.length = 16 → Raises s k .c 0x19 (exec i s)) ∧
         (k.lt.depth = 65535 → Raises s k .c 0x02 (exec i s))) ∧
       (k.lane .c = l → (l.later = true ∨ target % 32 ≠ 0) → Raises s k .c 0x02 (exec i s))
     (CanIssue s k .c 0 none [] → (l.addr : Int) + 4 * o.toInt = target → target < 2 ^ 64 → calls (.call o)) ∧
     (CanIssue s k .c 0 none [a] → (src s k .c a).toNat % 2 ^ 48 = target → calls (.calli a))) ∧
  (∀ (s : State) (k : Ctx) (l : Lane), CanIssue s k .c 0 none [] → LastInLine k l →
     (k.lt.c.innermost = none → k.lt.depth ≠ 0 → ∀ t rest, k.lt.rstack = t :: rest →
       Issues s .c 2 (exec .ret s) fun k' => k'.lt.next = some t ∧ k'.lt.rstack = rest ∧ k'.lt.depth + 1 = k.lt.depth ∧
         k'.lt.c.frame = ⟨k.lt.depth - 1, k.lt.c.frame.hnd⟩) ∧
     (k.lt.c.innermost ≠ none → Raises s k .c 0x04 (exec .ret s)) ∧
     (k.lt.c.innermost = none → k.lt.depth = 0 → Raises s k .c 0x02 (exec .ret s)) ∧
     (k.lt.c.innermost = none → k.lt.depth ≠ 0 → k.lt.rstack = [] → Raises s k .c 0x19 (exec .ret s))) ∧
  (∀ l n p c, (launched l n p c).lt.depth = 0 ∧ (launched l n p c).lt.rstack = [])

/-- 04 R111 to R113, R117, R121, R122, R133: LOOP, LPIPE and LEXIT. With a count of one or more the level becomes active over the lines after
the declaring one; with a count of zero the path continues after the body (log entry 29); the nesting rules raise 0x04 and a full loop
buffer 0x05. LEXIT acts on the innermost level of the frame, and raises 0x04 without one: a plain level ends at C's next back edge; a
pipelined level's count becomes the smaller of its count and the index plus one. -/
def Obligations.CLoops : Prop :=
  (∀ (s : State) (k : Ctx) (l : Lane) (lv : BitVec 2) (a : Spec) (imm m : BitVec 1) (stages : BitVec 3) (len : BitVec 6)
       (moff icnt : BitVec 12) (piped : Bool) (map : Option (List (List Byte))),
     lv ≠ 3 → CanIssue s k .c 0 none (if imm = 1 then [] else [a]) → LastInLine k l →
     let i : Instr := if piped then .lpipe lv a stages imm m len moff icnt else .loop lv a imm len icnt
     let n := if imm = 1 then icnt.toNat else (src s k .c a).toNat
     let here := l.addr / 32 * 32
     let first := here + 32
     let last := first + 32 * len.toNat
     let limit := if piped then 2 ^ 32 - 8 else 2 ^ 32 - 1
     let inner := k.lt.c.innermost
     let st := if piped then stages.toNat + 1 else 1
     let fits := k.lt.c.view lv.toNat = none ∧ n ≤ limit ∧
       match inner with
       | none => len.toNat + 1 ≤ 32
       | some (_, r) => r.piped = false ∧ r.first ≤ first ∧ last ≤ r.last
     let room := k.lt.c.heldLines + (if inner = none then len.toNat + 1 else 0) ≤ 32
     let mapped := match piped, m with
       | true, 1 => ∃ rows, map = some rows ∧ s.stageMap (k.syncTake .c 0 (if imm = 1 then [] else [a])) ((here : Int) + 32 * moff.toInt) first (len.toNat + 1) st = .ok rows
       | _, _ => map = none
     (fits → n ≠ 0 → room → mapped →
       Issues s .c 1 (exec i s) fun k' =>
         k'.lt.next = k.lt.next ∧ (∀ j, j ≠ lv.toNat → k'.lt.c.view j = k.lt.c.view j) ∧
         ∃ r : Lvl, k'.lt.c.view lv.toNat = some r ∧ r.piped = piped ∧ r.stages = st ∧ r.count = n ∧ r.first = first ∧ r.last = last ∧
           r.frame = k.lt.c.frame ∧ r.exit = false ∧ r.map = map ∧ r.idx = 0) ∧
     (fits → n = 0 → Issues s .c 2 (exec i s) fun k' =>
       k'.lt.next = some (last + 32) ∧ ∀ j, k'.lt.c.view j = k.lt.c.view j) ∧
     (fits → n ≠ 0 → ¬room → Raises s k .c 0x05 (exec i s)) ∧
     (¬fits → Raises s k .c 0x04 (exec i s))) ∧
  (∀ (s : State) (k : Ctx), CanIssue s k .c 0 none [] →
     (∀ lv r, k.lt.c.innermost = some (lv, r) → r.piped = false →
       IssuesAs s .c 1 (k.setLt { k.lt with c := k.lt.c.setView lv (some { r with exit := true }) }) (exec .lexit s)) ∧
     (∀ lv r, k.lt.c.innermost = some (lv, r) → r.piped = true → ∃ r' : Lvl,
       r'.count = Nat.min r.count (r.idx + 1) ∧ { r' with count := r.count, exit := r.exit } = r ∧
       IssuesAs s .c 1 (k.setLt { k.lt with c := k.lt.c.setView lv (some r') }) (exec .lexit s)) ∧
     (k.lt.c.innermost = none → Raises s k .c 0x04 (exec .lexit s)))

/-- 04 R126 to R128: LCTL. LRD gives the fields level by level, each stream's index of a level, the four rotation bases, and the return stack's
entries with the call depth (its issue is in CFieldsSelectAndRead). Every selector but rsbot is read-only; LRD of
rsbot takes the oldest entry of the return stack out, LWR of rsbot puts one in, and neither changes the call depth. -/
def Obligations.CLoopRegisters : Prop :=
  (∀ (s : State) (k : Ctx) (d a : Spec) (sel : BitVec 6),
     (CanIssue s k .c 0 none [a] →
       let v := src s k .c a
       let legal := v.toNat % 32 = 0 ∧ v.toNat < 2 ^ 48 ∧ k.lt.rstack.length ≠ 16
       IssuesAs s .c 1 (k.syncTake .c 0 [a]) (exec (.lwr a sel) s) ∧
       (legal → Sends s k .c 1 .rsbot v [] (exec (.lwrRsbot a) s)) ∧
       (¬legal → Raises s k .c 0x02 (exec (.lwrRsbot a) s))) ∧
     (CanIssue s k .c 0 (some d) [] →
       (∀ rest t, k.lt.rstack = rest ++ [t] →
         Delivers s k .c 0 d 1 (BitVec.ofNat 64 (t % 2 ^ 48)) (exec (.lrdRsbot d) s) ∧
         Issues s .c 1 (exec (.lrdRsbot d) s) fun k' => k'.lt.rstack = rest ∧ k'.lt.depth = k.lt.depth) ∧
       (k.lt.rstack = [] → Delivers s k .c 0 d 1 0 (exec (.lrdRsbot d) s) ∧
         Issues s .c 1 (exec (.lrdRsbot d) s) fun k' => k'.lt.rstack = [] ∧ k'.lt.depth = k.lt.depth))) ∧
  (∀ (k : Ctx) (f : Flight), f.tgt = .rsbot →
     (k.landOne f).lt.rstack = k.lt.rstack ++ [f.val.toNat % 2 ^ 48] ∧ (k.landOne f).lt.depth = k.lt.depth) ∧
  (∀ (k : Ctx) (n : Nat), n ≤ 2 →
     (∀ r, k.lt.c.view n = some r → r.count < 2 ^ 32 → r.first < 2 ^ 48 → 1 ≤ r.stages → r.stages ≤ 8 → r.lines ≤ 64 → 1 ≤ r.lines →
         r.frame.depth < 2 ^ 16 →
       (lctlRead k n).toNat = r.count ∧ (lctlRead k (8 + n)).toNat = r.first ∧
       (let v := lctlRead k (4 + n)
        v.getLsbD 0 = true ∧ v.getLsbD 1 = r.piped ∧ (r.piped = true → (v.extractLsb' 2 3).toNat = r.stages - 1) ∧
        (v.extractLsb' 5 6).toNat = r.lines - 1 ∧ v.getLsbD 11 = r.exit ∧ v.getLsbD 12 = r.map.isSome ∧
        (v.getLsbD 13 = true ↔ (k.lt.sys.ftlink.extractLsb' 0 2).toNat = n) ∧
        (v.extractLsb' 16 16).toNat = r.frame.depth ∧ v.getLsbD 32 = r.frame.hnd)) ∧
     (k.lt.c.view n = none → lctlRead k n = 0 ∧ lctlRead k (4 + n) = 0 ∧ lctlRead k (8 + n) = 0) ∧
     ∀ st : Strm,
       (∀ r, (k.strm st).view n = some r → r.idx < 2 ^ 32 →
         ((lctlRead k (0x10 + 4 * n + st.num)).extractLsb' 0 32).toNat = r.idx ∧ lctlRead k (0x10 + 4 * n + st.num) >>> 32 = 0) ∧
       ((k.strm st).view n = none → lctlRead k (0x10 + 4 * n + st.num) = 0)) ∧
  (∀ k : Ctx,
     (let v := lctlRead k 0x0C
      (∀ st : Strm, v.extractLsb' (4 * st.num) 4 = (k.strm st).rot) ∧ v >>> 16 = 0) ∧
     (k.lt.rstack.length ≤ 16 → k.lt.depth < 2 ^ 16 →
       let v := lctlRead k 0x0E
       (v.extractLsb' 0 5).toNat = k.lt.rstack.length ∧ v.extractLsb' 5 11 = 0 ∧ (v.extractLsb' 16 16).toNat = k.lt.depth ∧ v >>> 32 = 0))

/-- 03 R85, R104, R107, 02 R44 to R46, 04 R135, R138, 12 R364: the prefixes, YIELD, NOP and BKPT. At a YIELD the context's own run
leaves the sequencer where a context of equal or higher rank waits for it (04 R139; that it then asks again before later ones is the model's choice,
log entry 44). NOP of L, X and S hands over its tokens at once. -/
def Obligations.PrefixesAndHints : Prop :=
  (∀ (s : State) (k : Ctx) (b a d : BitVec 2) (c : BitVec 6) (n : BitVec 8), CanIssue s k .c 0 none [] →
     exec (.rep b a d c) s = .next (s.setCtx s.sel.ctx
       (k.retire .c s.cycle 1 (.rep ⟨c.toNat + 1, d.toNat, a.toNat, b.toNat, 0, false, (k.strm .c).bodies⟩))) ∧
     exec .vote s = .next (s.setCtx s.sel.ctx (k.retire .c s.cycle 1 (.vote (k.lane .c)))) ∧
     Gives (exec .yield s) (fun t =>
       (let run := (s.core (coreOf s.sel.ctx)).seq.run.filter fun r => r.ctx == s.sel.ctx && s.waitedFor s.sel.ctx
        let off := (run.map fun r : SeqRun => { r with since := 0, till := 0 }).orElse fun _ => k.xfRun
        t.ctx s.sel.ctx = some (({ k with wd := 0, xfRun := off } : Ctx).retire .c s.cycle 1 .none) ∧
        (t.core (coreOf s.sel.ctx)).seq.run = if run.isSome then none else (s.core (coreOf s.sel.ctx)).seq.run) ∧
       s.sel.ctx ∈ (t.core (coreOf s.sel.ctx)).seq.yielded ∧ t.mem = s.mem ∧ ∀ id, id ≠ s.sel.ctx → t.ctx id = s.ctx id) ∧
     IssuesAs s .c 1 k (exec .nop s) ∧
     (k.lt.sys.dbgctl.getLsbD 0 = false → IssuesAs s .c 1 k (exec (.bkpt n) s)) ∧
     (k.lt.sys.dbgctl.getLsbD 0 = true → Issues s .c 1 (exec (.bkpt n) s) fun k' =>
       k'.halted = true ∧ k'.lt.sys = { k.lt.sys with tinfo1 := n.setWidth 64 })) ∧
  (∀ (s : State) (k : Ctx) (t : Tok) (b a d : BitVec 2) (c : BitVec 6),
     let st := s.sel.st
     (CanIssue s k st t none [] → k.lt.frame = none →
       Issues s st 1 (exec (.lxsNop t) s) fun k' => ∀ x : Ctr,
         (k'.lt.ctr x).vis + (if x ∈ popsOf st t then 1 else 0) = (k.lt.ctr x).vis + (if x ∈ pushesOf st t then 1 else 0) ∧
         (k'.lt.ctr x).res = (k.lt.ctr x).res) ∧
     (CanIssue s k st 0 none [] →
       exec (.lxsRep b a d c) s = .next (s.setCtx s.sel.ctx
         (k.retire st s.cycle 1 (.rep ⟨c.toNat + 1, d.toNat, a.toNat, b.toNat, 0, false, (k.strm st).bodies⟩)))))

/-! Device memory (11) -/

/-- 11 R349 to R353, 01 R18, R28: the translation of an address. Bits above 47 or a disabled root raise 0x09 without a walk. A cached translation
gives its page plus the offset, or 0x0A. Where nothing is cached, the access waits while its walk is under way or no walker of the die is free;
else a walk of entries that are valid, point to the next level's table and end in a 64 KiB leaf whose page is aligned, all within device memory,
gives the leaf's page plus the offset in it, 0x0A where the leaf lacks the permission, and waits while the leaf's scrub bit is set; a first
entry that is not valid raises 0x09 with its level 3. That a table beyond device memory is a failed walk is the model's inference (log entry
6); that an access waits for its walk or for a free walker, and then uses the tables without caching the entry, is the model's choice
(log entry 10). -/
def Obligations.Translation : Prop :=
  ∀ (s : State) (place : Nat) (root : Word) (va : Nat) (need : Need),
    let lacks : Att Nat := .trap 0x0A (BitVec.ofNat 64 va) 0 false 0 []
    (2 ^ 48 ≤ va ∨ root.getLsbD 0 = false → s.translate place root va need = .trap 0x09 (BitVec.ofNat 64 va) 0 false 0 []) ∧
    (va < 2 ^ 48 → root.getLsbD 0 = true → ∀ e, s.cached root va = some e →
      s.translate place root va need = if need.met e.rd e.wr e.ex then .ok (e.pa + (va - e.va)) else lacks) ∧
    (va < 2 ^ 48 → root.getLsbD 0 = true → s.cached root va = none → s.walkWaits place root va = true →
      s.translate place root va need = .wait (if (s.walks.find? fun w => w.ctx == place && w.root == root && w.va / 65536 == va / 65536).isSome
        then none else some ⟨place, va, root, s.cycle, s.cycle, 3, root.toNat / 2 ^ 12 % 2 ^ 36 * 4096⟩)) ∧
    (va < 2 ^ 48 → root.getLsbD 0 = true → s.cached root va = none → s.walkWaits place root va = false →
      let spot (table lvl : Nat) : Nat := table + 8 * (va / 2 ^ (if lvl = 0 then 16 else 12 + 9 * lvl) % (if lvl = 0 then 32 else 512))
      let entry (table lvl : Nat) : Nat := s.mem.readNat (spot table lvl) 8
      let there (table lvl : Nat) : Prop := spot table lvl + 8 ≤ 2 ^ 39
      let t3 := root.toNat / 2 ^ 12 % 2 ^ 36 * 2 ^ 12
      let down (e : Nat) : Prop := bit e 0 = true ∧ bit e 1 = false ∧ bits e 7 6 = 0 ∧ bits e 63 48 = 0
      let page (e : Nat) : Nat := bits e 47 8 * 2 ^ 8
      let t2 := page (entry t3 3)
      let t1 := page (entry t2 2)
      let t0 := page (entry t1 1)
      let e0 := entry t0 0
      (bit (entry t3 3) 0 = false ∨ ¬there t3 3 →
        s.translate place root va need = .trap 0x09 (BitVec.ofNat 64 va) 3 true 0 []) ∧
      (there t3 3 → down (entry t3 3) → t2 % 4096 = 0 → there t2 2 → down (entry t2 2) → t1 % 4096 = 0 → there t1 1 → down (entry t1 1) →
        t0 % 256 = 0 → there t0 0 → bit e0 0 = true → bit e0 1 = true → bits e0 7 6 = 0 → bits e0 63 48 = 0 →
        page e0 % 2 ^ 16 = 0 → page e0 + 2 ^ 16 ≤ 2 ^ 39 →
        s.translate place root va need =
          if bit e0 5 then .wait none else if need.met (bit e0 2) (bit e0 3) (bit e0 4) then .ok (page e0 + va % 2 ^ 16) else lacks))

/-- 11 R340, R341, R325, R326: LD. An entry is put in flight to ret.ld, with its place reserved; its value is fixed now: what the word's
snapshot holds, or, for a word that nothing has published since the exposure began, what memory holds. Misaligned addresses raise
0x07, a failed translation its own fault, a full FIFO 0x0F. -/
def Obligations.CLoadEffect : Prop :=
  ∀ (s : State) (k : Ctx) (a : Spec) (w : BitVec 3) (o : BitVec 11), CanIssue s k .c 0 none [a] → w ≠ 7 → s.mem.wf = true →
    let ea := (src s k .c a + o.signExtend 64).toNat
    let n := [1, 2, 4, 8, 1, 2, 4].getD w.toNat 0
    let extended (v : Nat) : Word :=
      let x : Word := BitVec.ofNat 64 v
      [(x.setWidth 8).signExtend 64, (x.setWidth 16).signExtend 64, (x.setWidth 32).signExtend 64, x,
        (x.setWidth 8).setWidth 64, (x.setWidth 16).setWidth 64, (x.setWidth 32).setWidth 64].getD w.toNat 0
    (∀ pa, ea % n = 0 → s.dataAddr k ea .read = .ok pa → pa % 8 + n ≤ 8 → RoomIn k .ld →
      Gives (exec (.ld a w o) s) fun t => ∃ (k' : Ctx) (x : PendLoad), t.ctx s.sel.ctx = some k' ∧ (k'.strm .c).ready = s.cycle + 1 ∧
        k'.loads = k.loads ++ [x] ∧ k'.lt.fifo .ld = { k.lt.fifo .ld with res := (k.lt.fifo .ld).res + 1 } ∧ t.mem = s.mem ∧
        (let word := pa / 8 * 8
         let own := (∀ y ∈ k.lt.stores, y.pa ≠ word) ∧ (∀ y ∈ k.frags, y.pa ≠ word)
         (own → k.snaps.find? (fun y => y.pa == word) = none → (∀ p ∈ s.pubs, p.pa = word → p.cycle ≤ k.start) →
           x.val = extended (leNat (s.mem.read pa n))) ∧
         (own → ∀ y, k.snaps.find? (fun y => y.pa == word) = some y →
           x.val = extended (y.val.toNat / 2 ^ (8 * (pa % 8)) % 2 ^ (8 * n))))) ∧
    (ea % n ≠ 0 → Raises s k .c 0x07 (exec (.ld a w o) s)) ∧
    (ea % n = 0 → ∀ c i l b j ls, s.dataAddr k ea .read = .trap c i l b j ls → Raises s k .c c (exec (.ld a w o) s)) ∧
    (∀ pa, ea % n = 0 → s.dataAddr k ea .read = .ok pa → ¬RoomIn k .ld → Raises s k .c 0x0F (exec (.ld a w o) s))

/-- 11 R323, R340, R341: ST. Nothing is written to memory: the context's store buffer takes the entry of the aligned word, and one word too
many raises 0x0F. -/
def Obligations.CStoreEffect : Prop :=
  ∀ (s : State) (k : Ctx) (d a : Spec) (w : BitVec 3) (o : BitVec 11), CanIssue s k .c 0 none [d, a] → w.toNat ≤ 5 →
    let ea := (src s k .c a + o.signExtend 64).toNat
    let n := [1, 2, 4, 8, 1, 1].getD w.toNat 0
    let i : Instr := .st d a w o
    (∀ pa, ea % n = 0 → s.dataAddr k ea .write = .ok pa →
      let x := storeEntry w.toNat ea pa (src s k .c d)
      let stores := overlay (dropNibbles false x k.lt.stores) x
      let room := stores.length ≤ k.sbw ∨ stores.length ≤ k.lt.stores.length
      x.pa = pa / 8 * 8 ∧
      (room → Issues s .c 1 (exec i s) fun k' => k'.lt.stores = stores) ∧
      (¬room → Raises s k .c 0x0F (exec i s))) ∧
    (ea % n ≠ 0 → Raises s k .c 0x07 (exec i s)) ∧
    (ea % n = 0 → ∀ c f l b j ls, s.dataAddr k ea .write = .trap c f l b j ls → Raises s k .c c (exec i s))

/-- 11 R323, R326, R340: what a store leaves in the buffer. Over any value of its aligned word the buffer now gives the stored bytes where
the store lies (for lo4 and hi4: one nibble), and what it gave before everywhere else, in that word and in every other. -/
def Obligations.StoreBufferReads : Prop :=
  ∀ (ws : List StoreWord) (wid va pa word : Nat) (v old : Word), wid ≤ 5 →
    let n := [1, 2, 4, 8, 1, 1].getD wid 0
    pa % 8 + n ≤ 8 →
    let x := storeEntry wid va pa v
    let before := overWord ws word old
    let after := overWord (overlay (dropNibbles false x ws) x) word old
    ∀ j < 16, after.extractLsb' (4 * j) 4 =
      if word = pa / 8 * 8 ∧ wid ≤ 3 ∧ 2 * (pa % 8) ≤ j ∧ j < 2 * (pa % 8 + n) then v.extractLsb' (4 * (j - 2 * (pa % 8))) 4
      else if word = pa / 8 * 8 ∧ wid = 4 ∧ j = 2 * (pa % 8) then v.extractLsb' 0 4
      else if word = pa / 8 * 8 ∧ wid = 5 ∧ j = 2 * (pa % 8) + 1 then v.extractLsb' 0 4
      else before.extractLsb' (4 * j) 4

/-- 11 R342, 05 R151 to R158: LDS and STS. LDS puts the element in flight for 4 cycles; with no access pending and no chunk or batch of an
engine under way it is what the core's scratchpad holds. STS leaves one pending access that writes its bytes (for lo4 and hi4: one nibble) one cycle after issue. 03 R83, R84: the
spill slots; a slot number beyond those that the image declares raises 0x16, and a marked slot that is read 0x13 (13 R385). -/
def Obligations.CScratchpadAccess : Prop :=
  ∀ (s : State) (k : Ctx) (d a : Spec) (w : BitVec 3),
    let off := (src s k .c a).toNat
    let nl := [1, 2, 4, 8, 1, 2, 4].getD w.toNat 0
    let ns := [1, 2, 4, 8, 1, 1].getD w.toNat 0
    let v := src s k .c d
    (CanIssue s k .c 0 (some d) [a] → w ≠ 7 →
      (OffOk k off nl → AccessOk s k .c [(off, off + nl)] [] →
        Gives (exec (.lds d a w) s) fun t => ∃ (k' : Ctx) (x : Word), t.ctx s.sel.ctx = some k' ∧ (k'.strm .c).ready = s.cycle + 1 ∧
          k'.lt.flights = k.lt.flights ++ [⟨.c, landAt s.cycle k .c 4, k.lt.ord, dstTarget k .c d, x, true, []⟩] ∧
          t.cores = s.cores ∧ t.mem = s.mem ∧
          (∃ p : Pend, k'.pends = k.pends ++ [p] ∧ p.due = some (landAt s.cycle k .c 4) ∧ p.writes = []) ∧
          (k.pends = [] → k.engineWrites = [] →
            let raw : Word := BitVec.ofNat 64 (leNat ((s.core (coreOf s.sel.ctx)).sp.read (k.spBase + off) nl))
            x = [(raw.setWidth 8).signExtend 64, (raw.setWidth 16).signExtend 64, (raw.setWidth 32).signExtend 64, raw, raw, raw, raw].getD
              w.toNat 0)) ∧
      (off % nl ≠ 0 → Raises s k .c 0x07 (exec (.lds d a w) s)) ∧
      (off % nl = 0 → k.spSize < off + nl → Raises s k .c 0x08 (exec (.lds d a w) s))) ∧
    (CanIssue s k .c 0 none [d, a] → w.toNat ≤ 5 →
      (OffOk k off ns → AccessOk s k .c [] [(off, off + ns)] →
        Accesses s k .c (exec (.sts d a w) s) fun p => p.due = some (s.cycle + 1) ∧ p.writes =
          ((if w = 4 then [(off, (v.extractLsb' 0 4).setWidth 8, 0x0F)]
          else if w = 5 then [(off, (v.extractLsb' 0 4).setWidth 8 <<< 4, 0xF0)]
          else (List.range ns).map fun j => (off + j, v.extractLsb' (8 * j) 8, 0xFF)) : List (Nat × Byte × Byte))) ∧
      (off % ns ≠ 0 → Raises s k .c 0x07 (exec (.sts d a w) s)) ∧
      (off % ns = 0 → k.spSize < off + ns → Raises s k .c 0x08 (exec (.sts d a w) s))) ∧
    (∀ n : BitVec 14,
      (CanIssue s k .c 0 (some d) [] →
        (n.toNat < k.nspill → k.lt.bad.contains (.spill n.toNat) = false →
          Delivers s k .c 0 d 1 ((Sparse.get k.lt.spill n.toNat).getD 0) (exec (.spld d n) s)) ∧
        (n.toNat < k.nspill → k.lt.bad.contains (.spill n.toNat) = true → Raises s k .c 0x13 (exec (.spld d n) s)) ∧
        (k.nspill ≤ n.toNat → Raises s k .c 0x16 (exec (.spld d n) s))) ∧
      (CanIssue s k .c 0 none [a] →
        (n.toNat < k.nspill → Sends s k .c 1 (.spill n.toNat) (src s k .c a) [] (exec (.spst a n) s)) ∧
        (k.nspill ≤ n.toNat → Raises s k .c 0x16 (exec (.spst a n) s))))

/-- 11 R343, R331, R332, R346: the twelve atomics at issue, and FENCE. Each atomic reserves a place in ret.at and is put in flight with its
operation, order, scope, address and operands; memory is as before. FENCE takes one issue cycle and counts one more fence, which the
atomics after it carry; with acquire, what earlier atomics have heard of is ordered before what follows, and with release the atomics after it
release what came before it. -/
def Obligations.CAtomicsAndFence : Prop :=
  (∀ (s : State) (k : Ctx) (sc : BitVec 3) (o : BitVec 2) (a b : Spec),
     let ea := (src s k .c a).toNat
     let x := src s k .c b
     let y := src s k .c (b + 1)
     let gives (i : Instr) (op : Nat) (v v' : Word) : Prop :=
       (∀ pa, ea % 8 = 0 → s.dataAddr k ea .readWrite = .ok pa → RoomIn k .atom →
         Issues s .c 1 (exec i s) fun k' =>
           k'.atoms = k.atoms ++ [⟨op, o.toNat, sc.toNat, pa, v, v', none, k.fences, k.rfence, k.lt.ord⟩] ∧
           k'.lt.fifo .atom = { k.lt.fifo .atom with res := (k.lt.fifo .atom).res + 1 }) ∧
       (ea % 8 ≠ 0 → Raises s k .c 0x07 (exec i s)) ∧
       (ea % 8 = 0 → ∀ c f l w j ls, s.dataAddr k ea .readWrite = .trap c f l w j ls → Raises s k .c c (exec i s)) ∧
       (∀ pa, ea % 8 = 0 → s.dataAddr k ea .readWrite = .ok pa → ¬RoomIn k .atom → Raises s k .c 0x0F (exec i s))
     (CanIssue s k .c 0 none [a, b] →
       gives (.aadd sc o a b) 0 x 0 ∧ gives (.aand sc o a b) 1 x 0 ∧ gives (.aor sc o a b) 2 x 0 ∧ gives (.axor sc o a b) 3 x 0 ∧
       gives (.amin sc o a b) 4 x 0 ∧ gives (.amax sc o a b) 5 x 0 ∧ gives (.aminu sc o a b) 6 x 0 ∧ gives (.amaxu sc o a b) 7 x 0 ∧
       gives (.aswap sc o a b) 8 x 0 ∧ gives (.ast sc o a b) 11 x 0) ∧
     (CanIssue s k .c 0 none [a, b, b + 1] → gives (.acas sc o a b) 9 x y) ∧
     (CanIssue s k .c 0 none [a] → gives (.ald sc o a) 10 0 0)) ∧
  (∀ (s : State) (k : Ctx) (o : BitVec 2) (sc : BitVec 3), CanIssue s k .c 0 none [] →
     IssuesAs s .c 1 { k with
       fences := k.fences + 1
       afence := if o.getLsbD 0 then k.fences + 1 else k.afence
       rfence := if o.getLsbD 1 then some (s.cycle, k.lt.ord) else k.rfence
       seen := if o.getLsbD 0 then joinSeen k.seen k.heard else k.seen } (exec (.fence o sc) s))

/-- 11 R329, R343: an atomic takes effect. It reads and writes its word in one step: the word then holds what the operation writes, no other
byte of memory changes, and its entry is the old word (0 for AST). A poisoned word that it reads leaves memory unchanged and marks the entry
(13 R385); AST overwrites it. A release waits for the courier commands pushed before it (R331). The oldest atomic, once it has taken effect,
posts its entry to ret.at. -/
def Obligations.AtomicTakesEffect : Prop :=
  ∀ (s : State) (id n : Nat) (k : Ctx) (a : PendAtom), s.ctx id = some k → k.atoms[n]? = some a → s.mem.wf = true →
    (a.done = none → s.atomReady id k n = true → (a.op = 11 ∨ s.poison.contains (.dev (a.pa / 8)) = false) → a.op ≤ 11 →
      let old := s.mem.word a.pa
      let b := a.b
      let new := [old + b, old &&& b, old ||| b, old ^^^ b, if old.toInt ≤ b.toInt then old else b, if old.toInt ≤ b.toInt then b else old,
        if old.toNat ≤ b.toNat then old else b, if old.toNat ≤ b.toNat then b else old, b, if old = b then a.new else old, old, b].getD a.op 0
      Gives (exec (.atomicEffect id n) s) fun t =>
        t.mem.word a.pa = new ∧ (∀ x, x < a.pa ∨ a.pa + 8 ≤ x → t.mem.get x = s.mem.get x) ∧
        ∃ k' : Ctx, t.ctx id = some k' ∧ k'.lt = k.lt ∧
          k'.atoms = k.atoms.set n { a with done := some ⟨if a.op = 11 then 0 else old, [], []⟩ }) ∧
    (a.done = none → s.atomReady id k n = true → s.poison.contains (.dev (a.pa / 8)) = true → a.op < 11 →
      Gives (exec (.atomicEffect id n) s) fun t => t.mem = s.mem ∧ ∃ k' : Ctx, t.ctx id = some k' ∧ k'.lt = k.lt ∧
        k'.atoms = k.atoms.set n { a with done := some ⟨0, [.dev (a.pa / 8)], []⟩ }) ∧
    (a.done = none → a.op ≠ 10 → 2 ≤ a.order → (∃ c ∈ k.cmds, c.ord < a.ord) → (∀ c ∈ k.cmds, c.paused = false) →
      exec (.atomicEffect id n) s = .next s) ∧
    (∀ e, n = 0 → a.done = some e → Gives (exec (.atomicEffect id 0) s) fun t =>
      t.mem = s.mem ∧ ∃ k' : Ctx, t.ctx id = some k' ∧ k'.atoms = k.atoms.drop 1 ∧
        (k'.lt.fifo .atom).entries = (k.lt.fifo .atom).entries ++ [⟨e.val, e.bad, []⟩] ∧
        (k'.lt.fifo .atom).res = (k.lt.fifo .atom).res - 1)

/-- 11 R324, R325, R345, R347, R348: FIX and SWAP with an empty store buffer publish in their issue cycle: a new exposure begins, C goes on, and
SWAP inverts cur of the pairs that it names. With buffered stores C waits, and FIX_PUBLICATION in a later cycle makes them visible, for FIX,
SWAP and BAR (R348) alike: SWAP then inverts cur of its pairs, and BAR has arrived at its barrier and waits for the release. A byte
outside every buffered word is as before; of a word that one entry holds, the nibbles that its mask names hold its data and the others are
as before; the buffer is empty and a new exposure begins. SWAP of a pair that is not declared raises 0x02. -/
def Obligations.CFixAndSwap : Prop :=
  (∀ (s : State) (k : Ctx) (a : Spec),
     let mask := (src s k .c a).toNat % 16
     let begins (o : Host.Outcome State Fault Refusal) (swapped : Nat → Bool) : Prop :=
       Gives o fun t => t.mem = s.mem ∧ ∃ k' : Ctx, t.ctx s.sel.ctx = some k' ∧ k'.lt.hold = .none ∧ k'.start = s.cycle ∧ k'.snaps = [] ∧
         k'.frags = [] ∧ k'.lt.stores = [] ∧ (k'.strm .c).ready = s.cycle + 1 ∧
         ∀ j < 4, k'.lt.sys.dbuf[j]? = (k.lt.sys.dbuf[j]?).map fun w => if swapped j then w ^^^ BitVec.twoPow 64 49 else w
     let waits (o : Host.Outcome State Fault Refusal) (h : Hold) : Prop :=
       Issues s .c 1 o fun k' => k'.lt.hold = h ∧ k'.lt.stores = k.lt.stores
     let declared := ∀ j < 4, mask / 2 ^ j % 2 = 1 → (k.lt.sys.dbuf[j]?.getD 0).getLsbD 48 = true
     (CanIssue s k .c 0 none [] → k.lt.stores = [] → k.atoms = [] → Calm k → begins (exec .fix s) fun _ => false) ∧
     (CanIssue s k .c 0 none [] → k.lt.stores ≠ [] → waits (exec .fix s) .fix) ∧
     (CanIssue s k .c 0 none [a] → declared → k.lt.stores = [] → k.atoms = [] → Calm k →
       begins (exec (.swap a) s) fun j => decide (mask / 2 ^ j % 2 = 1)) ∧
     (CanIssue s k .c 0 none [a] → declared → k.lt.stores ≠ [] → waits (exec (.swap a) s) (.swap mask)) ∧
     (CanIssue s k .c 0 none [a] → k.lt.hold = .none → ¬declared → Raises s k .c 0x02 (exec (.swap a) s))) ∧
  (∀ (s : State) (id : Nat) (k : Ctx), s.ctx id = some k → k.res = .resident →
     (match k.lt.hold with
       | .fix => True
       | .swap _ => True
       | .barFix b _ => b < 16 ∧ ((s.slice k.slice).barrier b).release = none
       | _ => False) → s.overtaken id k = false →
     (k.strm .c).lastIssue < s.cycle → k.atoms = [] → Calm k → s.mem.wf = true →
     Gives (exec (.fixPublication id) s) fun t =>
       (∃ k' : Ctx, t.ctx id = some k' ∧ k'.lt.stores = [] ∧ k'.start = s.cycle ∧ k'.snaps = [] ∧ s.cycle + 1 ≤ (k'.strm .c).ready ∧
         match k.lt.hold with
         | .swap m => k'.lt.hold = .none ∧ ∀ j < 4, k'.lt.sys.dbuf[j]? =
             (k.lt.sys.dbuf[j]?).map fun w => if m / 2 ^ j % 2 = 1 then w ^^^ BitVec.twoPow 64 49 else w
         | .barFix b n => k'.lt.hold = .bar b ∧ k'.lt.sys.dbuf = k.lt.sys.dbuf ∧
             (let bar := (s.slice k.slice).barrier b
              let bar' := (t.slice k.slice).barrier b
              bar'.n = (if bar.arrived = [] then n else bar.n) ∧ bar'.arrived = bar.arrived ++ [id] ∧
                bar'.release = if bar.arrived.length + 1 = bar'.n then some (s.cycle + 1) else none)
         | _ => k'.lt.hold = .none ∧ k'.lt.sys.dbuf = k.lt.sys.dbuf) ∧
       (∀ a, (∀ w ∈ k.lt.stores, a < w.pa ∨ w.pa + 8 ≤ a) → t.mem.get a = s.mem.get a) ∧
       (∀ w ∈ k.lt.stores, (∀ v ∈ k.lt.stores, v ≠ w → v.pa + 8 ≤ w.pa ∨ w.pa + 8 ≤ v.pa) → k.lt.stores.Nodup → ∀ j < 8,
         ∀ b, b < 8 → (t.mem.get (w.pa + j)).getLsbD b =
           if w.mask.getLsbD (2 * j + b / 4) then w.data.getLsbD (8 * j + b) else (s.mem.get (w.pa + j)).getLsbD b))

/-- 11 R348: BAR. A count of 0 or above 768, or one that differs from the generation's, raises 0x02. With an empty store buffer it
arrives in its issue cycle and C waits; the last arrival of its generation is released one cycle later. -/
def Obligations.CBarrier : Prop :=
  ∀ (s : State) (k : Ctx) (a : Spec), CanIssue s k .c 0 none [a] →
    let n := (src s k .c a).toNat % 2 ^ 16
    let b := (src s k .c a).toNat / 2 ^ 16 % 16
    let bar := (s.slice k.slice).barrier b
    (1 ≤ n → n ≤ 768 → bar.release = none → (bar.arrived ≠ [] → bar.n = n) → k.lt.stores = [] → k.atoms = [] → Calm k →
      Gives (exec (.bar a) s) fun t => t.mem = s.mem ∧
        (∃ k' : Ctx, t.ctx s.sel.ctx = some k' ∧ k'.lt.hold = .bar b) ∧
        (let bar' := (t.slice k.slice).barrier b
         bar'.n = n ∧ bar'.arrived = bar.arrived ++ [s.sel.ctx] ∧
           bar'.release = if bar.arrived.length + 1 = n then some (s.cycle + 1) else none)) ∧
    (1 ≤ n → n ≤ 768 → (bar.arrived ≠ [] → bar.release = none → bar.n = n) → k.lt.stores ≠ [] →
      Issues s .c 1 (exec (.bar a) s) fun k' => k'.lt.hold = .barFix b n ∧ k'.lt.stores = k.lt.stores) ∧
    (k.lt.hold = .none → n = 0 ∨ 768 < n ∨ (bar.arrived ≠ [] ∧ bar.release = none ∧ bar.n ≠ n) → Raises s k .c 0x02 (exec (.bar a) s))

/-! Result FIFOs, barriers, tokens, system registers (03 R78 to R82, 07 R236 to R238, 09 R287, R288, 12 R362 to R364) -/

/-- 03 R79 to R82, 11 R341, 07 R244: EPOP in each stream, and MSTAT, which gives a field of the word. The oldest entry is popped, and its word
lands in the destination one cycle later, with the predicate true in mode f; with no entry the word waits, or in mode f lands 0 with the
predicate false; a marked entry is popped and raises 0x13. -/
def Obligations.PopsResultFifo : Prop :=
  ∀ (s : State) (k : Ctx) (t : Tok) (d a : Spec) (m : BitVec 1) (p : BitVec 3) (f : BitVec 2),
    let pops (i : Instr) (st : Strm) (t : Tok) (r : Ring) (g : Word → Word) : Prop := CanIssue s k st t (some d) [] →
      let q := k.lt.fifo r
      let result (v : Word) : Flight := ⟨st, landAt s.cycle k st 1, k.lt.ord, dstTarget k st d, v, true, pushesOf st t⟩
      let predFlight (b : Bool) : List Flight :=
        if m = 1 then [⟨st, landAt s.cycle k st 1, k.lt.ord + 1, .pred p.toNat, if b then 1 else 0, false, []⟩] else []
      (∀ x rest, q.entries = x :: rest → x.bad = [] → Issues s st 1 (exec i s) fun k' =>
        k'.lt.fifo r = { q with entries := rest } ∧ k'.lt.flights = k.lt.flights ++ result (g x.val) :: predFlight true ∧
        k'.frags = x.acq.foldl overNewest k.frags) ∧
      (q.entries = [] → m = 1 → Issues s st 1 (exec i s) fun k' =>
        k'.lt.fifo r = q ∧ k'.lt.flights = k.lt.flights ++ result 0 :: predFlight false) ∧
      (q.entries = [] → m = 0 → exec i s = .next s) ∧
      (∀ x rest, q.entries = x :: rest → x.bad ≠ [] → Issues s st 1 (exec i s) fun k' =>
        k'.lt.fifo r = { q with entries := rest } ∧ k'.lt.flights = k.lt.flights ∧
        ∃ y : PendFault, k'.lt.faults = k.lt.faults ++ [y] ∧ y.strm = st ∧ y.code = 0x13 ∧ y.sync = true ∧ y.locs = x.bad)
    let ring := [Ring.ld, .atom, .co, .mx, .cr, .tx].getD a.toNat .tx
    pops (.epop d a m p) .c 0 ring id ∧ pops (.lxsEpop t d a m p) s.sel.st t ring id ∧
    pops (.mstat t d m p f) .x t .mx fun v =>
      [v, (v.extractLsb' 12 12).setWidth 64, (v.extractLsb' 24 12).setWidth 64, (v.extractLsb' 36 4).setWidth 64].getD f.toNat 0

/-- 07 R236 to R238: CBSET arms an idle or complete barrier for 0 to 255 members, one cycle after issue, and raises 0x02 otherwise. CBWAIT
reads a complete or failed barrier once and leaves it idle; before that it waits, or in mode f lands the word with the predicate false. -/
def Obligations.CompletionBarriers : Prop :=
  ∀ (s : State) (k : Ctx) (t : Tok) (d a : Spec) (q : BitVec 3) (m : BitVec 1) (p : BitVec 3),
    let b := k.lt.cbar q.toNat
    (CanIssue s k .c 0 none [a] →
      let v := src s k .c a
      let may := v.toNat ≤ 255 ∧ b.phase ≠ .armed ∧ b.phase ≠ .error
      (may → Sends s k .c 1 (.cbar q.toNat) v [] (exec (.cbset q a) s)) ∧
      (¬may → Raises s k .c 0x02 (exec (.cbset q a) s))) ∧
    (let waits (i : Instr) (st : Strm) (t : Tok) : Prop := CanIssue s k st t (some d) [] →
      let isOver := b.phase = .complete ∨ b.phase = .error
      let predFlight (b : Bool) : List Flight :=
        if m = 1 then [⟨st, landAt s.cycle k st 1, k.lt.ord + 1, .pred p.toNat, if b then 1 else 0, false, []⟩] else []
      let result : Flight := ⟨st, landAt s.cycle k st 1, k.lt.ord, dstTarget k st d, b.word, true, pushesOf st t⟩
      (isOver → Issues s st 1 (exec i s) fun k' =>
        k'.lt.cbar q.toNat = { b with phase := .idle } ∧ k'.lt.flights = k.lt.flights ++ result :: predFlight true ∧
        k'.frags = b.acq.foldl overNewest k.frags) ∧
      (¬isOver → m = 0 → exec i s = .next s) ∧
      (¬isOver → m = 1 → Issues s st 1 (exec i s) fun k' =>
        k'.lt.cbar q.toNat = b ∧ k'.lt.flights = k.lt.flights ++ result :: predFlight false)
     waits (.cbwait d q m p) .c 0 ∧ waits (.lxsCbwait t d q m p) s.sel.st t) ∧
    (b.done < 2 ^ 8 → b.count < 2 ^ 8 → b.fault < 2 ^ 8 → b.index < 2 ^ 16 → b.ftag < 2 ^ 8 →
      (b.word.extractLsb' 0 8).toNat = b.done ∧ (b.word.extractLsb' 8 8).toNat = b.count ∧
      (b.word.extractLsb' 24 8).toNat = b.fault ∧ (b.word.extractLsb' 32 16).toNat = b.index ∧ (b.word.extractLsb' 48 8).toNat = b.ftag ∧
      (b.word.extractLsb' 16 2).toNat = match b.phase with | .idle => 0 | .armed => 1 | .complete => 2 | .error => 3)

/-- 10 R307, 09 R287, R288: WAITC reads its operand and takes and gives its tokens at issue (log entry 60), then holds its stream until a cycle
has come by which no unfinished command has its postmark; WAITK takes a hardware token
that the sequencer gives and waits while there is none; SIGK gives one and waits at 255. With no scratchpad access of C pending, its LDS
included, the token is visible at once, otherwise in the cycle in which the last of them is complete (log entry 51). A token on its way counts
among the 255 (log entry 51). Where a rollback has left a token owed, SIGK pays that back and gives none (the model's choice, log entry 68). A token
declared for the other direction, or not at all, raises 0x0E. -/
def Obligations.WaitsAndSignals : Prop :=
  ∀ (s : State) (k : Ctx) (t : Tok) (a : Spec) (n : BitVec 3),
    let isOver (u : Nat) : Prop := u ≤ s.cycle ∧ ∀ c ∈ k.cmds, c.postmark ≤ u → c.event = true
    (CanIssue s k .c 0 none [a] → (k.strm .c).wait = none →
      let u := (src s k .c a).toNat
      (isOver u → Issues s .c 1 (exec (.waitc a) s) fun k' => k'.lt.flights = k.lt.flights ∧ (k'.strm .c).wait = none) ∧
      (¬isOver u → Issues s .c 1 (exec (.waitc a) s) fun k' => k'.lt.flights = k.lt.flights ∧ (k'.strm .c).wait = some u ∧
        (k'.strm .c).queue = (k.strm .c).queue)) ∧
    (CanIssue s k s.sel.st t none [a] → k.lt.frame = none → (k.strm s.sel.st).wait = none →
      let st := s.sel.st
      let u := (src s k st a).toNat
      let tokens (k' : Ctx) : Prop := ∀ x : Ctr,
        (k'.lt.ctr x).vis + (if x ∈ popsOf st t then 1 else 0) = (k.lt.ctr x).vis + (if x ∈ pushesOf st t then 1 else 0)
      (isOver u → Issues s st 1 (exec (.lxsWaitc t a) s) fun k' => (k'.strm st).wait = none ∧ tokens k') ∧
      (¬isOver u → Issues s st 1 (exec (.lxsWaitc t a) s) fun k' => (k'.strm st).wait = some u ∧ tokens k' ∧
        (k'.strm st).queue = (k.strm st).queue)) ∧
    (∀ u, s.ctx s.sel.ctx = some k →
      ((k.strm .c).wait = some u →
        (isOver u → Issues s .c 1 (exec (.waitc a) s) fun k' => (k'.strm .c).wait = none ∧ k'.lt.flights = k.lt.flights) ∧
        (¬isOver u → exec (.waitc a) s = .next s)) ∧
      ((k.strm s.sel.st).wait = some u →
        (isOver u → Issues s s.sel.st 1 (exec (.lxsWaitc t a) s) fun k' => (k'.strm s.sel.st).wait = none ∧ k'.lt.flights = k.lt.flights) ∧
        (¬isOver u → exec (.lxsWaitc t a) s = .next s))) ∧
    (CanIssue s k .c 0 none [] →
      let v := k.lt.tk[n.toNat]?.getD 0
      let w := k.lt.owed[n.toNat]?.getD 0
      let counts (v : Nat) : Ctx := k.setLt { k.lt with tk := k.lt.tk.setIfInBounds n.toNat v }
      (Sparse.get k.dtokens n.toNat = some .seqToCtx →
        (v ≠ 0 → IssuesAs s .c 1 (counts (v - 1)) (exec (.waitk n) s)) ∧ (v = 0 → exec (.waitk n) s = .next s)) ∧
      (Sparse.get k.dtokens n.toNat = some .ctxToSeq →
        let flying := (k.lt.flights.filter fun f => f.tgt == .token n.toNat).length
        (v + flying < 255 ∨ w ≠ 0 →
          ((∀ p ∈ k.pends, p.strm = .c → p.due.getD s.cycle ≤ s.cycle) →
            (w = 0 → IssuesAs s .c 1 (counts (v + 1)) (exec (.sigk n) s)) ∧
            (w ≠ 0 → IssuesAs s .c 1 (k.setLt { k.lt with owed := k.lt.owed.setIfInBounds n.toNat (w - 1) }) (exec (.sigk n) s))) ∧
          (∀ c, s.cycle < c → (∃ p ∈ k.pends, p.strm = .c ∧ p.due = some c) → (∀ p ∈ k.pends, p.strm = .c → p.due.getD s.cycle ≤ c) →
            Issues s .c 1 (exec (.sigk n) s) fun k' => k'.lt.tk = k.lt.tk ∧
              k'.lt.flights = k.lt.flights ++ [⟨.c, c, k.lt.ord, .token n.toNat, 0, false, []⟩])) ∧
        (255 ≤ v + flying → w = 0 → exec (.sigk n) s = .next s)) ∧
      (Sparse.get k.dtokens n.toNat ≠ some .seqToCtx → Raises s k .c 0x0E (exec (.waitk n) s)) ∧
      (Sparse.get k.dtokens n.toNat ≠ some .ctxToSeq → Raises s k .c 0x0E (exec (.sigk n) s)))

/-- 12 R363, 05 R155: RDSYS and WRSYS of the registers without a row of their own. A tenant that reads a kernel-only register or a tag that it
does not hold, or that writes a register of the kernel, raises 0x03; a write of a register that no level writes has no effect; a write whose
reserved bits are not zero raises 0x02; a running context's write of its own partition, units or slots changes nothing, as they change only off the
core (05 R144, 07 R215, 10 R303), which is the model's choice among the ways to turn it away (log entry 21); any other write lands one cycle
later. -/
def Obligations.CSystemRegisters : Prop :=
  ∀ (s : State) (k : Ctx) (d a : Spec) (n : BitVec 14),
    let kernelOnly := n.toNat ∈ [0x002, 0x058, 0x064, 0x065, 0x066]
    let kernelWrites := n.toNat ∈ [0x000, 0x00D, 0x00E, 0x051, 0x052, 0x053, 0x054, 0x056, 0x059, 0x060, 0x061, 0x062, 0x063] ∨
      (0x0C0 ≤ n.toNat ∧ n.toNat ≤ 0x0FF)
    let fixed := n.toNat ∈ [0x001, 0x003, 0x00A, 0x00C, 0x057]
    let tag := 0x080 ≤ n.toNat ∧ n.toNat ≤ 0x09F
    let holds := k.kernelLvl = true ∨ k.lt.sys.tagown.getLsbD (n.toNat - 0x080) = true
    (CanIssue s k .c 0 (some d) [] →
      ((kernelOnly → k.kernelLvl = true) → (tag → holds) →
        Delivers s k .c 0 d 1 (sysRead s.cycle s.sel.ctx k n.toNat) (exec (.rdsys d n) s)) ∧
      (kernelOnly ∧ k.kernelLvl = false ∨ tag ∧ ¬holds → Raises s k .c 0x03 (exec (.rdsys d n) s))) ∧
    (CanIssue s k .c 0 none [a] → sysOwnRow n.toNat = false →
      let v := src s k .c a
      (fixed → IssuesAs s .c 1 (k.syncTake .c 0 [a]) (exec (.wrsys a n) s)) ∧
      ((kernelOnly ∨ kernelWrites) → k.kernelLvl = false → Raises s k .c 0x03 (exec (.wrsys a n) s)) ∧
      (¬fixed → ((kernelOnly ∨ kernelWrites) → k.kernelLvl = true) → sysValueOk n.toNat v = false →
        Raises s k .c 0x02 (exec (.wrsys a n) s)) ∧
      (¬fixed → ¬kernelOnly → ¬kernelWrites → sysValueOk n.toNat v = true → Sends s k .c 1 (.sys n.toNat) v [] (exec (.wrsys a n) s)) ∧
      ((kernelOnly ∨ kernelWrites) → k.kernelLvl = true → sysValueOk n.toNat v = true → s.kernelWriteOk s.sel.ctx k n.toNat v = true →
        let offCore := n.toNat ∈ [0x060, 0x061, 0x062] ∨ 0x0C0 ≤ n.toNat
        (¬offCore → Sends s k .c 1 (.sys n.toNat) v [] (exec (.wrsys a n) s)) ∧
        (offCore → IssuesAs s .c 1 (k.syncTake .c 0 [a]) (exec (.wrsys a n) s))))

/-- 12 R363, 00 R10, R11: what a write of a register leaves once it lands. A register that software writes whole reads back what was written;
sys.evstat loses the bits written as 1 (06 R209), sys.dbuf its cur bit (11 R347), an event counter keeps its low word with its window's age
zero (06 R210), a tag its admitted counts (05 R157). A write of sys.tagown zeroes the tags that pass to the context or from it (01 R26), which the model has
happen as the write lands (log entry 61). Every other register reads as before, but for the forced-save bound, which the shares give. -/
def Obligations.SystemWriteReads : Prop :=
  ∀ (k : Ctx) (c id n m : Nat) (v : Word), sysValueOk n v = true →
    (n ∈ [0x000, 0x008, 0x009, 0x00B, 0x00D, 0x048, 0x050, 0x056, 0x058, 0x059, 0x060, 0x061, 0x062, 0x063, 0x064, 0x065] ∨
        (0x010 ≤ n ∧ n ≤ 0x02F) ∨ (0x038 ≤ n ∧ n ≤ 0x047) ∨ (0x0C0 ≤ n ∧ n ≤ 0x0FF) → sysRead c id (k.sysNow c n v) n = v) ∧
    (n = 0x049 → sysRead c id (k.sysNow c n v) n = sysRead c id k n &&& ~~~v) ∧
    (0x04C ≤ n ∧ n ≤ 0x04F → sysRead c id (k.sysNow c n v) n = v &&& ~~~(BitVec.twoPow 64 49)) ∧
    (0x030 ≤ n ∧ n ≤ 0x037 → sysRead c id (k.sysNow c n v) n = (v.setWidth 32).setWidth 64) ∧
    (0x080 ≤ n ∧ n ≤ 0x09F → sysRead c id (k.sysNow c n v) n = (v.extractLsb' 0 34).setWidth 64) ∧
    (n = 0x063 → ∀ j < 32, sysRead c id (k.sysNow c n v) (0x080 + j) =
      if (k.lt.sys.tagown ^^^ v).getLsbD j then 0 else sysRead c id k (0x080 + j)) ∧
    (m ≠ n → m ≠ 0x057 → ¬(n = 0x063 ∧ 0x080 ≤ m ∧ m ≤ 0x09F) → sysRead c id (k.sysNow c n v) m = sysRead c id k m)

/-- 06 R209, R210, 08 R249, R253, 11 R347, R352, 05 R155 to R157: the registers whose writes have a row of their own. Each lands one cycle later,
but for sys.bndcap, whose write stops C until the boundary has moved; sys.tlbinv, which the kernel alone writes, waits for the walks of its
range that have read an entry, and drops the cached translations of the range at once. A double buffer's two ranges end at 2^48 at the latest, and those of an enabled pair meet no other enabled pair's (0x02, with
reserved bits); npages 0, which the table of R347 does not list, lands too, the model's reading (log entry 41). The write of a tile tag waits for the accesses that the tag has admitted; an enabled range that passes the partition raises
0x08, and one within it that meets another enabled tag's 0x02. -/
def Obligations.CRegisterWrites : Prop :=
  (∀ (s : State) (k : Ctx) (n2 : BitVec 2) (n3 : BitVec 3) (n4 : BitVec 4) (a : Spec), CanIssue s k .c 0 none [a] →
     let v := src s k .c a
     let lands (i : Instr) (n : Nat) : Prop := Sends s k .c 1 (.sys n) v [] (exec i s)
     lands (.wrsysEvcnt n3 a) (0x030 + n3.toNat) ∧
     (v.toNat < 2 ^ 8 → lands (.wrsysEvstat a) 0x049) ∧ (2 ^ 8 ≤ v.toNat → Raises s k .c 0x02 (exec (.wrsysEvstat a) s)) ∧
     (1 ≤ v.toNat ∧ v.toNat ≤ 4096 → lands (.wrsysBd n4 a) (0x020 + n4.toNat)) ∧
     (¬(1 ≤ v.toNat ∧ v.toNat ≤ 4096) → Raises s k .c 0x02 (exec (.wrsysBd n4 a) s)) ∧
     (let lo := v.toNat % 2 ^ 32
      let pages := v.toNat / 2 ^ 32 % 2 ^ 16
      let other (j : Nat) := k.lt.sys.dbuf[j]?.getD 0
      let clear (j : Nat) := pages = 0 ∨ (other j).toNat / 2 ^ 32 % 2 ^ 16 = 0 ∨ lo + 2 * pages ≤ (other j).toNat % 2 ^ 32 ∨
        (other j).toNat % 2 ^ 32 + 2 * ((other j).toNat / 2 ^ 32 % 2 ^ 16) ≤ lo
      let legal := v.toNat < 2 ^ 50 ∧ lo + 2 * pages ≤ 2 ^ 32 ∧
        (v.getLsbD 48 = true → ∀ j < 4, j ≠ n2.toNat → (other j).getLsbD 48 = true → clear j)
      (legal → lands (.wrsysDbuf n2 a) (0x04C + n2.toNat)) ∧ (¬legal → Raises s k .c 0x02 (exec (.wrsysDbuf n2 a) s))) ∧
     (let size := v.toNat % 2 ^ 6
      let lo := v.toNat / 2 ^ 16 % 2 ^ 32 * 2 ^ 16
      (k.kernelLvl = false → Raises s k .c 0x03 (exec (.wrsysTlbinv a) s)) ∧
      (k.kernelLvl = true → v.toNat / 2 ^ 6 % 2 ^ 10 = 0 → v.toNat < 2 ^ 48 → 16 ≤ size → size ≤ 48 → lo % 2 ^ size = 0 →
        (s.walksIn lo (2 ^ size) = true → exec (.wrsysTlbinv a) s = .next s) ∧
        (s.walksIn lo (2 ^ size) = false → Gives (exec (.wrsysTlbinv a) s) fun t => t.mem = s.mem ∧ (∃ k' : Ctx, t.ctx s.sel.ctx = some k' ∧ (k'.strm .c).ready = s.cycle + 1) ∧
          ∀ e, e.size ≠ 0 → (e ∈ t.tlb ↔ e ∈ s.tlb ∧ (e.va + e.size ≤ lo ∨ lo + 2 ^ size ≤ e.va))))) ∧
     (let units := v.toNat % 2 ^ 4
      let settled := (∀ m ∈ k.mats, m.kind ≠ .tcon ∧ m.kind ≠ .cplan) ∧ (∀ p ∈ k.pends, p.boundary = false) ∧
        k.unitsBusy (k.accCnt - Nat.max units k.bndUnits) k.accCnt = false
      let reserved := v.toNat / 2 ^ 4 % 2 ^ 12 = 0 ∧ v.toNat < 2 ^ 32
      let fits := units ≤ k.accCnt ∧ (k.lt.sys.bndshape.getLsbD 48 = true → k.bnd.length ≤ capacity v)
      (reserved → settled → fits → Issues s .c 1 (exec (.wrsysBndcap a) s) fun k' =>
        k'.lt.hold = .move (s.cycle + 1 + (8 * k.bnd.length + 511) / 512 + 8) v) ∧
      (reserved → ¬settled → exec (.wrsysBndcap a) s = .next s) ∧
      (¬reserved ∨ settled ∧ ¬fits → Raises s k .c 0x02 (exec (.wrsysBndcap a) s)))) ∧
  (∀ (s : State) (k : Ctx) (n : BitVec 5) (a : Spec), CanIssue s k .c 0 none [a] →
     let v := src s k .c a
     let i : Instr := .wrsysTag n a
     let mine := k.kernelLvl = true ∨ k.lt.sys.tagown.getLsbD n.toNat = true
     let lo := v.toNat % 2 ^ 12 * 512
     let hi := lo + (v.toNat / 2 ^ 12 % 2 ^ 12 + 1) * 512
     let on := v.getLsbD 32 = true
     let clear := ∀ j < 32, j ≠ n.toNat → (k.tagAt j).en = true → hi ≤ (k.tagAt j).range.1 ∨ (k.tagAt j).range.2 ≤ lo
     (¬mine → Raises s k .c 0x03 (exec i s)) ∧
     (mine → v.toNat < 2 ^ 44 → k.tagBusy n.toNat = true → exec i s = .next s) ∧
     (mine → v.toNat < 2 ^ 44 → k.tagBusy n.toNat = false → (on → hi ≤ k.spSize ∧ clear) →
       Sends s k .c 1 (.sys (0x080 + n.toNat)) v [] (exec i s)) ∧
     (mine → 2 ^ 44 ≤ v.toNat → Raises s k .c 0x02 (exec i s)) ∧
     (mine → v.toNat < 2 ^ 44 → k.tagBusy n.toNat = false → on → k.spSize < hi → Raises s k .c 0x08 (exec i s)) ∧
     (mine → v.toNat < 2 ^ 44 → k.tagBusy n.toNat = false → on → hi ≤ k.spSize → ¬clear → Raises s k .c 0x02 (exec i s)))

/-! Traps (12 R355 to R362) -/

/-- 12 R362, 02 R48: TRAP raises 0x1D with its value and number, its own effect complete. trap.k 0 ends the context with the status of its
operand, as 0x0E where a token or a pipe entry is left, once the kernel answers (14 R411). trap.k 1 starts the save that a slice-end notice asks
for once the engines are done (15 R425), and without a notice only takes its cycle. trap.k n stops C until the kernel replies. -/
def Obligations.CTraps : Prop :=
  ∀ (s : State) (k : Ctx) (d a : Spec) (n : BitVec 7),
    let v := src s k .c a
    (CanIssue s k .c 0 none [a] →
      (Issues s .c 1 (exec (.trap a n) s) fun k' => ∃ f : PendFault, k'.lt.faults = k.lt.faults ++ [f] ∧ f.strm = .c ∧ f.code = 0x1D ∧ f.sync = true ∧
        f.skip = true ∧ f.info = v ∧ f.tag = n.toNat) ∧
      (let left := (∃ c : Ctr, (k.lt.ctr c).vis ≠ 0) ∨ ∃ p : Pipe, (k.syncTake .c 0 [a]).lt.pipe p ≠ []
       (s.kernelDown = true → exec (.trapKExit d a) s = .next s) ∧
       (s.kernelDown = false → Gives (exec (.trapKExit d a) s) fun t => t.mem = s.mem ∧ (∃ k' : Ctx, t.ctx s.sel.ctx = some k' ∧ k'.res = .ended) ∧
        ∃ r : Report, t.reports = s.reports ++ [r] ∧ r.ctx = k.placeOf s.sel.ctx ∧ r.status = some (v.setWidth 32) ∧
          (left → r.code = 0x0E ∧ r.grade = some 'P') ∧ (¬left → r.code = 0 ∧ r.grade = none))) ∧
      (k.notice = none → IssuesAs s .c 1 (k.syncTake .c 0 [a]) (exec (.trapKSaved d a) s)) ∧
      (k.notice ≠ none → s.atWork s.sel.ctx k = true → exec (.trapKSaved d a) s = .next s) ∧
      (k.notice ≠ none → k.engineBusy = false → s.running s.sel.ctx = false → k.pends = [] →
        Issues s .c 1 (exec (.trapKSaved d a) s) fun k' => k'.lt.hold = .saving ∧ k'.saveAt = s.cycle + 1)) ∧
    (CanIssue s k .c 0 (some d) [a] →
      Issues s .c 1 (exec (.trapKService d a n) s) fun k' => k'.lt.hold = .kernel n.toNat v (dstTarget k .c d))

/-- 12 R356 to R359, R370: TRAP_ENTRY to the tenant handler, for the codes a tenant may take, with the handler enabled and none running. The
cause, the address, and the records are written with tin set; C's path continues at the handler's line; the pipes, the token counters and the
queues are empty; no register of any stream changes. The frame is kept, and where its page is mapped it is written to the context area: each
stream's q stands there, and no byte beside the frame's, 0x100-0x7FF and 0x3C00-0x3FFF of the area, changes (log entry 17). -/
def Obligations.TrapEntryToHandler : Prop :=
  ∀ (s : State) (id : Nat) (k : Ctx) (f : PendFault) (pa : Option Nat), s.ctx id = some k → k.nextFault = some f → k.trapReady s.cycle = true →
    f.code ∈ [0x09, 0x0B, 0x0D, 0x10, 0x19, 0x1C, 0x1D] → k.lt.sys.tvec.getLsbD 0 = true → k.lt.frame = none → s.frameAt k = .ok pa →
    s.mem.wf = true → Gives (exec (.trapEntry id) s) fun t => t.cores = s.cores ∧
      (match pa with
        | none => t.mem = s.mem
        | some p => (∀ a, a < p + 0x100 ∨ (p + 0x800 ≤ a ∧ a < p + 0x3C00) ∨ p + 0x4000 ≤ a → t.mem.get a = s.mem.get a) ∧
          ∀ (st : Strm) (j : Nat), j < 16 → t.mem.word (p + 0x100 + 0x100 * st.num + 8 * j) = (k.strm st).q[j]?.getD 0) ∧
      ∃ k' : Ctx, t.ctx id = some k' ∧ SameRegs k k' ∧
      (let r := k'.lt.sys
       (r.tcause.extractLsb' 0 8).toNat = f.code ∧ (r.tcause.extractLsb' 8 2).toNat = f.strm.num ∧ r.tcause.getLsbD 10 = f.sync ∧
       r.tcause.getLsbD 11 = true ∧ r.tpc.toNat = (if f.sync then f.pc else (k.setStrm .c (k.strm .c).unvote).nextWord f.strm) % 2 ^ 48 ∧ r.tinfo0 = f.info ∧
       (r.tinfo1.extractLsb' 0 8).toNat = f.tag % 2 ^ 8 ∧ (r.tinfo1.extractLsb' 8 6).toNat = f.slot % 2 ^ 6) ∧
      k'.lt.next = some (k.lt.sys.tvec.toNat % 2 ^ 48 / 32 * 32) ∧ (∀ p : Pipe, k'.lt.pipe p = []) ∧
      (∀ c : Ctr, k'.lt.ctr c = ⟨0, 0⟩) ∧ (∀ st, (k'.strm st).queue = []) ∧ k'.lt.rstack = k.lt.rstack ∧ k'.lt.depth = k.lt.depth ∧
      ∃ fr : TrapFrame, k'.lt.frame = some fr ∧ fr.pipes = k.lt.pipes ∧ fr.ctrs = k.lt.ctrs ∧ fr.line = k.lt.line ∧ fr.next = k.lt.next ∧
        ∀ st : Strm, fr.q[st.num]? = some (k.strm st).q ∧ fr.p[st.num]? = some (k.strm st).p ∧ fr.views[st.num]? = some (k.strm st).views

/-- 12 R361, 04 R119: ERET. With the handler's frame and depth, no token and no pipe entry left or on its way, and every result landed once L, X and S have
come to it, what trap entry saved comes back, with the loop levels whose numbers a handler declared anew while a stream lagged in them (04 R125), and tin is
cleared; until then C waits in it (log entry 67); otherwise it raises 0x02, 0x04 or 0x0E: a push still reserved and a result in flight towards a
pipe count as not empty (the model's choice, log entry 62), and skip drops a faulting word's lane with what remains of its repetitions (log
entry 63). -/
def Obligations.TrapReturn : Prop :=
  ∀ (s : State) (k : Ctx) (skip : Bool), CanIssue s k .c 0 none [] → (k.lane .c).later = false →
    let i : Instr := if skip then .eretSkip else .eret
    (k.lt.frame = none → Raises s k .c 0x02 (exec i s)) ∧
    ∀ f, k.lt.frame = some f →
      let drained := (∀ c : Ctr, k.lt.ctr c = ⟨0, 0⟩) ∧ ∀ p : Pipe, k.lt.pipe p = [] ∧ ∀ x ∈ k.lt.flights, x.tgt ≠ .pipe p
      (k.lt.c.innermost ≠ none → Raises s k .c 0x04 (exec i s)) ∧
      (k.lt.c.innermost = none → k.lt.depth ≠ f.depth → Raises s k .c 0x02 (exec i s)) ∧
      (k.lt.c.innermost = none → k.lt.depth = f.depth → ¬drained → Raises s k .c 0x0E (exec i s)) ∧
      (k.lt.c.innermost = none → k.lt.depth = f.depth → drained → k.handlerDone = false →
        Issues s .c 1 (exec i s) fun k' => k'.lt.hold = .eret skip ∧ k'.lt.frame = k.lt.frame ∧ k'.lt.sys = k.lt.sys) ∧
      (k.lt.c.innermost = none → k.lt.depth = f.depth → drained → k.lt.flights = [] →
        (∀ st, st ≠ .c → laneCount (k.strm st).queue = 0) →
        Gives (exec i s) fun t => t.mem = s.mem ∧ ∃ k' : Ctx, t.ctx s.sel.ctx = some k' ∧ k'.lt.frame = none ∧ k'.lt.pipes = f.pipes ∧
          k'.lt.ctrs = f.ctrs ∧ k'.lt.line = f.line ∧ k'.lt.next = f.next ∧ k'.lt.depth = k.lt.depth ∧ k'.lt.rstack = k.lt.rstack ∧
          k'.lt.sys = { k.lt.sys with tcause := k.lt.sys.tcause &&& ~~~(BitVec.twoPow 64 11) } ∧
          ∀ st : Strm, f.q[st.num]? = some (k'.strm st).q ∧ f.p[st.num]? = some (k'.strm st).p ∧ (k'.strm st).o = (k.strm st).o ∧
            (k'.strm st).g = (k.strm st).g ∧
            (∀ lv a, (f.views[st.num]?.getD (k.strm st).views)[lv]? = some (some a) → ∃ b, (k'.strm st).view lv = some b ∧ b.ord = a.ord) ∧
            (k'.strm st).queue = (let back := f.queues[st.num]?.getD []
              (if skip ∧ f.sync ∧ f.byInstr ∧ f.strm = st then dropLane back else back).dropWhile fun x => match x with
                | .mark _ => true
                | .lane _ => false))

/-- 12 R355, R360, R362, 14 R400, 01 R20, 04 R139: the faults that go to the resident kernel and end the context: a report with the code, its grade
and the place is added, the context issues nothing more, and the registers are those at the fault; the trap registers tell it, in the context and in
the report. At the watchdog's 0x11 its run, if the
sequencer holds one, leaves the sequencer as well and keeps its place in its program. The premise leaves out 0x0D, 0x12, 0x13 and 0x1C, after which R360 lets the context go on or asks
more (TrapEntryToHandler, ErrorsAndRecovery, ContextEvents), and 0x17, which the debugger's view takes and no fault of the machine carries:
BKPT and a breakpoint halt the context (12 R374). KERNEL_REPLY ends a wait for a kernel service with the kernel's
value, or all ones for a service that the kernel does not define. -/
def Obligations.KernelEndsAndReplies : Prop :=
  ∀ (s : State) (id : Nat) (k : Ctx), s.ctx id = some k → s.kernelDown = false →
    (∀ f, k.nextFault = some f → k.trapReady s.cycle = true → k.handlerTakes f.code = false →
      f.code ∉ [0x0D, 0x12, 0x13, 0x17, 0x1C] →
      Gives (exec (.trapEntry id) s) fun t => t.mem = s.mem ∧
        (∃ k' : Ctx, t.ctx id = some k' ∧ k'.res = .ended ∧ SameRegs k k' ∧
          (let r := k'.lt.sys
           (r.tcause.extractLsb' 0 8).toNat = f.code % 2 ^ 8 ∧ (r.tcause.extractLsb' 8 2).toNat = f.strm.num ∧ r.tcause.getLsbD 10 = f.sync ∧
           r.tcause.getLsbD 11 = k.lt.sys.tcause.getLsbD 11 ∧ r.tinfo0 = f.info ∧ (r.tinfo1.extractLsb' 0 8).toNat = f.tag % 2 ^ 8 ∧
           r.tpc.toNat = (if f.sync then f.pc else (k.setStrm .c (k.strm .c).unvote).nextWord f.strm) % 2 ^ 48 ∧
           ∃ r', t.reports = s.reports ++ [r'] ∧ r'.tcause = r.tcause ∧ r'.tpc = r.tpc ∧ r'.tinfo0 = r.tinfo0 ∧ r'.tinfo1 = r.tinfo1) ∧
          (f.code = 0x11 → ∀ r, (s.core (coreOf id)).seq.run = some r → r.ctx = id → (t.core (coreOf id)).seq.run = none ∧
            ∃ r' : SeqRun, k'.xfRun = some r' ∧ r'.tag = r.tag ∧ r'.pc = r.pc ∧ r'.sa = r.sa ∧ r'.w = r.w ∧ r'.loops = r.loops ∧ r'.gives = true)) ∧
        ∃ r : Report, t.reports = s.reports ++ [r] ∧ r.ctx = (if id < 768 then id else k.place) ∧ r.code = f.code ∧ r.tinfo0 = f.info ∧
          r.grade = if f.code = 0x1B then some 'S' else if f.code = 0x18 then some 'E' else some 'P') ∧
    (∀ n arg tgt reply, k.lt.hold = .kernel n arg tgt → k.res = .resident →
      let v : Word := if Config.kernelDefines n then reply else BitVec.allOnes 64
      ∃ k' : Ctx, exec (.kernelReply id reply) s = .next (s.setCtx id k') ∧ k'.lt.hold = .none ∧
        (k'.strm .c).q[0] = v ∧ (∀ r, tgt = .g r → r < 32 → (k'.strm .c).g[r]? = some v) ∧
        (∀ r, tgt = .o r → r < 8 → (k'.strm .c).o[r]? = some v) ∧ ∀ p : Pipe, tgt = .pipe p → k'.lt.pipe p = k.lt.pipe p ++ [v])

/-! Regions and the words of X (05) -/

/-- 05 R148: where the elements of a region lie. Element k of a byte type has its linear offset at base plus k strides; layout 1 moves a
16-byte chunk within its 512-byte run by exclusive or with the run's number, layout 2 by adding it. With no access pending and no chunk or batch of an engine under way (05 R154) a region's elements are
what the core's scratchpad holds there, little-endian. -/
def Obligations.RegionElements : Prop :=
  ∀ (s : State) (id : Nat) (k : Ctx) (st : Strm) (r : Rgn), r.ty ≤ 11 → subByte r.ty = false → r.layout ≤ 2 →
    (∀ j < r.count, ∀ lin : Nat, (r.base : Int) + j * r.stride * (typeBits r.ty / 8 : Nat) = lin → r.off j =
      lin / 512 * 512 + lin % 16 + 16 *
        (if r.layout = 0 then lin / 16 % 32 else if r.layout = 1 then (lin / 16 % 32) ^^^ (lin / 512 % 32) else (lin / 16 % 32 + lin / 512 % 32) % 32)) ∧
    (k.pends = [] → k.engineWrites = [] → (s.core (coreOf id)).sp.wf = true →
      (s.view id k st).elems r = (List.range r.count).map fun j =>
        leNat ((s.core (coreOf id)).sp.read (k.spBase + r.off j) (typeBits r.ty / 8)))

/-- 05 R162 to R165: the elementwise words. With legal regions whose accesses wait for nothing, the word issues and leaves one access
pending that writes the function of the elements: integers wrap (VADDS and VSUBS clamp), floats are computed exactly and rounded once under
sys.fpctl, and the bitwise words act on encodings. -/
def Obligations.VectorArithmetic : Prop :=
  ∀ (s : State) (k : Ctx) (t : Tok) (d a b : Spec), CanIssue s k .x t none [d, a, b] →
    let rd := Rgn.ofWord (src s k .x d)
    let ra := Rgn.ofWord (src s k .x a)
    let rb := Rgn.ofWord (src s k .x b)
    let n := rd.count
    let xs := elemsOf s k 0 n ra
    let ys := elemsOf s k 1 n rb
    let w := typeBits rd.ty
    let legal (A : Nat → Bool) (more : List Rgn) : Prop := RgnLegal k rd A ∧ SrcLegal k ra A n ∧ SrcLegal k rb A n ∧ ra.ty = rd.ty ∧
      rb.ty = rd.ty ∧ AccessOk s k .x ((ra :: rb :: more).flatMap Rgn.ranges) rd.ranges
    let gives (i : Instr) (A : Nat → Bool) (f : Nat → Nat → Nat) : Prop :=
      legal A [] → Accesses s k .x (exec i s) fun p => p.due = none ∧ p.writes = rd.writes (List.zipWith f xs ys)
    let val (x : Nat) : Int := if rd.ty = 6 then (x : Int) % 2 ^ w else ((x : Int) + 2 ^ (w - 1)) % 2 ^ w - 2 ^ (w - 1)
    let wrap (i : Int) : Nat := (i % 2 ^ w).toNat
    let clamp (i : Int) : Nat :=
      let lo : Int := if rd.ty = 6 then 0 else -2 ^ (w - 1)
      let hi : Int := if rd.ty = 6 then 2 ^ w - 1 else 2 ^ (w - 1) - 1
      wrap (if i < lo then lo else if hi < i then hi else i)
    let mode := RM.byNumber (k.lt.sys.fpctl.toNat % 4)
    let flush := k.lt.sys.fpctl.getLsbD 2
    (gives (.vadd t d a b) isCompInt (fun x y => wrap (val x + val y)) ∧ gives (.vsub t d a b) isCompInt (fun x y => wrap (val x - val y)) ∧
     gives (.vmul t d a b) isCompInt (fun x y => wrap (val x * val y)) ∧
     gives (.vdiv t d a b) isCompInt (fun x y => wrap (if val y = 0 then -1 else (val x).tdiv (val y))) ∧
     gives (.vmin t d a b) isCompInt (fun x y => wrap (if val x ≤ val y then val x else val y)) ∧
     gives (.vmax t d a b) isCompInt (fun x y => wrap (if val x ≤ val y then val y else val x)) ∧
     gives (.vavg t d a b) isCompInt (fun x y => wrap ((val x + val y + 1) / 2)) ∧
     gives (.vadds t d a b) isCompInt (fun x y => clamp (val x + val y)) ∧ gives (.vsubs t d a b) isCompInt (fun x y => clamp (val x - val y)) ∧
     gives (.vshl t d a b) isCompInt (fun x y => x * 2 ^ (y % w) % 2 ^ w) ∧ gives (.vshr t d a b) isCompInt (fun x y => x / 2 ^ (y % w)) ∧
     gives (.vsar t d a b) isCompInt (fun x y => wrap (val x / 2 ^ (y % w)))) ∧
    (gives (.vand t d a b) isComputing (fun x y => x &&& y) ∧ gives (.vor t d a b) isComputing (fun x y => x ||| y) ∧
     gives (.vxor t d a b) isComputing (fun x y => x ^^^ y)) ∧
    (∀ F, fmtOf rd.ty = some F →
      let v (x : Nat) : Ex := (F.read flush x).1
      let rnd (x : Ex) (rest : Bool) : Nat := (F.round mode flush false x rest).1
      let floats (ty : Nat) : Bool := ty ≤ 2
      gives (.vadd t d a b) floats (fun x y => rnd (Ex.add (mode == .rdn) (v x) (v y)).1 false) ∧
      gives (.vsub t d a b) floats (fun x y => rnd (Ex.add (mode == .rdn) (v x) (v y).neg).1 false) ∧
      gives (.vmul t d a b) floats (fun x y => rnd (Ex.mul (v x) (v y)).1 false) ∧
      gives (.vdiv t d a b) floats (fun x y => rnd (Ex.div (v x) (v y)).1 (Ex.div (v x) (v y)).2.1) ∧
      gives (.vmin t d a b) floats (fun x y => rnd (Ex.min (v x) (v y)) false) ∧
      gives (.vmax t d a b) floats (fun x y => rnd (Ex.max (v x) (v y)) false) ∧
      gives (.vavg t d a b) floats (fun x y => rnd (Ex.add (mode == .rdn) (v x) (v y)).1.half false)) ∧
    (legal isComputing [rd] → Accesses s k .x (exec (.vfma t d a b) s) fun p =>
      p.writes = rd.writes (List.zipWith (fun xy z => match fmtOf rd.ty with
        | none => wrap (val xy.1 * val xy.2 + val z)
        | some F =>
          let v (x : Nat) : Ex := (F.read flush x).1
          (F.round mode flush false (Ex.add (mode == .rdn) (Ex.mul (v xy.1) (v xy.2)).1 (v z)).1 false).1)
        (xs.zip ys) (((s.view s.sel.ctx k .x).at_ 2).elems rd)))

/-- 05 R166, R167, R170, R171: the words of one source, VSEL and VCMP. -/
def Obligations.VectorSelectAndConvert : Prop :=
  ∀ (s : State) (k : Ctx) (t : Tok) (d a b : Spec) (i : BitVec 1) (r c : BitVec 3),
    let rd := Rgn.ofWord (src s k .x d)
    let ra := Rgn.ofWord (src s k .x a)
    let rb := Rgn.ofWord (src s k .x b)
    let rp := Rgn.ofWord (src s k .x (b + 1))
    let n := rd.count
    let xs := elemsOf s k 0 n ra
    let w := typeBits rd.ty
    let any (_ : Nat) : Bool := true
    let plain (ty : Nat) : Bool := ty != 9
    let floats (ty : Nat) : Bool := ty ≤ 2
    let byte (ty : Nat) : Bool := ty == 5 || ty == 6
    let flush := k.lt.sys.fpctl.getLsbD 2
    let mode := RM.byNumber (k.lt.sys.fpctl.toNat % 4)
    let writes (i : Instr) (ws : List (Nat × Byte × Byte)) : Prop := Accesses s k .x (exec i s) fun p => p.writes = ws
    (CanIssue s k .x t none [d, a] →
      (∀ A, RgnLegal k rd A → SrcLegal k ra A n → ra.ty = rd.ty → AccessOk s k .x ra.ranges rd.ranges →
        (A = isComputing →
          writes (.vnot t d a) (rd.writes (xs.map fun x => 2 ^ w - 1 - x)) ∧
          writes (.vabs t d a) (rd.writes (xs.map fun x => match fmtOf rd.ty with
            | none => encInt rd.ty (intOf rd.ty x).1.natAbs
            | some F => (F.round mode flush false (F.read flush x).1.abs false).1)) ∧
          writes (.vneg t d a) (rd.writes (xs.map fun x => match fmtOf rd.ty with
            | none => encInt rd.ty (-(intOf rd.ty x).1)
            | some F => (F.round mode flush false (F.read flush x).1.neg false).1))) ∧
        (A = floats → ∀ F, fmtOf rd.ty = some F →
          writes (.vrsq t d a) (rd.writes (xs.map fun x => (F.round mode flush false (F.read flush x).1.rsqrt.1 (F.read flush x).1.rsqrt.2.1).1)) ∧
          writes (.vrcp t d a) (rd.writes (xs.map fun x =>
            let q := Ex.div (.fin false 1 0) (F.read flush x).1
            (F.round mode flush false q.1 q.2.1).1))) ∧
        (A = any → writes (.vcpy t d a) (rd.writes xs ++
          if rd.ty = 9 then rd.writeScales ((s.view s.sel.ctx k .x).scales ra) else []))) ∧
      (RgnLegal k rd plain → AccessOk s k .x [] rd.ranges →
        writes (.vfill t d a) (rd.writes (List.replicate n ((src s k .x a).toNat % 2 ^ w)))) ∧
      (RgnLegal k rd plain → SrcLegal k ra plain n → (i = 0 ∨ rd.ty ≤ 4) → AccessOk s k .x ra.ranges rd.ranges →
        writes (.vcvt t d a i r) (rd.writes (xs.map fun x =>
          let m := if r = 0 then mode else RM.byNumber (r.toNat - 1)
          let z := r = 0 ∧ flush = true
          (convert rd.ty m (decide z) (i = 1) (elemValue ra.ty (decide z) x).1 0).1)))) ∧
    (CanIssue s k .x t none [d, a, b, b + 1] → RgnLegal k rd plain → SrcLegal k ra plain n → SrcLegal k rb plain n → SrcLegal k rp byte n →
      ra.ty = rd.ty → rb.ty = rd.ty → AccessOk s k .x ([ra, rb, rp].flatMap Rgn.ranges) rd.ranges →
      writes (.vsel t d a b i) (rd.writes (List.zipWith
        (fun xy p => if i = 0 then (if p ≠ 0 then xy.1 else xy.2) else if p ≠ 0 then xy.2 else xy.1)
        (xs.zip (elemsOf s k 1 n rb)) (elemsOf s k 2 n rp)))) ∧
    (CanIssue s k .x t none [d, a, b] → RgnLegal k rd byte → SrcLegal k ra isComputing n → SrcLegal k rb isComputing n → rb.ty = ra.ty →
      (ra.ty ≤ 2 → i = 0) → (5 ≤ ra.ty → c.toNat ≤ 5) → AccessOk s k .x ([ra, rb].flatMap Rgn.ranges) rd.ranges →
      writes (.vcmp t d a b i c) (rd.writes (List.zipWith (fun x y =>
        let u := (elemValue ra.ty flush x).1
        let v := (elemValue ra.ty flush y).1
        let lt := if i = 1 then decide (x < y) else u.lt v
        let gt := if i = 1 then decide (y < x) else v.lt u
        let un := u.isNan || v.isNan
        if [!lt && !gt && !un, lt || gt || un, lt, !gt && !un, gt, !lt && !un, un, !un].getD c.toNat false then 1 else 0)
        xs (elemsOf s k 1 n rb))))

/-- 05 R168, R169, R172 to R175, R179: the words that work on a region as a whole: reductions, scans, the partition, gather, scatter and the
permutations. The float sum is the tree of adjacent pairs, each node rounded to W48, and a last unpaired value passes up; the integer sum is
exact and clamped. The largest and smallest element are those that no element beats, -0 below +0, at the lowest index that holds one; a
NaN comes first. A scan applies its operation in index order, from the first element as read. Where an index lies outside the table the word
raises 0x08 and stores nothing. -/
def Obligations.VectorWholeRegion : Prop :=
  ∀ (s : State) (k : Ctx) (t : Tok) (d a b : Spec) (e : BitVec 1) (m : BitVec 6),
    let rd := Rgn.ofWord (src s k .x d)
    let ra := Rgn.ofWord (src s k .x a)
    let rb := Rgn.ofWord (src s k .x b)
    let n := rd.count
    let v := s.view s.sel.ctx k .x
    let xs := v.elems ra
    let fp : Fp := ⟨RM.byNumber (k.lt.sys.fpctl.toNat % 4), k.lt.sys.fpctl.getLsbD 2⟩
    let bytes (ty : Nat) : Bool := ty ≤ 6 || ty == 10 || ty == 11
    let index (ty : Nat) : Bool := ty == 10 || ty == 11
    let int32 (ty : Nat) : Bool := ty == 10
    let whole (ty : Nat) : Bool := ty != 9
    let writes (i : Instr) (ws : List (Nat × Byte × Byte)) : Prop := Accesses s k .x (exec i s) fun p => p.writes = ws
    (CanIssue s k .x t none [d, a] → RgnLegal k ra isComputing → 1 ≤ n → AccessOk s k .x ra.ranges { rd with count := 1 }.ranges →
      (RgnLegal k rd isComputing → isFloat ra.ty = isFloat rd.ty → writes (.vredSum t d a) (rd.write 0 (redSum ra.ty rd.ty xs).1)) ∧
      (RgnLegal k rd isComputing → ra.ty = rd.ty →
        writes (.vredMax t d a) (rd.write 0 (redPick true ra.ty fp.flush xs).1) ∧
        writes (.vredMin t d a) (rd.write 0 (redPick false ra.ty fp.flush xs).1)) ∧
      (RgnLegal k rd int32 →
        writes (.vredArgmax t d a) (rd.write 0 (redArg true ra.ty fp.flush xs).1) ∧
        writes (.vredArgmin t d a) (rd.write 0 (redArg false ra.ty fp.flush xs).1))) ∧
    (CanIssue s k .x t none [d, a] → RgnLegal k rd isComputing → RgnLegal k ra isComputing → ra.ty = rd.ty → ra.count = n →
      AccessOk s k .x ra.ranges rd.ranges →
      let moved (z : Nat) (ys : List Nat) : List Nat := if e = 1 then (z :: ys).take n else ys
      writes (.vscanSum t d a e) (rd.writes (moved 0 ((scanAll fAdd fp rd.ty xs).map (·.1)))) ∧
      writes (.vscanMax t d a e) (rd.writes (moved (extreme false rd.ty) ((scanAll fMax fp rd.ty xs).map (·.1)))) ∧
      writes (.vscanMin t d a e) (rd.writes (moved (extreme true rd.ty) ((scanAll fMin fp rd.ty xs).map (·.1))))) ∧
    (CanIssue s k .x t (some d) [a, b] → RgnLegal k ra whole → RgnLegal k rb int32 → rb.count = ra.count → k.xQuiet = true →
      AccessOk s k .x ra.ranges rb.ranges → Gives (exec (.part t d a b) s) fun u => ∃ (k' : Ctx) (p : Pend), u.ctx s.sel.ctx = some k' ∧
        k'.pends = k.pends ++ [p] ∧ (k'.strm .x).ready = s.cycle + 1 ∧ p.due = some (landAt s.cycle k .x (4 + (ra.count + 511) / 512)) ∧
        p.writes = rb.writes (((xs.zipIdx).filter fun x => x.1 ≠ 0).map (·.2) ++ ((xs.zipIdx).filter fun x => x.1 = 0).map (·.2)) ∧
        ∃ x : Flight, k'.lt.flights = k.lt.flights ++ [x] ∧ x.land = landAt s.cycle k .x (4 + (ra.count + 511) / 512) ∧ x.tgt = dstTarget k .x d ∧
          x.val.toNat = (xs.filter (· ≠ 0)).length % 2 ^ 64 ∧ x.q = true) ∧
    (CanIssue s k .x t none [d, a, b] → RgnLegal k rd bytes → RgnLegal k ra bytes → RgnLegal k rb index → ra.ty = rd.ty →
      AccessOk s k .x (rb.ranges ++ ra.ranges) rd.ranges →
      let is := ((v.at_ 1).elems rb).map fun x => (intOf rb.ty x).1
      let inside (count : Nat) : Prop := ∀ i ∈ is, 0 ≤ i ∧ i < count
      (rb.count = n → inside ra.count → writes (.vgath t d a b) (rd.writes (is.map fun i => xs.getD i.toNat 0))) ∧
      (rb.count = n → ¬inside ra.count → Raises s k .x 0x08 (exec (.vgath t d a b) s)) ∧
      (rb.count = ra.count → inside n →
        writes (.vscat t d a b) ((List.zipWith (fun (i : Int) x => rd.write i.toNat x) is xs).flatten)) ∧
      (rb.count = ra.count → ¬inside n → Raises s k .x 0x08 (exec (.vscat t d a b) s))) ∧
    (CanIssue s k .x t none [d, a] → RgnLegal k rd bytes → RgnLegal k ra bytes → ra.ty = rd.ty → ra.count = n →
      AccessOk s k .x ra.ranges rd.ranges →
      let places (i : Instr) (f : Nat → Nat) : Prop := writes i (rd.writes ((List.range n).map fun j => xs.getD (f j) 0))
      places (.vpermRev t d a) (fun j => n - 1 - j) ∧
      (n % 2 ^ m.toNat = 0 → places (.vpermTrn t d a m) fun j =>
        let rows := n / 2 ^ m.toNat
        j % rows * 2 ^ m.toNat + j / rows) ∧
      (n % 2 = 0 → places (.vpermZip t d a) (fun j => if j % 2 = 0 then j / 2 else n / 2 + j / 2) ∧
        places (.vpermUnzip t d a) (fun j => if j < n / 2 then 2 * j else 2 * (j - n / 2) + 1)) ∧
      places (.vpermRot t d a m) (fun j => (j + m.toNat) % n)) ∧
    (∀ (fp : Fp) (aty ty : Nat) (xs : List Nat), isComputing aty = true → isComputing ty = true → xs.length < 2 ^ 16 →
      let int (ty x : Nat) : Int :=
        if ty = 6 then (x : Int) % 2 ^ typeBits ty else ((x : Int) + 2 ^ (typeBits ty - 1)) % 2 ^ typeBits ty - 2 ^ (typeBits ty - 1)
      let lo : Int := if ty = 6 then 0 else -2 ^ (typeBits ty - 1)
      let hi : Int := if ty = 6 then 2 ^ typeBits ty - 1 else 2 ^ (typeBits ty - 1) - 1
      let wrap (i : Int) : Nat := (i % 2 ^ typeBits ty).toNat
      let value (flush : Bool) (x : Nat) : Ex := match fmtOf ty with
        | some F => (F.read flush x).1
        | none => Ex.ofInt (int ty x)
      (fmtOf ty = none → isFloat aty = false →
        let sum : Int := (xs.map (int aty)).foldr (· + ·) 0
        (redSum aty ty xs).1 = wrap (if sum < lo then lo else if hi < sum then hi else sum)) ∧
      (∀ A F, fmtOf aty = some A → fmtOf ty = some F →
        (xs = [] → (redSum aty ty xs).1 = 0) ∧
        ∀ L : Nat → List Ex, L 0 = xs.map (fun x => (A.read false x).1) →
          (∀ i j, ((L i)[2 * j]? = none → (L (i + 1))[j]? = none) ∧ ∀ u, (L i)[2 * j]? = some u →
            ((L i)[2 * j + 1]? = none → (L (i + 1))[j]? = some u) ∧
            ∀ v, (L i)[2 * j + 1]? = some v → (L (i + 1))[j]? = some (w48 (Ex.add false u v).1).1) →
          ∀ i u, L i = [u] → (redSum aty ty xs).1 = (F.round .rne false false u false).1) ∧
      (∀ big : Bool,
        let vs := xs.map (value fp.flush)
        let above (u v : Ex) : Bool := v.lt u || (v.eq u && v.sign && !u.sign)
        let beats (u v : Ex) : Bool := if big then above u v else above v u
        let enc (v : Ex) (x : Nat) : Nat := match fmtOf ty with
          | some F => (F.round .rne false false v false).1
          | none => x
        (∀ j, vs[j]? = some .nan → (∀ i < j, vs[i]? ≠ some .nan) →
          (redArg big ty fp.flush xs).1 = j ∧ ∀ F, fmtOf ty = some F → (redPick big ty fp.flush xs).1 = F.nan) ∧
        (.nan ∉ vs → ∀ j v, vs[j]? = some v → (∀ (i : Nat) (u : Ex), vs[i]? = some u → beats u v = false) →
          (∀ i u, i < j → vs[i]? = some u → beats v u = true) →
          (redArg big ty fp.flush xs).1 = j ∧ (redPick big ty fp.flush xs).1 = enc v (xs.getD j 0)) ∧
        (xs = [] → (redArg big ty fp.flush xs).1 = 2 ^ 32 - 1 ∧ (redPick big ty fp.flush xs).1 = extreme (!big) ty)) ∧
      (∀ top : Bool, extreme top ty = match fmtOf ty with
        | some F => (F.round .rne false false (.inf (!top)) false).1
        | none => wrap (if top then hi else lo)) ∧
      (let scans (f : Fun2) (op : Nat → Nat → Nat) : Prop :=
         let ys := (scanAll f fp ty xs).map (·.1)
         ys.length = xs.length ∧
         (∀ x, xs[0]? = some x → ys[0]? = some (match fmtOf ty with
           | some F => (F.round .rne false false (F.read fp.flush x).1 false).1
           | none => x)) ∧
         ∀ (i : Nat) (y x : Nat), ys[i]? = some y → xs[i + 1]? = some x → ys[i + 1]? = some (op y x)
       let op (ff : Ex → Ex → Ex) (fi : Int → Int → Int) (x y : Nat) : Nat := match fmtOf ty with
         | some F => (F.round fp.mode fp.flush false (ff (F.read fp.flush x).1 (F.read fp.flush y).1) false).1
         | none => wrap (fi (int ty x) (int ty y))
       scans fAdd (op (fun x y => (Ex.add (fp.mode == .rdn) x y).1) (· + ·)) ∧
       scans fMax (op Ex.max fun x y => if x ≤ y then y else x) ∧ scans fMin (op Ex.min fun x y => if x ≤ y then x else y)))

/-! The words that hand work to the engines, and the registers that X sets (05 R176 to R178, 06, 07, 08, 09) -/

/-- 07 R225 to R227, 08 R261, R262, R264: MMA, MMAT, MMAC, TCON and CPLAN at issue. With operands that the rules allow, a full tile register,
an armed barrier with room, a place in ret.mx and a queue that is not full, the operation joins the matrix queue with what it captured: formats,
masks, accumulator, mode, tag, barrier, number of blocks. A unit at or above the boundary buffer raises 0x15. -/
def Obligations.MatrixWordsQueue : Prop :=
  ∀ (s : State) (k : Ctx) (t : Tok) (n ta tb cb : BitVec 3) (fa fb cm : BitVec 1) (fsel : BitVec 4) (mode mk tsrc : BitVec 2)
      (tag : BitVec 8) (b : Spec),
    let entry : Option Word :=
      if fsel.toNat ≠ 15 then some k.lt.sys.ft[fsel.toNat]
      else
        let lvl := k.lt.sys.ftlink.toNat % 4
        if lvl = 3 then none
        else k.lt.sys.ft[((k.strm .x).index lvl + k.lt.sys.ftlink.toNat / 2 ^ 4 % 16) % (k.lt.sys.ftlink.toNat / 2 ^ 8 % 32)]?
    let free (reads : List (Nat × Bool)) : Prop := CbarOpen k cb.toNat ∧ RoomIn k .mx ∧ k.mats.length < 8 ∧ k.zeroing = false ∧
      ∀ r ∈ reads, (k.tile r.1).st = .full
    let book (fmt c : Nat) : Prop := fmt = 9 → k.bookBusy c = false ∧ (k.book c).loaded = true
    let low := n.toNat + cm.toNat + k.bndUnits < k.accCnt
    let queued (i : Instr) (kind : MatKind) (fits : Nat → Nat → Prop) (reads : List (Nat × Bool)) (blocks : Nat → Nat → Nat)
        (more : MatOp → Prop) : Prop :=
      ∀ e, entry = some e → e.toNat < 2 ^ 12 →
        let x := e.toNat % 16
        let y := e.toNat / 16 % 16
        fits x y → (mode = 2 → ¬(5 ≤ x ∧ x ≤ 8 ∧ 5 ≤ y ∧ y ≤ 8)) → book x (e.toNat / 2 ^ 8 % 4) → book y (e.toNat / 2 ^ 10) → free reads →
        (low → Settled s k → Queues s k .x (exec i s) fun k' => ∃ m : MatOp, k'.mats = k.mats ++ [m] ∧ m.kind = kind ∧ m.issued = s.cycle ∧ m.afmt = x ∧ m.bfmt = y ∧
          m.acc = n.toNat ∧ m.cm = decide (cm = 1) ∧ m.mode = mode.toNat ∧ m.tag = tag.toNat ∧ m.cb = cb.toNat ∧
          m.rowm = k.lt.rowmask[mk.toNat] ∧ m.colm = k.lt.colmask[mk.toNat] ∧ m.gamma = k.lt.sys.decay.setWidth 32 ∧ m.bind.nblk = blocks x y ∧
          m.bind.blk = 0 ∧ more m ∧ (k'.lt.cbar cb.toNat).members = (k.lt.cbar cb.toNat).members + 1 ∧
          (k'.lt.fifo .mx).res = (k.lt.fifo .mx).res + 1 ∧ (∀ j, (∀ r ∈ reads, r.1 ≠ j) → k'.tile j = k.tile j) ∧
          ∀ r ∈ reads, (k.tile r.1).readers < (k'.tile r.1).readers ∨ 8 ≤ r.1) ∧
        (¬low → Raises s k .x 0x15 (exec i s))
    let wide (x y : Nat) : Nat := if x = 1 ∨ x = 2 ∨ y = 1 ∨ y = 2 then 2 else 4
    let any (x y : Nat) : Prop := 1 ≤ x ∧ x ≤ 9 ∧ 1 ≤ y ∧ y ≤ 9
    (CanIssue s k .x t none [] →
      queued (.mma t n ta fa tb fb fsel mode cm mk cb tag) .mma any [(ta.toNat, decide (fa = 1)), (tb.toNat, decide (fb = 1))] wide
        (fun m => m.ta = ta.toNat ∧ m.tb = tb.toNat) ∧
      (tb.toNat < 7 → queued (.mmat t n ta fa tb fb fsel mode cm mk cb tag) .mmat (fun x y => x = 8 ∧ (y = 5 ∨ y = 6))
        [(ta.toNat, decide (fa = 1)), (tb.toNat, decide (fb = 1)), (tb.toNat + 1, decide (fb = 1))] (fun _ _ => 8)
        (fun m => m.ta = ta.toNat ∧ m.tb = tb.toNat))) ∧
    (CanIssue s k .x t none [b, b + 1] →
      let g0 := src s k .x b
      let g1 := src s k .x (b + 1)
      let o := SramTile.ofWords g0 g1
      let i := if tsrc = 0 then 0 else (k.strm .x).index (tsrc.toNat - 1)
      o.sizeOk = true → (∀ r < o.rows, k.lt.colmask[mk.toNat].getLsbD r = true → o.row i r % 16 = 0) →
      queued (.mmac t n ta fa b fsel mode cm mk cb tag tsrc) .mmac any [(ta.toNat, decide (fa = 1))] wide
        (fun m => m.ta = ta.toNat ∧ m.g0 = g0 ∧ m.g1 = g1 ∧ m.t = i)) ∧
    (∀ (d a : Spec) (l r nb fmt : BitVec 4) (fold vec : BitVec 1) (cbk : BitVec 2), CanIssue s k .x t none (d :: if vec = 1 then [a] else []) →
      let w := src s k .x d
      let bond (j : BitVec 4) : Nat := (k.lt.sys.bd[j.toNat]).toNat % 2 ^ 13
      let rg := Rgn.ofWord (src s k .x a)
      let reads : List (Nat × Bool) := if w.toNat / 2 ^ 62 = 2 then [(w.toNat % 8, w.getLsbD 3)] else []
      frameWordOk w fmt.toNat ((bond l * bond nb - 1) * (w.toNat / 2 ^ 50 % 2 ^ 12 + 1) + bond r - 1) = true →
      (fmt = 9 → k.bookBusy cbk.toNat = false) → free reads →
      (vec = 1 → RgnLegal k rg (· == 1) ∧ rg.count = bond nb ∧ AccessOk s k .x rg.ranges []) →
      Settled s k → Queues s k .x (exec (.tcon t d a l r nb fold vec fmt cbk cb tag) s) fun k' => ∃ m : MatOp, k'.mats = k.mats ++ [m] ∧ m.kind = .tcon ∧
        m.word = w ∧ m.tag = tag.toNat ∧ m.cb = cb.toNat ∧ m.bond m.l = bond l ∧ m.bond m.r = bond r ∧ m.bond m.nb = bond nb ∧
        m.foldCols = decide (fold = 1) ∧ m.vecMode = decide (vec = 1) ∧ m.ffmt = fmt.toNat ∧ m.fbk = cbk.toNat ∧
        (vec = 1 → m.vec = (s.view s.sel.ctx k .x).elems rg) ∧ m.step = 0 ∧ m.last = 1) ∧
    (∀ d a : Spec, CanIssue s k .x t none [d, a] →
      let w := src s k .x d
      let v := src s k .x a
      v.toNat % 2 ^ 16 < v.toNat / 2 ^ 16 % 2 ^ 16 → w.toNat / 2 ^ 62 ≤ 1 → w.toNat / 2 ^ 48 % 2 ^ 14 = 0 → w.toNat % 2 ^ 48 % 16 = 0 →
      (∀ j < 4, k.bookBusy j = false) → free [] →
      Settled s k → Queues s k .x (exec (.cplan t d a cb) s) fun k' => ∃ m : MatOp, k'.mats = k.mats ++ [m] ∧ m.kind = .cplan ∧ m.g0 = w ∧
        m.step = v.toNat % 2 ^ 16 ∧ m.last = v.toNat / 2 ^ 16 % 2 ^ 16 ∧ m.tag = v.toNat / 2 ^ 32 % 2 ^ 8 ∧ m.cb = cb.toNat)

/-- 09 R270 to R273, R281, R284, 05 R176 to R178: CRD, XFGO, VQUANT, VDEQ, CBLD and CBLD.CLR. With legal operands and a place in its FIFO each
issues and leaves its operation queued with what it captured; VQUANT and VDEQ leave their results as a pending access of the quantiser, or,
where a tile tag governs their bytes or one before them waits, an access that waits in it for its results (log entry 61); CBLD leaves an access
of its codebook. -/
def Obligations.EngineWordsQueue : Prop :=
  ∀ (s : State) (k : Ctx) (t : Tok) (d a b : Spec) (c : BitVec 2) (g : BitVec 4),
    let rgn (v : Spec) : Rgn := Rgn.ofWord (src s k .x v)
    let v := s.view s.sel.ctx k .x
    let f32 (ty : Nat) : Bool := ty == 0
    let bf (ty : Nat) : Bool := ty == 1
    let cb4 (ty : Nat) : Bool := ty == 9
    let n := (rgn d).count
    let ctl := src s k .x b
    let iters := ctl.toNat % 2 ^ 6
    let cordic (i : Instr) (func : Nat) (z : Bool) : Prop :=
      CanIssue s k .x t none ([d, d + 1, a, a + 1] ++ (if z then [a + 2] else []) ++ [b]) →
      RgnLegal k (rgn d) f32 → RgnLegal k (rgn (d + 1)) (fun ty => ty == 0 || (rgn (d + 1)).count == 0) →
      ((rgn (d + 1)).count = 0 ∨ (rgn (d + 1)).count = n ∧ func ≠ 4) → SrcLegal k (rgn a) f32 n → SrcLegal k (rgn (a + 1)) f32 n →
      (z = true → SrcLegal k (rgn (a + 2)) f32 n) →
      (4 ≤ iters → iters ≤ 40 → RoomIn k .cr → Settled s k → Queues s k .x (exec i s) fun k' => ∃ m : CrdOp, k'.crds = k.crds ++ [m] ∧ m.issued = s.cycle ∧
        m.func = func ∧ m.d0 = src s k .x d ∧ m.d1 = src s k .x (d + 1) ∧ m.s0 = src s k .x a ∧ m.s1 = src s k .x (a + 1) ∧
        (z = true → m.s2 = src s k .x (a + 2)) ∧ m.iters = iters ∧ m.tag = ctl.toNat / 2 ^ 8 % 2 ^ 8 ∧ m.fpctl = k.lt.sys.fpctl ∧
        m.bind.nblk = (n + 127) / 128 ∧ (k'.lt.fifo .cr).res = (k.lt.fifo .cr).res + 1) ∧
      (¬(4 ≤ iters ∧ iters ≤ 40) → Raises s k .x 0x02 (exec i s)) ∧
      (4 ≤ iters → iters ≤ 40 → ¬RoomIn k .cr → Raises s k .x 0x0F (exec i s))
    cordic (.crdRot t d a b) 0 true ∧ cordic (.crdVec t d a b) 1 false ∧ cordic (.crdHrot t d a b) 2 true ∧
    cordic (.crdHvec t d a b) 3 false ∧ cordic (.crdLin t d a b) 4 false ∧
    (CanIssue s k .x t none [a, b] → k.xf = [] → k.xfRun = none → s.running s.sel.ctx = false → k.xfFault = false →
      let go := (src s k .x a).toNat
      (RoomIn k .tx → Settled s k → Queues s k .x (exec (.xfgo t a b) s) fun k' => ∃ q : XfReq, k'.xf = [q] ∧ q.cycle = s.cycle ∧ q.start = go % 2 ^ 10 ∧
        q.tag = go / 2 ^ 16 % 2 ^ 8 ∧ q.sa0 = ctl.setWidth 32 ∧ (k'.lt.fifo .tx).res = (k.lt.fifo .tx).res + 1) ∧
      (¬RoomIn k .tx → Raises s k .x 0x0F (exec (.xfgo t a b) s))) ∧
    (CanIssue s k .x t none [d, a] → (rgn a).count = n → k.bookBusy c.toNat = false → k.zeroing = false →
      rangesMeet ((rgn a).ranges ++ (rgn d).ranges) k.crdRanges = false →
      let direct := (k.governing (rgn a).ranges (rgn d).ranges).isNone = true ∧ ∀ q ∈ k.quants, q.waits = false
      let queued (i : Instr) (post : Bool) (tag : Nat) (ws : List (Nat × Byte × Byte)) : Prop :=
        let leaves (waits : Bool) (ws : List (Nat × Byte × Byte)) : Prop := Settled s k → Queues s k .x (exec i s) fun k' => ∃ (p : Pend) (m : QuantOp),
          k'.pends = k.pends ++ [p] ∧ p.quant = true ∧ p.writes = ws ∧ k'.quants = k.quants ++ [m] ∧ m.issued = s.cycle ∧ m.post = post ∧ m.tag = tag ∧
          m.ord = p.ord ∧ m.bind.nblk = n / 32 ∧ m.waits = waits ∧ m.src = src s k .x a ∧ m.dst = src s k .x d ∧ m.book = k.book c.toNat
        ((k.book c.toNat).loaded = true → (direct → s.spMarks s.sel.ctx k (rgn a).ranges = [] → leaves false ws) ∧ (¬direct → leaves true [])) ∧
        ((k.book c.toNat).loaded = false → Raises s k .x 0x1A (exec i s))
      (RgnLegal k (rgn d) cb4 → RgnLegal k (rgn a) isFloat → RoomIn k .mx → queued (.vquant t d a c g) true g.toNat
        (let bs := quantBlocks (k.book c.toNat) (n / 32) 0 ((v.elems (rgn a)).map fun x => elemValue (rgn a).ty false x)
         (rgn d).writes ((bs.flatMap (·.2)).map (·.1)) ++ (rgn d).writeScales (bs.map (·.1)))) ∧
      (RgnLegal k (rgn d) isFloat → RgnLegal k (rgn a) cb4 → queued (.vdeq t d a c) false 0
        ((rgn d).writes (((v.elems (rgn a)).zipIdx).map fun x =>
          let scale := bf16.decode ((v.scales (rgn a)).getD (x.2 / 32) 0)
          let entry := bf16.decode ((k.book c.toNat).v.getD x.1 0).toNat
          (convert (rgn d).ty .rne false false (Ex.mul entry scale).1 0).1)))) ∧
    (CanIssue s k .x t none [a] → k.bookBusy c.toNat = false → RgnLegal k (rgn a) bf → AccessOk s k .x (rgn a).ranges [] →
      ((rgn a).count = 16 → Accesses s k .x (exec (.cbld t c a) s) fun p =>
        p.book = some (c.toNat, true, (v.elems (rgn a)).map (BitVec.ofNat 16)) ∧ p.writes = []) ∧
      ((rgn a).count ≠ 16 → Raises s k .x 0x02 (exec (.cbld t c a) s))) ∧
    (CanIssue s k .x t none [] → k.bookBusy c.toNat = false → AccessOk s k .x [] [] →
      Accesses s k .x (exec (.cbldClr t c) s) fun p => p.book = some (c.toNat, false, List.replicate 16 0) ∧ p.writes = [])

/-- 03 R99, 06 R245, 07 R220, 08 R249, R267, R268: PSET of L, X and S, MASK, FTSEL and BDSET. PSET, the masks, the format link and the bond
registers change one cycle later; the boundary's forms leave one access pending, with the boundary and shape that it gives. -/
def Obligations.XRegisterWords : Prop :=
  ∀ (s : State) (k : Ctx) (t : Tok) (d a b : Spec) (m : BitVec 2) (col : BitVec 1) (n : BitVec 4) (p : BitVec 3) (c : BitVec 4),
    let v := src s k .x a
    let r := Rgn.ofWord v
    let rd := Rgn.ofWord (src s k .x d)
    let w := (src s k .x d).toNat
    let view := s.view s.sel.ctx k .x
    let sends (i : Instr) (tgt : Target) (x : Word) : Prop := Sends s k .x 1 tgt x (pushesOf .x t) (exec i s)
    let fp32Only (ty : Nat) : Bool := ty == 0
    let fp32OrBf16 (ty : Nat) : Bool := ty == 0 || ty == 1
    let bytes (ty : Nat) : Bool := ty == 6
    (CanIssue s k s.sel.st t none [a, b] → c.toNat < 12 →
      DeliversPred s k s.sel.st t p.toNat
        (let x := src s k s.sel.st a
         let y := src s k s.sel.st b
         [decide (x = y), decide (x ≠ y), decide (x.toInt < y.toInt), decide (x.toNat < y.toNat), decide (x.toInt ≤ y.toInt),
          decide (x.toNat ≤ y.toNat), decide (y.toInt < x.toInt), decide (y.toNat < x.toNat), decide (y.toInt ≤ x.toInt),
          decide (y.toNat ≤ x.toNat), decide (x &&& y ≠ 0), decide (x &&& y = 0)].getD c.toNat false)
        (exec (.lxsPset t p a b c) s)) ∧
    (CanIssue s k .x t none [a] →
      (let first := v.toNat % 2 ^ 7
       let len := v.toNat / 2 ^ 8 % 2 ^ 8
       (first + len ≤ 128 → ∃ x : BitVec 128, sends (.maskRange t m a col) (.mask m.toNat (decide (col = 1)) x) 0 ∧
         ∀ j < 128, x.getLsbD j = decide (first ≤ j ∧ j < first + len)) ∧
       (128 < first + len → Raises s k .x 0x02 (exec (.maskRange t m a col) s))) ∧
      (RgnLegal k r bytes → r.count = 16 → k.xQuiet = true → AccessOk s k .x r.ranges [] →
        Gives (exec (.maskRegion t m a col) s) fun u => ∃ (k' : Ctx) (x : Flight), u.ctx s.sel.ctx = some k' ∧ (k'.strm .x).ready = s.cycle + 1 ∧
          k'.lt.flights = k.lt.flights ++ [x] ∧ x.land = landAt s.cycle k .x 1 ∧
          ∃ y : BitVec 128, x.tgt = .mask m.toNat (decide (col = 1)) y ∧
            ∀ j < 128, y.getLsbD j = ((view.elems r).getD (j / 8) 0).testBit (j % 8)) ∧
      (let len := v.toNat / 2 ^ 8 % 2 ^ 5
       (v.toNat % 4 = 3 ∨ 1 ≤ len ∧ len ≤ 16 → sends (.ftsel t a) .ftlink (v &&& 0x1FF3)) ∧
       (v.toNat % 4 ≠ 3 → len = 0 ∨ 16 < len → Raises s k .x 0x02 (exec (.ftsel t a) s))) ∧
      (1 ≤ v.toNat → v.toNat ≤ 4096 → sends (.bdset t n a) (.bond n.toNat) v) ∧
      (v.toNat = 0 ∨ 4096 < v.toNat → Raises s k .x 0x02 (exec (.bdset t n a) s))) ∧
    (k.bndReady = true →
      let room (per : Nat) : Prop := 1 ≤ w ∧ r.count % (per * w) = 0 ∧ r.count / per ≤ capacity k.lt.sys.bndcap
      let gives (i : Instr) (bnd : Option (List (W32 × W32))) (shape : Word) : Prop :=
        Accesses s k .x (exec i s) fun q => q.bnd = some (bnd, shape) ∧ q.boundary = true ∧ q.writes = []
      let elems := view.elems r
      (CanIssue s k .x t none [d, a] → AccessOk s k .x r.ranges [] →
        (RgnLegal k r fp32OrBf16 → room 1 → gives (.bdsetLd t d a)
          (some (elems.map fun x => ((rne32 (elemValue r.ty false x).1).1, 0))) (shapeWord (r.count / w) w k.lt.sys.bndshape)) ∧
        (RgnLegal k r fp32Only → room 2 → gives (.bdsetLdw t d a)
          (some ((List.range (r.count / 2)).map fun j => (BitVec.ofNat 32 (elems.getD (2 * j) 0), BitVec.ofNat 32 (elems.getD (2 * j + 1) 0))))
          (shapeWord (r.count / 2 / w) w k.lt.sys.bndshape)) ∧
        (RgnLegal k r fp32OrBf16 → 1 ≤ w → r.count % w = 0 → capacity k.lt.sys.bndcap < r.count →
          Raises s k .x 0x0B (exec (.bdsetLd t d a) s))) ∧
      (CanIssue s k .x t none [d] → AccessOk s k .x [] rd.ranges → k.lt.sys.bndshape.getLsbD 48 = true → s.bndMarks s.sel.ctx k = [] →
        (RgnLegal k rd fp32OrBf16 → rd.count = k.bnd.length → Accesses s k .x (exec (.bdsetSt t d) s) fun q =>
          q.writes = rd.writes (k.bnd.map fun x =>
            (convert rd.ty .rne false false (Ex.add false (val32 x.1) (val32 x.2)).1 0).1)) ∧
        (RgnLegal k rd fp32Only → rd.count = 2 * k.bnd.length → Accesses s k .x (exec (.bdsetStw t d) s) fun q =>
          q.writes = rd.writes (k.bnd.flatMap fun x => [x.1.toNat, x.2.toNat]))) ∧
      (CanIssue s k .x t none [] → AccessOk s k .x [] [] →
        gives (.bdsetAck t) none (k.lt.sys.bndshape &&& 0x0001FFFFFFFFFFFF) ∧ gives (.bdsetClr t) (some []) 0))

/-- 07 R216, R218, R239 to R243: ACCRD, APEEK, ACCWR and ACCZ. They name the elements that no mask leaves out, in row-major order, and units below
the boundary buffer (0x15 otherwise). ACCRD and APEEK leave an access that writes the elements to a region, ACCWR and ACCZ one that writes
the accumulator; ACCRD, ACCWR and ACCZ wait until the units are full, APEEK does not, and shows the store, with what X's accesses before it are
still to write, while nothing folds into it. -/
def Obligations.AccumulatorWords : Prop :=
  ∀ (s : State) (k : Ctx) (t : Tok) (d a : Spec) (m : BitVec 2) (c i sat v : BitVec 1) (n : BitVec 3),
    let els := (List.range (128 * 128)).filterMap fun e =>
      if k.lt.rowmask[m.toNat].getLsbD (e / 128) && k.lt.colmask[m.toNat].getLsbD (e % 128) then some (e / 128, e % 128) else none
    let us := if c = 1 then [n.toNat, n.toNat + 1] else [n.toNat]
    let low := n.toNat + c.toNat + k.bndUnits < k.accCnt
    let rd := Rgn.ofWord (src s k .x d)
    let ra := Rgn.ofWord (src s k .x a)
    let size := (if v = 1 ∧ c = 1 then 2 else 1) * els.length
    let types (ty : Nat) : Bool := if v = 1 then (if i = 1 then ty == 10 else ty == 0) else ty != 9
    let tysIn (ty : Nat) : Bool := if v = 1 ∨ i = 0 then types ty else ty == 5 || ty == 6 || ty == 7 || ty == 8 || ty == 10 || ty == 11
    let idx (u : Nat) (x : Nat × Nat) : Nat := (k.accBase + u) * 16384 + 128 * x.1 + x.2
    let acc := (s.core (coreOf s.sel.ctx)).acc
    let stored (u : Nat) (x : Nat × Nat) : W32 := (Sparse.get acc (idx u x)).getD 0
    let pair (x : Nat × Nat) : W32 × W32 := (stored n.toNat x, if c = 1 then stored (n.toNat + 1) x else 0)
    let seen (u : Nat) (x : Nat × Nat) : W32 := match (k.pends.flatMap (·.accw)).reverse.find? fun w => w.1 == idx u x with
      | some w => w.2
      | none => stored u x
    let seenPair (x : Nat × Nat) : W32 × W32 := (seen n.toNat x, if c = 1 then seen (n.toNat + 1) x else 0)
    let outs (ws : List (W32 × W32)) : List Nat := ws.flatMap fun x => (accOut rd.ty (v = 1) (i = 1) (c = 1) (sat = 1) x).1
    let xs := (s.view s.sel.ctx k .x).elems ra
    let ws : List (W32 × W32) :=
      if v = 0 then xs.map fun x => (accIn ra.ty (i = 1) (c = 1) x).1
      else if c = 0 then xs.map fun x => (BitVec.ofNat 32 x, 0)
      else (List.range els.length).map fun j => (BitVec.ofNat 32 (xs.getD (2 * j) 0), BitVec.ofNat 32 (xs.getD (2 * j + 1) 0))
    let legalOut := RgnLegal k rd types ∧ rd.count = size ∧ (v = 1 ∨ sat = 0 ∨ rd.ty ≤ 4)
    (CanIssue s k .x t none [d] → legalOut →
      (low → s.accMarks s.sel.ctx k us els = [] → AccessOk s k .x [] rd.ranges →
        (k.unitsFull us = true → Accesses s k .x (exec (.accrd t d m c n i sat v) s) fun p => p.writes = rd.writes (outs (els.map pair)) ∧ p.units = us) ∧
        (k.unitsFull us = false → exec (.accrd t d m c n i sat v) s = .next s) ∧
        Accesses s k .x (exec (.apeek t d m c n i sat v) s) fun p => p.units = us ∧
          (k.mats = [] → p.writes = rd.writes (outs (els.map seenPair)))) ∧
      (¬low → Raises s k .x 0x15 (exec (.accrd t d m c n i sat v) s) ∧ Raises s k .x 0x15 (exec (.apeek t d m c n i sat v) s))) ∧
    (CanIssue s k .x t none [a] →
      (low → RgnLegal k ra tysIn → ra.count = size → k.unitsFull us = true → AccessOk s k .x ra.ranges [] →
        Accesses s k .x (exec (.accwr t m c n a i v) s) fun p => p.writes = [] ∧ p.units = us ∧
          p.accw = (us.zipIdx).flatMap fun u => List.zipWith (fun x y => (idx u.1 x, if u.2 = 0 then y.1 else y.2)) els ws) ∧
      (¬low → Raises s k .x 0x15 (exec (.accwr t m c n a i v) s))) ∧
    (CanIssue s k .x t none [] →
      (low → k.unitsFull us = true → AccessOk s k .x [] [] → Accesses s k .x (exec (.accz t m c n) s) fun p => p.writes = [] ∧ p.units = us ∧
        p.accw = us.flatMap fun u => els.map fun x => (idx u x, (0 : W32))) ∧
      (low → k.unitsFull us = false → exec (.accz t m c n) s = .next s) ∧
      (¬low → Raises s k .x 0x15 (exec (.accz t m c n) s)))

/-- 07 R213, R221 to R224: LDT, LDTC, STT and STTC. A load takes an empty register (with the wait option also a full one without readers)
and waits otherwise; it leaves the register loading and one access pending with the bytes to come. A store takes a full register, which
it reads, and drains with the free option. A region of bytes is a multiple of 128 long, 16384 at most. -/
def Obligations.TileMoves : Prop :=
  ∀ (s : State) (k : Ctx) (t : Tok) (d a b : Spec) (n : BitVec 3) (w f : BitVec 1),
    let v := s.view s.sel.ctx k .l
    let bytes (ty : Nat) : Bool := ty == 6
    let tile := k.tile n.toNat
    let may := tile.st = .empty ∨ w = 1 ∧ tile.st = .full ∧ tile.readers = 0
    let sized (r : Rgn) : Prop := RgnLegal k r bytes ∧ r.count % 128 = 0 ∧ r.count ≤ 16384
    let loads (i : Instr) (data : Memory) : Prop :=
      (may → Gives (exec i s) fun u => ∃ (k' : Ctx) (p : Pend), u.ctx s.sel.ctx = some k' ∧ (k'.strm .l).ready = s.cycle + 1 ∧ k'.pends = k.pends ++ [p] ∧
        p.strm = .l ∧ p.load = some (n.toNat, data) ∧ p.writes = [] ∧ (k'.tile n.toNat).st = .loading ∧ u.mem = s.mem ∧ u.cores = s.cores) ∧
      (¬may → exec i s = .next s)
    let stores (i : Instr) (P : Pend → Prop) : Prop :=
      (tile.st = .full → Gives (exec i s) fun u => ∃ (k' : Ctx) (p : Pend), u.ctx s.sel.ctx = some k' ∧ (k'.strm .s).ready = s.cycle + 1 ∧
        k'.pends = k.pends ++ [p] ∧ p.strm = .s ∧ p.reads = [(n.toNat, decide (f = 1))] ∧ (k'.tile n.toNat).readers = tile.readers + 1 ∧
        (k'.tile n.toNat).st = (if f = 1 then .draining else .full) ∧ (k'.tile n.toNat).data = tile.data ∧ u.mem = s.mem ∧ u.cores = s.cores ∧
        P p) ∧
      (tile.st ≠ .full → exec i s = .next s)
    let rows (o : SramTile) : List Nat := List.range o.rows
    let legal (o : SramTile) (i : Nat) : Prop := 1 ≤ o.rows ∧ o.rows ≤ 128 ∧ 1 ≤ o.cols ∧ o.cols ≤ 128 ∧
      ∀ r < o.rows, o.row i r % 16 = 0 ∧ s.sramOk k.slice (o.row i r) o.cols = true
    (CanIssue s k .l t none [a] →
      let r := Rgn.ofWord (src s k .l a)
      sized r → AccessOk s k .l r.ranges [] → loads (.ldt t n a w) (cellsAt 0 ((v.elems r).map (BitVec.ofNat 8)))) ∧
    (CanIssue s k .l t none [a, b, b + 1] → k.zeroing = false →
      let o := SramTile.ofWords (src s k .l b) (src s k .l (b + 1))
      let i := (src s k .l a).toNat
      legal o i → loads (.ldtc t n a b w)
        (cellsAt 0 ((rows o).flatMap fun r => s.sramSeen k (o.row i r) o.cols ++ List.replicate (128 - o.cols) 0))) ∧
    (CanIssue s k .s t none [d] →
      let r := Rgn.ofWord (src s k .s d)
      sized r → AccessOk s k .s [] r.ranges → s.tileMarks s.sel.ctx n.toNat 0 r.count = [] →
      stores (.stt t d f n) fun p => p.writes = r.writes ((tile.data.read 0 r.count).map (·.toNat))) ∧
    (CanIssue s k .s t none [d, b, b + 1] → k.zeroing = false →
      let o := SramTile.ofWords (src s k .s b) (src s k .s (b + 1))
      let i := (src s k .s d).toNat
      legal o i → (∀ r < o.rows, s.tileMarks s.sel.ctx n.toNat (128 * r) (128 * r + o.cols) = []) → stores (.sttc t d f n b) fun p => p.writes = [] ∧
        p.sram = (rows o).flatMap fun r => s.sramWrites k.slice (o.row i r) (tile.data.read (128 * r) o.cols))

/-- 10 R305, R308 to R312, R321: CFETCH, CQFETCH, CSTORE, CSEND and EPUSH. With a slot that fits the command, aligned addresses inside the
partition and the slice's SRAM, a place in ret.co, and an acquire-release atomic before it that can take effect (11 R331), the command joins its
slot's queue, complete for its tokens at once (R312); its destination gets the postmark 2 cycles later (6 for EPUSH), the first cycle from which the
command is promised complete. -/
def Obligations.CourierWordsQueue : Prop :=
  ∀ (s : State) (k : Ctx) (t : Tok) (d a b : Spec) (slot : BitVec 6) (tag : BitVec 8) (seed codec cbk kd : BitVec 2)
      (cmp nt bf : BitVec 1) (size : BitVec 12),
    let queued (i : Instr) (st : Strm) (kind : CmdKind) (w : CmdWord) (ga gb gc : Word) (lat : Nat) : Prop :=
      let e : Env := issueEnv s k st t []
      let c := Cmd.new e kind w ga gb gc
      let sl := k.slotOf w.slot
      let far := ga.toNat % 2 ^ 48
      let near := gb.toNat % 2 ^ 24
      let space := ga.toNat / 2 ^ 62
      let begins := Nat.max (s.cycle + 8) (k.free[w.slot]?.getD 0)
      let when_ := schedule sl begins (c.wire c.nearLen)
      space ≤ 1 → (kind = .send → space = 0 ∧ k.paired = false) → c.sizesOk = true → s.slotMatches s.sel.ctx k sl c = true → near % 16 = 0 → far % 16 = 0 →
      (kind = .qfetch → (k.book w.cbk).loaded = true) → (w.seed = 3 → k.seeded w.slot = true) →
      (near + c.nearLen ≤ k.spSize → (space = 1 → s.sramOk k.slice far c.farLen = true) →
        (RoomIn k .co → k.queuedCmds < 16 → Settled s k → Gives (exec i s) fun u => ∃ (k' : Ctx) (q : Cmd) (x : Flight), u.ctx s.sel.ctx = some k' ∧ (k'.strm st).ready = s.cycle + 1 ∧
          k'.cmds = k.cmds ++ [q] ∧ q.kind = kind ∧ q.slot = w.slot ∧ q.tag = w.tag ∧ q.space = space ∧ q.far = far ∧ q.near = near ∧
          q.len = gb.toNat / 2 ^ 24 % 2 ^ 24 ∧ q.first = when_.1 ∧ q.postmark = when_.2.2 ∧ k'.free = k.free.setIfInBounds w.slot when_.2.1 ∧
          k'.lt.flights = k.lt.flights ++ [x] ∧ x.land = landAt s.cycle k st lat ∧ x.tgt = dstTarget k st d ∧
          x.val = BitVec.ofNat 64 q.postmark ∧ x.push = [] ∧ (k.lt.frame = none → ∀ c : Ctr,
            (k'.lt.ctr c).vis + (if c ∈ popsOf st t then 1 else 0) = (k.lt.ctr c).vis + (if c ∈ pushesOf st t then 1 else 0)) ∧ (k'.lt.fifo .co).res = (k.lt.fifo .co).res + 1 ∧ (k.atoms = [] → u.mem = s.mem)) ∧
        (¬RoomIn k .co → Raises s k st 0x0F (exec i s))) ∧
      (k.spSize < near + c.nearLen → Raises s k st 0x08 (exec i s))
    let word (st : Strm) (i : Instr) (kind : CmdKind) (w : CmdWord) : Prop :=
      let uses := w.seed = 2 ∨ w.cmp = true
      CanIssue s k st t (some d) ([a, a + 1] ++ if uses then [b] else []) →
      queued i st kind w (src s k st a) (src s k st (a + 1)) (if uses then src s k st b else 0) 2
    word .l (.cfetch t d a b slot tag seed cmp codec size nt) .fetch
      ⟨slot.toNat, tag.toNat, seed.toNat, decide (cmp = 1), decide (codec ≠ 0), size.toNat, false, 0, decide (nt = 1)⟩ ∧
    word .l (.cqfetch t d a b slot tag seed cmp bf cbk nt) .qfetch
      ⟨slot.toNat, tag.toNat, seed.toNat, decide (cmp = 1), false, 0, decide (bf = 1), cbk.toNat, decide (nt = 1)⟩ ∧
    word .s (.cstore t d a b slot tag seed cmp codec size nt) .store
      ⟨slot.toNat, tag.toNat, seed.toNat, decide (cmp = 1), decide (codec ≠ 0), size.toNat, false, 0, decide (nt = 1)⟩ ∧
    word .s (.csend t d a b slot tag seed cmp nt) .send
      ⟨slot.toNat, tag.toNat, seed.toNat, decide (cmp = 1), false, 0, false, 0, decide (nt = 1)⟩ ∧
    (t = 0 → CanIssue s k .c 0 (some d) [a] →
      let off := (src s k .c a).toNat
      let v := s.view s.sel.ctx k .c
      let word (j : Nat) : Word := BitVec.ofNat 64 (leNat (v.bytes j (off + 8 * j) 8))
      let kind := [CmdKind.fetch, .qfetch, .store, .send].getD kd.toNat .send
      OffOk k off 32 → AccessOk s k .c [(off, off + 32)] [] →
      ∀ w, CmdWord.ofBlock kind (word 3) = some w → queued (.epush d a kd) .c kind w (word 0) (word 1) (word 2) 6)

/-! Results and accesses that complete (03 R71 to R76, 05 R151 to R158) -/

/-- 03 R71, R74 to R76: RESULT_LANDING. One result that is due alone goes to the destination fixed at issue and, where it enters q, to q0, the
older entries moving down; its tokens become visible; nothing else of the stream's files changes, and no other stream's. Results that are not due
stay in flight. -/
def Obligations.ResultsLand : Prop :=
  ∀ (s : State) (id : Nat) (k : Ctx), s.ctx id = some k → k.res = .resident → k.lt.hold ≠ .saving →
    (∀ f before after, k.lt.flights = before ++ f :: after → f.land ≤ s.cycle → (∀ g ∈ before ++ after, s.cycle < g.land) →
      Gives (exec (.resultLanding id) s) fun t => t.mem = s.mem ∧ t.cores = s.cores ∧ ∃ k' : Ctx, t.ctx id = some k' ∧
        k'.lt.flights = before ++ after ∧
        (let ss := k.strm f.strm
         let ss' := k'.strm f.strm
         (∀ n < 32, ss'.g[n]? = if f.tgt = .g n then some f.val else ss.g[n]?) ∧
         (∀ n < 8, ss'.o[n]? = if f.tgt = .o n then some f.val else ss.o[n]?) ∧
         (∀ n < 8, ss'.p[n]? = if f.tgt = .pred n then some (decide (f.val ≠ 0)) else ss.p[n]?) ∧
         (∀ n < 16, ss'.q[n]? = if f.q then (if n = 0 then some f.val else ss.q[n - 1]?) else ss.q[n]?)) ∧
        (∀ st, st ≠ f.strm → k'.strm st = k.strm st) ∧
        (∀ p : Pipe, k'.lt.pipe p = k.lt.pipe p ++ if f.tgt = .pipe p then [f.val] else []) ∧
        (∀ n < 8, f.tgt = .cbar n → ((k'.lt.cbar n).phase = if f.val.toNat % 2 ^ 8 = 0 then .complete else .armed) ∧
          (k'.lt.cbar n).count = f.val.toNat % 2 ^ 8) ∧
        (∀ n, f.tgt = .spill n → (Sparse.get k'.lt.spill n).getD 0 = f.val) ∧
        (∀ n < 8, f.tgt = .token n → k.lt.owed[n]?.getD 0 = 0 → k'.lt.tk[n]? = some ((k.lt.tk[n]?.getD 0) + 1)) ∧
        (k.lt.frame = none → f.push.Nodup → ∀ c : Ctr, k'.lt.ctr c =
          if c ∈ f.push then ⟨(k.lt.ctr c).vis + 1, (k.lt.ctr c).res - 1⟩ else k.lt.ctr c)) ∧
    ((∀ f ∈ k.lt.flights, s.cycle < f.land) → exec (.resultLanding id) s = .next s)

/-- 05 R151 to R153, R158: REGION_COMPLETE of the oldest access of its stream. A byte of the core's scratchpad that it does not write is as
before; a byte that it writes once takes the written bits under their mask; the accumulator words that it does not write are as
before; it is no longer pending, and no other core changes. An access that is not the oldest of its stream, or not due, stays; those of X's
quantiser operations hold back no other (05 R161), and neither does one that only reads, in a cycle of its own (an LDS, 11 R342). The accesses still pending are as before unless writers that nothing orders contend with it
(05 R154). In a turn in which an access under way, or the batch of the CORDIC unit, sees what has been written since it read (the model's choice
of log entry 7), it takes what its word leaves over that view; the state of the package is as before but for its context, and the accesses
pending there are the same, with their tags. -/
def Obligations.RegionCompletes : Prop :=
  (∀ (s : State) (id n : Nat) (k : Ctx) (p : Pend), s.ctx id = some k → k.pends[n]? = some p → p.quant = false → p.load = none → p.reads = [] →
    let oldest := ∀ q ∈ k.pends.take n, q.strm = p.strm → q.quant = true ∨ q.due ≠ none ∧ q.writes = []
    let due := ∀ c, p.due = some c → c ≤ s.cycle
    let core := coreOf id
    let sp := (s.core core).sp
    (oldest → due → Gives (exec (.regionComplete id n) s) fun t => t.mem = s.mem ∧ (∀ c, c ≠ core → t.core c = s.core c) ∧
      (∃ k' : Ctx, t.ctx id = some k' ∧ k'.pends.map (·.ord) = (k.pends.eraseIdx n).map (·.ord) ∧
        (k.contended (some p.strm) = false → k'.pends = k.pends.eraseIdx n)) ∧
      (∀ a, (∀ w ∈ p.writes, k.spBase + w.1 ≠ a) → (t.core core).sp.get a = sp.get a) ∧
      (∀ before w after, p.writes = before ++ w :: after → (∀ x ∈ before ++ after, x.1 ≠ w.1) → ∀ b < 8,
        ((t.core core).sp.get (k.spBase + w.1)).getLsbD b = if w.2.2.getLsbD b then w.2.1.getLsbD b else (sp.get (k.spBase + w.1)).getLsbD b) ∧
      (∀ i, (∀ w ∈ p.accw, w.1 ≠ i) → Sparse.get (t.core core).acc i = Sparse.get (s.core core).acc i) ∧ (p.sram = [] → t.clusters = s.clusters)) ∧
    (¬(oldest ∧ due) → exec (.regionComplete id n) s = .next s)) ∧
  (∀ (s : State) (id n : Nat) (k : Ctx), s.ctx id = some k → Gives (takeTurn (.again id n) s) fun t => t.mem = s.mem ∧ t.cores = s.cores ∧
    t.clusters = s.clusters ∧ t.cycle = s.cycle ∧ (∀ c, c ≠ id → t.ctx c = s.ctx c) ∧ ∃ k' : Ctx, t.ctx id = some k' ∧
      k'.pends.map (fun p => (p.strm, p.ord, p.wtags, p.rtags)) = k.pends.map (fun p => (p.strm, p.ord, p.wtags, p.rtags)) ∧
      (∀ p l w r free, k.pends[n]? = some p → p.quant = false → p.again = some l → p.saw = some w →
        (∀ q ∈ k.pends.drop (n + 1), q.strm = p.strm → q.quant = true) → s.issuedAgain id k p l w = some (r, [], free) →
        ∃ p', k'.pends[n]? = some p' ∧ p'.writes = r.writes ∧ p'.load = r.load ∧ p'.accw = r.accw ∧ p'.book = r.book) ∧
      (∀ p w q rest, k.pends[n]? = some p → p.quant = true → p.saw = some w → k.quants = q :: rest → q.ord = p.ord → q.waits = false → q.fault = 0 →
        ∃ p', k'.pends[n]? = some p' ∧ p'.writes =
          (q.run (s.viewSince id { k with pends := k.pends.eraseIdx n } .x p.ord w)).1) ∧
      (∀ c rest b, k.pends.length ≤ n → k.crds = c :: rest → c.ahead = some b → b.bad = false → ∃ c' b', k'.crds = c' :: rest ∧ c'.ahead = some b' ∧
        b'.writes = (c.runBatch (s.viewSince id { k with crds := rest } .x c.ord b.saw)
          (c.batch c.bind.blk)).1))

/-! The transform sequencer (09 R282 to R298) -/

/-- 09 R285, R287 to R294, R298: the words of a run. Each writes its register or work register, or the scratchpad, and the run
goes on at the next word, or at the first word of a loop that ends there and has passes left; no word of device memory changes. A word of the
boundary codec takes ceil(D / 64) + 16 cycles, and has its effect in the last of them; what a reduce
writes to cluster SRAM stands there from the end of the run on. TXHALT ends the run and posts its entry to ret.tx. -/
def Obligations.SequencerWords : Prop :=
  ∀ (s : State) (k : Ctx) (r : SeqRun), s.ctx s.sel.ctx = some k → (s.core (coreOf s.sel.ctx)).seq.run = some r →
    ∀ (d a b : BitVec 2) (x y z : BitVec 4) (i22 : BitVec 22) (i18 : BitVec 18) (len size : BitVec 12) (cnt : BitVec 7) (sat : BitVec 1) (n : BitVec 3),
    let core := coreOf s.sel.ctx
    let sp := (s.core core).sp
    let runs (i : Instr) (r' : SeqRun) : Prop := Gives (exec i s) fun t => (t.core core).seq.run = some r' ∧ t.mem = s.mem ∧
      (t.core core).sp = sp ∧ t.clusters = s.clusters
    let writes (i : Instr) (ws : List (Nat × Byte × Byte)) : Prop := Gives (exec i s) fun t => (t.core core).seq.run = some (r.past r.pc) ∧
      t.mem = s.mem ∧ (t.core core).sp = sp.putAll (shiftWrites k.spBase ws) ∧ t.clusters = s.clusters
    let ends (i : Instr) (code : Nat) : Prop := Gives (exec i s) fun t => (t.core core).seq.run = none ∧ t.mem = s.mem ∧
      ∃ (k' : Ctx) (e : Entry), t.ctx s.sel.ctx = some k' ∧ (k'.lt.fifo .tx).entries = (k.lt.fifo .tx).entries ++ [e] ∧ e.bad = [] ∧
        e.val.toNat = r.tag % 2 ^ 8 + code * 2 ^ 8 + r.pc % 2 ^ 10 * 2 ^ 16 ∧
        (code ≠ 0 → ∃ f : PendFault, k'.lt.faults = k.lt.faults ++ [f] ∧ f.strm = .x ∧ f.code = code ∧ f.sync = false)
    let sa (v : W32) (q : BitVec 4) : SeqRun := { r with sa := r.sa.set q.toNat v }
    let wk (v : List W32) (q : BitVec 2) : SeqRun := { r with w := r.w.set q.toNat v }
    let mode := RM.byNumber (k.lt.sys.fpctl.toNat % 4)
    let flush := k.lt.sys.fpctl.getLsbD 2
    let v (e : W32) : Ex := (fp32.read flush e.toNat).1
    let rnd (e : Ex) : W32 := BitVec.ofNat 32 (fp32.round mode flush false e false).1
    let wa := r.w[a.toNat]
    let wb := r.w[b.toNat]
    let op (i : Instr) (f : W32 → W32 → W32) : Prop := runs i ((wk (List.zipWith f wa wb) d).past r.pc)
    let perm (i : Instr) (f : Nat → Nat) : Prop := runs i ((wk ((List.range 128).map fun j => wa.getD (f j) 0) d).past r.pc)
    -- registers, loops and the flow of a run
    (runs (.txli x i22) ((sa (i22.signExtend 32) x).past r.pc) ∧
     runs (.txaddi x y i18) ((sa (r.sa[y.toNat] + i18.signExtend 32) x).past r.pc) ∧
     (∀ l rest, r.loops = l :: rest → l.last = r.pc →
       (1 < l.left → (r.past r.pc).pc = l.first ∧ (r.past r.pc).loops = { l with left := l.left - 1 } :: rest) ∧
       (l.left ≤ 1 → r.past r.pc = { r with loops := rest }.past r.pc)) ∧
     ((∀ l rest, r.loops = l :: rest → l.last ≠ r.pc) → (r.past r.pc).pc = r.pc + 1 ∧ (r.past r.pc).loops = r.loops) ∧
     (let last := r.pc + len.toNat
      let n := r.sa[y.toNat].toNat
      let fits := x.toNat = r.loops.length ∧ ∀ l rest, r.loops = l :: rest → last ≤ l.last
      (fits → n ≠ 0 → runs (.txloop x y len) { r with pc := r.pc + 1, loops := ⟨r.pc + 1, last, n⟩ :: r.loops }) ∧
      (fits → n = 0 → runs (.txloop x y len) (r.past last)) ∧
      (¬fits → ends (.txloop x y len) 0x02))) ∧
    -- work registers
    (op (.txopAdd d a b) (fun e f => rnd (Ex.add (mode == .rdn) (v e) (v f)).1) ∧
     op (.txopSub d a b) (fun e f => rnd (Ex.add (mode == .rdn) (v e) (v f).neg).1) ∧
     op (.txopMul d a b) (fun e f => rnd (Ex.mul (v e) (v f)).1) ∧
     op (.txopMax d a b) (fun e f => rnd (Ex.max (v e) (v f))) ∧ op (.txopMin d a b) (fun e f => rnd (Ex.min (v e) (v f))) ∧
     runs (.txopFma d a b) ((wk (List.zipWith (fun ef g => rnd (Ex.add (mode == .rdn) (Ex.mul (v ef.1) (v ef.2)).1 (v g)).1)
       (wa.zip wb) r.w[d.toNat]) d).past r.pc) ∧
     runs (.txopRelu d a) ((wk (wa.map fun e => rnd (Ex.max (v e) (v 0))) d).past r.pc) ∧
     runs (.txopAbs d a) ((wk (wa.map fun e => rnd (v e).abs) d).past r.pc) ∧
     runs (.txopSplat d x) ((wk (List.replicate 128 r.sa[x.toNat]) d).past r.pc) ∧
     perm (.txpermRev d a) (fun j => 127 - j) ∧ perm (.txpermRot d a x) (fun j => (j + r.sa[x.toNat].toNat) % 128) ∧
     perm (.txpermZip d a) (fun j => if j % 2 = 0 then j / 2 else 64 + j / 2) ∧
     perm (.txpermUnzip d a) (fun j => if j < 64 then 2 * j else 2 * (j - 64) + 1)) ∧
    -- the scratchpad
    (z.toNat < 12 → subByte z.toNat = false →
      let es := typeBits z.toNat / 8
      let base := r.sa[x.toNat].toNat
      let stride := r.sa[y.toNat].toInt * es
      let count := cnt.toNat + 1
      let offs := (List.range count).map fun j => ((base : Int) + j * stride).toNat
      let places := offs.map fun o => (o, o + es)
      let inside := ∀ j < count, 0 ≤ (base : Int) + j * stride ∧ (base : Int) + j * stride + es ≤ k.spSize
      (base % es ≠ 0 → ends (.txld d x y cnt z) 0x07 ∧ ends (.txst d x y sat cnt z) 0x07) ∧
      (base % es = 0 → ¬inside → ends (.txld d x y cnt z) 0x08 ∧ ends (.txst d x y sat cnt z) 0x08) ∧
      (base % es = 0 → inside → Admitted k places [] → s.spMarks s.sel.ctx k places = [] → k.pends = [] → k.engineWrites = [] →
        runs (.txld d x y cnt z) ((wk ((offs.map fun o =>
          let e := elemValue z.toNat false (leNat (sp.read (k.spBase + o) es))
          BitVec.ofNat 32 (fp32.round (if z = 10 then mode else .rne) false false e.1 false).1) ++ List.replicate (128 - count) 0) d).past r.pc)) ∧
      (base % es = 0 → inside → Admitted k [] places →
        writes (.txst d x y sat cnt z) (List.zipWith (fun o (e : W32) => (List.range es).map fun j =>
          (o + j, (BitVec.ofNat 8 ((convert z.toNat mode flush (decide (sat = 1)) (v e) 0).1 / 2 ^ (8 * j)) : Byte), (0xFF : Byte)))
          offs r.w[d.toNat]).flatten)) ∧
    -- the boundary codec
    (y ≠ 15 →
      let sz := (size.toNat + 1) * 16
      let dz := r.sa[y.toNat + 1]!.toNat
      let off := r.sa[x.toNat].toNat
      let addr := r.sa[y.toNat].toNat
      sz + 8 ≤ dz → dz % 16 = 0 → off % 16 = 0 → addr % 16 = 0 → off + sz ≤ k.spSize → s.sramOk k.slice addr dz = true →
        (r.till = 0 → runs (.txcbEnlarge x y size) { r with till := s.cycle + (dz + 63) / 64 + 15 } ∧
          runs (.txcbReduce x y size) { r with till := s.cycle + (dz + 63) / 64 + 15 }) ∧
        (s.cycle < r.till → exec (.txcbEnlarge x y size) s = .next s ∧ exec (.txcbReduce x y size) s = .next s) ∧
        (r.till ≠ 0 → r.till ≤ s.cycle → s.sramMarks k.slice addr dz = [] → Admitted k [] [(off, off + sz)] →
          let block := r.over addr (s.sramRead k.slice addr dz)
          (∀ out, enlargeBlock sz block = some out →
            writes (.txcbEnlarge x y size) (out.zipIdx.map fun e => (off + e.2, e.1, (0xFF : Byte)))) ∧
          (enlargeBlock sz block = none → ends (.txcbEnlarge x y size) 0x02)) ∧
        (r.till ≠ 0 → r.till ≤ s.cycle → s.spMarks s.sel.ctx k [(off, off + sz)] = [] → Admitted k [(off, off + sz)] [] → k.pends = [] →
          k.engineWrites = [] →
          Gives (exec (.txcbReduce x y size) s) fun t => (t.core core).seq.run =
              some ((r.write addr (reduceBlock dz (sp.read (k.spBase + off) sz))).past r.pc) ∧
            t.mem = s.mem ∧ (t.core core).sp = sp ∧ t.clusters = s.clusters)) ∧
    -- tokens and the end
    (let tokens := k.lt.tk[n.toNat]?.getD 0
     let counts (i : Instr) (c : Nat) : Prop := Gives (exec i s) fun t => (t.core core).seq.run = some (r.past r.pc) ∧ t.mem = s.mem ∧
       ∃ k' : Ctx, t.ctx s.sel.ctx = some k' ∧ k'.lt.tk = k.lt.tk.setIfInBounds n.toNat c
     (Sparse.get k.dtokens n.toNat = some .seqToCtx → (tokens < 255 → counts (.txsig n) (tokens + 1)) ∧ (255 ≤ tokens → exec (.txsig n) s = .next s)) ∧
     (Sparse.get k.dtokens n.toNat = some .ctxToSeq → (tokens ≠ 0 → counts (.txwait n) (tokens - 1)) ∧ (tokens = 0 → exec (.txwait n) s = .next s)) ∧
     (Sparse.get k.dtokens n.toNat ≠ some .seqToCtx → ends (.txsig n) 0x0E) ∧
     (Sparse.get k.dtokens n.toNat ≠ some .ctxToSeq → ends (.txwait n) 0x0E)) ∧
    ends .txhalt 0 ∧
    (∀ w, r.out = [w] → Gives (exec .txhalt s) fun t => t.clusters = (s.sramPut (s.sramWrites k.slice w.1 [w.2])).clusters)

/-! What happens without a word of a stream: delivery, translation, tiles, barriers, windows (02, 06, 07, 11) -/

/-- 02 R36 to R38, R41, 06 R210, 07 R213, R221, 11 R341, R348, R351, R353: the steps that deliver lines, post load entries, ask for and make page walks, scrub
pages, complete tile loads and reads, release barriers and close event windows. Each, once its rule's condition holds, has the effect that the
rule gives. -/
def Obligations.PathAndMemoryEvents : Prop :=
  ∀ (s : State) (id : Nat) (k : Ctx), s.ctx id = some k →
    (∀ addr ws, k.res = .resident → addr % 32 = 0 → (∀ p ∈ k.ahead, p.1 ≠ addr) → s.fetchLine k addr = .ok ws →
      exec (.lineFetch id addr) s = .next (s.setCtx id { k with ahead := ((addr, ws, s.lineBad k addr) :: k.ahead).take 16 })) ∧
    (∀ ws, k.mayDeliver = true →
      let addr := k.pathNext.1
      (∀ a, k.lt.next = some a → addr = a) ∧ (k.lt.next = none → k.lt.c.innermost = none → addr = k.lt.line + 32) ∧
      (s.fetchLine k addr = .ok ws → lineOk ws = true → k.lt.bufRoom k.pathNext.2.1 addr = true →
        (∀ st : Strm, (k.strm st).roomFor (lineItems k.pathNext.2.1 addr ws [] st) = true) →
        Gives (exec (.lineDelivery id) s) fun t => t.mem = s.mem ∧ ∃ k' : Ctx, t.ctx id = some k' ∧ k'.lt.line = addr ∧ k'.lt.next = none ∧
          ∀ st : Strm,
            let lanes (q : List QItem) : List (Nat × W32 × Option W32) := q.filterMap fun x => match x with
              | .lane l => some (l.addr, l.word, l.cont)
              | .mark _ => none
            lanes (k'.strm st).queue = (if st = .c then [] else lanes (k.strm st).queue) ++ (lanesFor st ws).map fun p => (addr + 4 * p.1, p.2)) ∧
      (s.fetchLine k addr = .ok ws → lineOk ws = false →
        ∃ f : PendFault, exec (.lineDelivery id) s = .next (s.setCtx id (k.raise f)) ∧ f.strm = .c ∧ f.code = 0x01 ∧ f.pc = addr)) ∧
    (∀ x rest, k.loads = x :: rest → Gives (exec (.ldEntryPost id) s) fun t => t.mem = s.mem ∧ ∃ k' : Ctx, t.ctx id = some k' ∧ k'.loads = rest ∧
      (k'.lt.fifo .ld).entries = (k.lt.fifo .ld).entries ++ [⟨x.val, x.bad, []⟩] ∧ (k'.lt.fifo .ld).res = (k.lt.fifo .ld).res - 1) ∧
    (∀ va, va < 2 ^ 48 → k.lt.sys.ptroot.getLsbD 0 = true → s.cached k.lt.sys.ptroot va = none → (∀ w ∈ s.walks, w.ctx ≠ id) →
      exec (.pageWalk id va) s = .next { s with
        walks := insertWalk ⟨id, va, k.lt.sys.ptroot, s.cycle, s.cycle, 3, k.lt.sys.ptroot.toNat / 2 ^ 12 % 2 ^ 36 * 4096⟩ s.walks }) ∧
    (∀ w, s.walkDue = some w →
      (∀ t0, walkEntry s.mem w.va w.lvl w.table = .down t0 → walkNow s = .next { s with
        walks := s.walks.map fun x => if x = w then { w with at_ := s.cycle, lvl := w.lvl - 1, table := t0 } else x }) ∧
      (∀ pa size rd wr ex entry, walkEntry s.mem w.va w.lvl w.table = .ends (.leaf pa size rd wr ex false entry) → walkNow s = .next { s with
        walks := s.walks.filter (· != w), tlb := ⟨w.root.toNat / 2 ^ 12 % 2 ^ 36, w.va / size * size, size, pa, rd, wr, ex⟩ :: s.tlb }) ∧
      (∀ lvl, walkEntry s.mem w.va w.lvl w.table = .ends (.fail lvl) → walkNow s = .next { s with walks := s.walks.filter (· != w) })) ∧
    (∀ va pa size rd wr ex entry, walk s.mem k.lt.sys.ptroot va = .leaf pa size rd wr ex true entry → s.mem.wf = true → (entry < pa ∨ pa + size ≤ entry) →
      Gives (exec (.pageScrub id va) s) fun t => (∀ a, pa ≤ a → a < pa + size → t.mem.get a = 0) ∧
        (∀ a, a < pa ∨ pa + size ≤ a → a ≠ entry → t.mem.get a = s.mem.get a) ∧
        t.mem.get entry = s.mem.get entry - 32 ∧ ∀ p ∈ t.pubs, p.pa < pa ∨ pa + size ≤ p.pa) ∧
    (∀ p rest tl data, k.pends = p :: rest → p.load = some (tl, data) → p.bad = [] → tl < 8 → p.writes = [] → p.bnd = none →
      Gives (exec (.tileLoadComplete id tl) s) fun t => t.mem = s.mem ∧ ∃ k' : Ctx, t.ctx id = some k' ∧ k'.pends = rest ∧
        (k'.tile tl).st = .full ∧ (k'.tile tl).data = data ∧ ∀ j, j ≠ tl → p.reads = [] → k'.tile j = k.tile j) ∧
    (∀ p rest tl f, k.pends = p :: rest → k.mats = [] → p.reads = [(tl, f)] → tl < 8 →
      Gives (exec (.tileReadEnd id tl) s) fun t => t.mem = s.mem ∧ ∃ k' : Ctx, t.ctx id = some k' ∧ k'.pends = { p with reads := [] } :: rest ∧
        (k'.tile tl).readers = (k.tile tl).readers - 1 ∧ (k'.tile tl).data = (k.tile tl).data ∧
        (k'.tile tl).st = if (k.tile tl).st = .draining ∧ (k.tile tl).readers ≤ 1 then .empty else (k.tile tl).st) ∧
    (∀ sl b c, b < 16 → ((s.slice sl).barrier b).release = some c → c ≤ s.cycle → Gives (exec (.barRelease sl b) s) fun t => t.mem = s.mem ∧
      ((t.slice sl).barrier b).arrived = [] ∧ ((t.slice sl).barrier b).release = none ∧
      (id ∈ ((s.slice sl).barrier b).arrived → k.lt.hold = .bar b → ∃ k' : Ctx, t.ctx id = some k' ∧ k'.lt.hold = .none ∧ k'.start = s.cycle ∧ k'.snaps = []) ∧
      (id ∉ ((s.slice sl).barrier b).arrived → t.ctx id = some k)) ∧
    (∀ c t0, c < 8 → k.lt.sys.evopen[c]? = some (some t0) → (∀ w, k.lt.sys.evwin[c]? = some w → w ≠ 0 ∧ t0 + w.toNat ≤ s.cycle) →
      Gives (exec (.eventWindowClose id c) s) fun t => t.mem = s.mem ∧ ∃ k' : Ctx, t.ctx id = some k' ∧
        ∀ j < 8, k'.lt.sys.evcnt[j]? = (if j = c then some 0 else k.lt.sys.evcnt[j]?) ∧
          k'.lt.sys.evopen[j]? = if j = c then some none else k.lt.sys.evopen[j]?)

/-- 07 R228, R230 to R232, R237, R253, R259, R260, 05 R177, 09 R277 to R284: the steps of the engines. An operation dispatches to the array, to
lanes, or reserves the array; one of higher rank takes over the reservation of another, which then runs on lanes, and takes the array itself where it is
free; its blocks start and end; a block of MMA, MMAT or MMAC folds into the unmasked elements and no others; an operation
that is over posts its status word and counts for its barrier four cycles after its last block; the array frees. A CORDIC batch reads its sources
when it starts and has written its outputs in its last cycle; a quantiser operation that waited for its tile tags reads once they admit it. -/
def Obligations.EngineEvents : Prop :=
  ∀ (s : State) (id : Nat) (k : Ctx), s.ctx id = some k →
    let core := coreOf id
    (∀ cls b, k.headBind cls = some b → s.dispatchNext id k cls = true → s.headFault id k cls = 0 → (b.loaded = true → b.blk < b.nblk) →
      let arb := (s.core core).arb cls
      let rank (j : Nat) : Nat := s.rankOf j
      let goes (P : Bind → Prop) (a : Option Nat → Option Nat → Prop) : Prop := Gives (exec (.matrixDispatch id cls) s) fun t => t.mem = s.mem ∧
        (∃ (k' : Ctx) (b' : Bind), t.ctx id = some k' ∧ k'.headBind cls = some b' ∧ b'.dispatched = true ∧ P b') ∧
        a ((t.core core).arb cls).holder ((t.core core).arb cls).reserve
      (arb.holder = none → arb.reserve = none →
        goes (fun b' => b'.onLanes = false ∧ b'.waiting = false) fun h r => h = some id ∧ r = none) ∧
      (∀ h, arb.holder = some h → rank id ≤ rank h →
        goes (fun b' => b'.onLanes = true) fun h' r => h' = some h ∧ r = arb.reserve) ∧
      (∀ h, arb.holder = some h → arb.reserve = none → rank h < rank id →
        goes (fun b' => b'.waiting = true ∧ b'.onLanes = false) fun h' r => h' = some h ∧ r = some id) ∧
      (∀ r, arb.holder = none → arb.reserve = some r →
        (rank id ≤ rank r → goes (fun b' => b'.onLanes = true) fun h' r' => h' = none ∧ r' = some r) ∧
        (rank r < rank id → goes (fun b' => b'.onLanes = false ∧ b'.waiting = false) fun h' r' => h' = some id ∧ r' = none)) ∧
      (∀ h r, arb.holder = some h → arb.reserve = some r → rank h < rank id →
        (rank id ≤ rank r → goes (fun b' => b'.onLanes = true) fun h' r' => h' = some h ∧ r' = some r) ∧
        (rank r < rank id → goes (fun b' => b'.waiting = true ∧ b'.onLanes = false) fun h' r' => h' = some h ∧ r' = some id)) ∧
      (∀ r kr br, arb.reserve = some r → r ≠ id → s.ctx r = some kr → kr.headBind cls = some br → br.waiting = true → rank r < rank id →
        (∀ h, arb.holder = some h → rank h < rank id) → Gives (exec (.matrixDispatch id cls) s) fun t =>
          ∃ (kr' : Ctx) (br' : Bind), t.ctx r = some kr' ∧ kr'.headBind cls = some br' ∧ br'.waiting = false ∧ br'.onLanes = true)) ∧
    (∀ c cls h, ((s.core c).arb cls).holder = some h → s.arraySettled c cls = false → Gives (exec (.arrayFree c cls) s) fun t => t.mem = s.mem ∧
      t.ctxs = s.ctxs ∧ ((t.core c).arb cls).holder = none ∧
      ((t.core c).arb cls).reserve = match ((s.core c).arb cls).reserve with
        | some r => some r
        | none => s.best (s.onLanes c cls)) ∧
    (∀ cls b, k.headBind cls = some b → b.mayStart s.cycle = true → k.onCore = true → ((s.core core).arb cls).holder = some id →
      s.newcomer core cls = false → s.blockFault id k cls = 0 → Gives (exec (.blockBoundary id cls) s) fun t => t.mem = s.mem ∧
        ∃ (k' : Ctx) (b' : Bind), t.ctx id = some k' ∧ k'.headBind cls = some b' ∧ b'.running = true ∧ b'.onLanes = false ∧ b'.blk = b.blk) ∧
    (∀ m rest, k.mats = m :: rest → m.isStrip = false → m.bind.running = true → m.bind.cancelled = false → k.onCore = true → k.blockEnds .matrix m.bind s.cycle = true →
      Gives (exec (.blockBoundary id .matrix) s) fun t => t.mem = s.mem ∧ (∃ (k' : Ctx) (m' : MatOp), t.ctx id = some k' ∧ k'.mats = m' :: rest ∧
          m'.bind.blk = m.bind.blk + 1 ∧ m'.bind.running = false ∧ m'.bind.ended = s.cycle) ∧
        ∀ u e, e < 16384 →
          let word (t : State) (u : Nat) : W32 := (Sparse.get (t.core core).acc ((k.accBase + u) * 16384 + e)).getD 0
          let folded := m.fold m.bind.blk (k.aBlock m m.bind.blk (e / 128)) (s.bBlock k m m.bind.blk (e % 128)) (word s m.acc)
            (if m.cm then word s (m.acc + 1) else 0)
          let hit := m.rowm.getLsbD (e / 128) = true ∧ m.colm.getLsbD (e % 128) = true
          word t u = if hit ∧ u = m.acc then folded.1.1 else if hit ∧ m.cm = true ∧ u = m.acc + 1 then folded.1.2 else word s u) ∧
    (∀ m rest, k.mats = m :: rest → m.bind.complete s.cycle = true → m.bind.cancelled = false → m.cb < 8 → Gives (exec (.matrixComplete id) s) fun t => t.mem = s.mem ∧
      t.cores = s.cores ∧ ∃ (k' : Ctx) (e : Word), t.ctx id = some k' ∧ k'.mats = rest ∧
        (k'.lt.fifo .mx).entries = (k.lt.fifo .mx).entries ++ [⟨e, [], []⟩] ∧ (k'.lt.cbar m.cb).done = (k.lt.cbar m.cb).done + 1 ∧
        (m.bind.first ≤ 1 → m.bind.last ≤ 1 → e.toNat % 2 ^ 8 = m.tag % 2 ^ 8 ∧ e.toNat / 2 ^ 12 % 2 ^ 12 = Nat.min m.bind.kded 4095 ∧
          e.toNat / 2 ^ 24 % 2 ^ 12 = Nat.min m.bind.klan 4095 ∧ e.toNat / 2 ^ 40 % 2 ^ 8 = m.fault % 2 ^ 8)) ∧
    (∀ m rest, k.mats = m :: rest → s.stepDue k m = true →
      (∀ k1 m', s.stripLoad id k m = .ok (k1, m') → Gives (exec (.stripStep id) s) fun t => t.mem = s.mem ∧ t.cores = s.cores ∧
        t.ctx id = some { k1 with mats := m' :: rest }) ∧
      (∀ code i l w j ls, s.stripLoad id k m = .trap code i l w j ls → Gives (exec (.stripStep id) s) fun t => t.mem = s.mem ∧
        ∃ k' : Ctx, t.ctx id = some k' ∧ k'.bnd = k.bnd ∧ k'.lt.sys.bndshape.getLsbD 49 = true ∧
          k'.lt.sys.bndshape.toNat / 2 ^ 56 = code % 256)) ∧
    (∀ till v, k.lt.hold = .move till v → till ≤ s.cycle → Gives (exec (.boundaryMoveEnd id) s) fun t => t.mem = s.mem ∧
      ∃ k' : Ctx, t.ctx id = some k' ∧ k'.lt.sys.bndcap = v ∧ k'.lt.hold = .none ∧ k'.bnd = k.bnd ∧
        ∀ u e, k.accCnt - Nat.max k.bndUnits (v.toNat % 16) ≤ u → u < k.accCnt → e < 16384 →
          Sparse.get (t.core core).acc ((k.accBase + u) * 16384 + e) = none) ∧
    (∀ c rest k1, k.crds = c :: rest → s.batchReady k c = some k1 → Gives (batchNow id s) fun t => t.mem = s.mem ∧ t.cores = s.cores ∧
      ∃ (k' : Ctx) (c' : CrdOp) (b : Batch), t.ctx id = some k' ∧ k'.crds = c' :: rest ∧ c'.ahead = some b ∧
        let ks := c.batch c.bind.blk
        let bad := s.spMarks id k1 (c.batchRanges ks).1
        (bad = [] → b.bad = false ∧ b.writes = (c.runBatch (s.view id k .x) ks).1) ∧ (bad ≠ [] → b.bad = true ∧ b.writes = [])) ∧
    (∀ c rest b, k.crds = c :: rest → c.ahead = some b → s.batchDue k c = true → Gives (exec (.cordicBatch id) s) fun t => t.mem = s.mem ∧
      ∃ (k' : Ctx) (c' : CrdOp), t.ctx id = some k' ∧ k'.crds.length = k.crds.length ∧ k'.crds.head? = some c' ∧ c'.ahead = none ∧
        (b.bad = false → c'.bind.blk = c.bind.blk + 1 ∧ (t.core core).sp = (s.core core).sp.putAll (shiftWrites k.spBase b.writes)) ∧
        (b.bad = true → c'.fault = 0x13 ∧ c'.bind.isOver = true ∧ (t.core core).sp = (s.core core).sp)) ∧
    (∀ c rest, k.crds = c :: rest → c.bind.complete s.cycle = true → c.bind.cancelled = false → Gives (exec (.cordicComplete id) s) fun t => t.mem = s.mem ∧
      ∃ (k' : Ctx) (e : Word), t.ctx id = some k' ∧ k'.crds = rest ∧ (k'.lt.fifo .cr).entries = (k.lt.fifo .cr).entries ++ [⟨e, [], []⟩] ∧
        (c.bind.first ≤ 1 → c.bind.last ≤ 1 → e.toNat % 2 ^ 8 = c.tag % 2 ^ 8 ∧ e.toNat / 2 ^ 40 % 2 ^ 8 = c.fault % 2 ^ 8)) ∧
    (∀ q n k1, s.quantReady k = some (q, n, k1) → Gives (quantNow id s) fun t => t.mem = s.mem ∧
      let bad := s.spMarks id k1 (Rgn.ofWord q.src).ranges
      (bad = [] ∨ q.bind.dispatched = false → t.cores = s.cores) ∧
      ∃ (k' : Ctx) (q' : QuantOp) (p' : Pend), t.ctx id = some k' ∧ k'.quants = q' :: k.quants.drop 1 ∧ q'.waits = false ∧
        k'.pends[n]? = some p' ∧
        (bad = [] → q'.fault = 0 ∧ p'.writes = (q.run (s.viewBy id k fun p => p.strm == .x && decide (p.ord < q.ord))).1) ∧
        (bad ≠ [] → q'.fault = 0x13 ∧ (q.bind.dispatched = true → q'.bind.isOver = true))) ∧
    (∀ q rest p ps, k.quants = q :: rest → k.pends = p :: ps → p.ord = q.ord → p.quant = true → q.bind.complete s.cycle = true →
      q.bind.cancelled = false → Gives (exec (.quantiserComplete id) s) fun t => t.mem = s.mem ∧
      (q.fault = 0 → (t.core core).sp = (s.core core).sp.putAll (shiftWrites k.spBase p.writes)) ∧
      ∃ k' : Ctx, t.ctx id = some k' ∧ k'.quants = rest ∧ k'.pends.map (·.ord) = ps.map (·.ord) ∧
        (q.post = true → ∃ e : Word, (k'.lt.fifo .mx).entries = (k.lt.fifo .mx).entries ++ [⟨e, [], []⟩])) ∧
    (∀ q rest w0, k.xf = q :: rest → k.xfRun = none → (s.core core).seq.run = none → k.zeroing = false → s.seqNext core = some (id, w0) →
      q.cycle + 4 ≤ s.cycle → (∀ p ∈ k.pends, p.strm = .x → q.ord ≤ p.ord) →
      (q.bad = true → Gives (exec (.xfRunStart id) s) fun t => t.mem = s.mem ∧ (t.core core).seq.run = none ∧ ∃ k' : Ctx, t.ctx id = some k' ∧
        k'.xf = rest ∧ ∃ f ∈ k'.lt.faults, f.strm = .x ∧ f.code = 0x13 ∧ f.sync = false) ∧
      (q.bad = false → Gives (exec (.xfRunStart id) s) fun t => t.mem = s.mem ∧
        ∃ r : SeqRun, (t.core core).seq.run = some r ∧ (t.core core).seq.imem = k.transform ∧ r.ctx = id ∧ r.pc = q.start ∧ r.tag = q.tag ∧
          r.sa[0] = q.sa0 ∧ (∀ j, 1 ≤ j → j < 16 → r.sa[j]? = some 0) ∧ (∀ j < 4, r.w[j]? = some (List.replicate 128 0)) ∧ r.loops = []))

/-! Couriers, contexts, recovery and the management side (10, 12 to 15, 19) -/

/-- 10 R304 to R306, R313 to R317, R319, R320: a courier command starts, begins its chunks and moves them, misses its postmark, pauses or ends
at a fault, and completes, with a store's bytes published at its promised event and one entry in ret.co; a CSEND for this package is received,
published as a whole with its last chunk, and acknowledged; one for another package goes on. That a chunk is begun in one step and ended in
another, and what is drawn in between, is the model's choice (log entry 45), and so is the acknowledgement with 0x08 and the chain's start
value where there is no next hop (log entry 60). -/
def Obligations.CourierEvents : Prop :=
  (∀ (s : State) (id n : Nat) (k : Ctx) (c : Cmd), s.ctx id = some k → k.cmds[n]? = some c →
    let core := coreOf id
    let posts (k' : Ctx) (sum : W32) (code : Nat) : Prop := k'.cmds = k.cmds.eraseIdx n ∧
      ∃ r : Entry, (k'.lt.fifo .co).entries = (k.lt.fifo .co).entries ++ [r] ∧ (k'.lt.fifo .co).res = (k.lt.fifo .co).res - 1 ∧
        r.val.toNat % 2 ^ 8 = c.tag % 2 ^ 8 ∧ r.val.toNat / 2 ^ 8 % 2 ^ 8 = code % 2 ^ 8 ∧
        (r.val.getLsbD 16 = true ↔ c.cmp = true ∧ code = 0 ∧ (if c.seed = 0 then 0 else sum) ≠ c.expect) ∧
        r.val.getLsbD 17 = c.late ∧ r.val.toNat / 2 ^ 18 % 2 ^ 6 = c.slot % 2 ^ 6 ∧
        r.val.toNat / 2 ^ 32 = if c.seed = 0 then 0 else sum.toNat
    (s.chunkDue k n c = true → c.begun = false → c.moved = 0 →
      (c.doomed ≠ 0 → Gives (exec (.courierChunk id n) s) fun t => t.mem = s.mem ∧ t.cores = s.cores ∧ ∃ (k' : Ctx) (c' : Cmd),
        t.ctx id = some k' ∧ k'.cmds[n]? = some c' ∧ c'.fault = c.doomed ∧ c'.moved = 0) ∧
      (c.doomed = 0 → (k.chainStart c).2 ≠ 0 → Gives (exec (.courierChunk id n) s) fun t => t.mem = s.mem ∧ t.cores = s.cores ∧
        ∃ (k' : Ctx) (c' : Cmd), t.ctx id = some k' ∧ k'.cmds[n]? = some c' ∧ c'.fault = (k.chainStart c).2 ∧ c'.moved = 0) ∧
      (c.doomed = 0 → (k.chainStart c).2 = 0 → c.isFetch = true → k.zeroing = false →
        (∀ p ∈ k.pends, p.strm = c.strm → p.ord < c.ord → ∀ w ∈ p.writes, w.1 < c.near ∨ c.near + c.nearLen ≤ w.1) →
        Gives (exec (.courierChunk id n) s) fun t => t.mem = s.mem ∧ t.cores = s.cores ∧ ∃ (k' : Ctx) (c' : Cmd), t.ctx id = some k' ∧
          k'.cmds[n]? = some c' ∧ c'.begun = true ∧ c'.moved = 0 ∧ c'.first = s.cycle ∧ c'.sum = (k.chainStart c).1)) ∧
    (s.chunkDue k n c = true → c.begun = true →
      (∀ k1 c1 ch, c.ahead = none → s.nextChunk id k c = .ok (k1, c1, ch) → Gives (exec (.courierChunk id n) s) fun t => t.mem = s.mem ∧
        t.cores = s.cores ∧ (∃ (k' : Ctx) (c' : Cmd), t.ctx id = some k' ∧ k'.cmds[n]? = some c' ∧ c'.ahead = some ch ∧ c'.moved = c.moved) ∧
        (∀ bs, c.kind = .fetch → c.codec = false →
          s.cmdRead k1 c.strm c.seen c.dcur c.space (c.far + c.moved) (c.nextMoved - c.moved) = .ok bs →
          ch.writes = wholeWrites (c.near + c.moved) bs ∧ ch.sum = c.add bs)) ∧
      (∀ ch, c.ahead = some ch → c.kind = .fetch → Gives (exec (.courierChunk id n) s) fun t => t.mem = s.mem ∧
        (t.core core).sp = (s.core core).sp.putAll (shiftWrites k.spBase ch.writes) ∧ ∃ (k' : Ctx) (c' : Cmd), t.ctx id = some k' ∧
          k'.cmds[n]? = some c' ∧ c'.moved = c.nextMoved ∧ c'.final = s.cycle ∧ c'.sum = ch.sum ∧ c'.ahead = none) ∧
      (∀ ch s1 bs ps, c.ahead = some ch → c.kind = .store → c.codec = false → s.chunkBytes id k { c with ahead := none } ch = .ok (s1, bs) →
        s.outPieces k { c with ahead := none } (c.far + c.moved) bs = .ok ps →
        Gives (exec (.courierChunk id n) s) fun t => t.mem = s.mem ∧ t.cores = s.cores ∧ t.clusters = s.clusters ∧
          ∃ (k' : Ctx) (c' : Cmd), t.ctx id = some k' ∧ k'.cmds[n]? = some c' ∧ c'.moved = c.nextMoved ∧ c'.out = c.out ++ ps ∧ c'.sum = c.add bs)) ∧
    (∀ code info lvl wk j ls, s.chunkDue k n c = true → c.begun = true →
      (c.ahead = none ∧ s.nextChunk id k c = .trap code info lvl wk j ls ∨
        ∃ ch, c.ahead = some ch ∧ s.moveChunk id k c ch = .trap code info lvl wk j ls) →
      Gives (exec (.courierChunk id n) s) fun t => t.mem = s.mem ∧ ∃ (k' : Ctx) (c' : Cmd), t.ctx id = some k' ∧ k'.cmds[n]? = some c' ∧ c'.moved = c.moved ∧
        (if code = 0x09 ∧ k.res = .resident then
          c'.paused = true ∧ c'.fault = c.fault ∧ ∃ f : PendFault, k'.lt.faults = k.lt.faults ++ [f] ∧ f.strm = c.strm ∧ f.code = 0x09 ∧ f.sync = false ∧
            f.info = info ∧ f.tag = c.tag ∧ f.slot = c.slot
        else c'.fault = code ∧ k'.lt.faults = k.lt.faults)) ∧
    (k.cmdDue n c s.cycle = true →
      (c.kind = .send → c.fault = 0 → exec (.courierComplete id n) s = .next (s.setCtx id { k with cmds := k.cmds.set n { c with event := true } })) ∧
      (c.kind = .fetch → Gives (exec (.courierComplete id n) s) fun t => t.mem = s.mem ∧ t.cores = s.cores ∧
        ∃ k' : Ctx, t.ctx id = some k' ∧ posts k' c.sum c.fault) ∧
      (∀ addr pa bs, c.kind = .store → c.out = [(0, addr, pa, bs)] → Gives (exec (.courierComplete id n) s) fun t => t.cores = s.cores ∧
        (∀ a, t.mem.get a = if pa ≤ a ∧ a < pa + bs.length then bs.getD (a - pa) 0 else s.mem.get a) ∧
        ∃ k' : Ctx, t.ctx id = some k' ∧ posts k' c.sum c.fault)) ∧
    (∀ sum code, c.kind = .send → c.fault = 0 → k.onCore = true → c.begun = true → code ∈ [0, 0x08, 0x09, 0x0A, 0x13] → (code = 0 → c.event = true) →
      (∀ e ∈ k.cmds.take n, e.kind = .send → e.slot = c.slot → e.pkg ≠ c.pkg) →
      Gives (exec (.csendAcknowledgement id n sum code) s) fun t => t.mem = s.mem ∧ ∃ k' : Ctx, t.ctx id = some k' ∧ posts k' sum code ∧
        (c.seed ≠ 0 → c.slot < 64 → (∀ e ∈ k.cmds.drop (n + 1), e.slot = c.slot → e.seed ≠ 0 → e.through = false ∧ e.fault = 0) →
          k'.lt.chain[c.slot]? = some (some (sum, code)))) ∧
    (k.onCore = true → c.event = false → c.late = false → c.fault = 0 → c.postmark < s.cycle →
      Gives (exec (.promiseMissed id n) s) fun t => t.mem = s.mem ∧ t.cores = s.cores ∧ ∃ k' : Ctx, t.ctx id = some k' ∧
        k'.cmds[n]? = some { c with late := true } ∧
        if c.nt = true ∨ c.raised = true ∨ c.resched = true then k'.lt.faults = k.lt.faults
        else (∀ g ∈ k.lt.faults, g ∈ k'.lt.faults) ∧ ∃ f ∈ k'.lt.faults, f.strm = c.strm ∧ f.code = 0x0D ∧ f.sync = false ∧ f.tag = c.tag ∧
          f.slot = c.slot ∧ f.info = BitVec.ofNat 64 c.postmark ∧ f.ord = c.ord)) ∧
  (∀ (s : State) (port : Nat) (h : SendHeader) (rest : List Flit), (s.port port).rx = .header h :: rest →
    (h.pkg = s.pkg → h.chain = 0 ∨ h.open_ = false → Gives (exec (.csendReceive port) s) fun t => t.mem = s.mem ∧ t.ctxs = s.ctxs ∧
      (t.port port).rx = rest ∧ ∃ r ∈ (t.port port).recvs, r.src = h.src ∧ r.h = h ∧ r.moved = 0 ∧ r.fault = 0 ∧ r.out = [] ∧
        r.sum = if h.chain = 0 then 0 else h.c0) ∧
    (h.pkg ≠ s.pkg →
      (∀ out, Config.nextHop port h.pkg = some out → (s.port out).lanes ≠ 0 → h.chain = 0 ∨ h.open_ = false → Gives (exec (.csendReceive port) s) fun t => t.mem = s.mem ∧
        t.ctxs = s.ctxs ∧ (t.port port).rx = rest ∧ t.out = s.out ++ [.flit out (.header h)] ∧ Sparse.get (t.port port).transit h.src = some out) ∧
      (Config.nextHop port h.pkg = none → h.chain = 0 ∨ h.open_ = false → Gives (exec (.csendReceive port) s) fun t => t.mem = s.mem ∧ t.ctxs = s.ctxs ∧
        (t.port port).rx = rest ∧ t.out = s.out ++ [.ack h.src (if h.chain = 0 then 0 else h.c0) 0x08]))) ∧
  (∀ (s : State) (port src : Nat) (bs : List Byte) (rest : List Flit) (r : Recv) (pa : Nat),
    (s.port port).rx = .data src bs :: rest → Sparse.get (s.port port).transit src = none →
    (s.port port).recvs.find? (fun q => q.src == src) = some r → r.fault = 0 →
    let n := Nat.min 4096 (r.h.len - r.moved)
    let data := r.got ++ bs
    let sum := if r.h.chain = 0 then 0 else checksum (n / 4) r.sum (data.take n)
    n ≤ data.length → s.jobPieces (s.jobRoot r.h.job) (r.h.far + r.moved) n = .ok [(pa, n)] →
    (r.moved + n < r.h.len → Gives (exec (.csendReceive port) s) fun t => t.ctxs = s.ctxs ∧ (t.port port).rx = rest ∧ t.mem = s.mem ∧
      t.out = s.out ∧ ∃ q ∈ (t.port port).recvs, q.src = src ∧ q.moved = r.moved + n ∧ q.out = r.out ++ [(pa, data.take n)] ∧ q.sum = sum) ∧
    (r.h.len ≤ r.moved + n → Gives (exec (.csendReceive port) s) fun t => t.ctxs = s.ctxs ∧ (t.port port).rx = rest ∧
      t.out = s.out ++ [.ack src sum 0] ∧
      (∀ a, (∀ w ∈ r.out ++ [(pa, data.take n)], a < w.1 ∨ w.1 + w.2.length ≤ a) → t.mem.get a = s.mem.get a) ∧
      (r.out = [] → ∀ a, t.mem.get a = if pa ≤ a ∧ a < pa + n then data.getD (a - pa) 0 else s.mem.get a)))

/-- 12 R356, R362, R365 to R368, R372, R374 to R376, 05 R144, 04 R140, 01 R27: the kernel's writes of a context's registers; the watchdog; the
slice-end notice, the light and the forced save, and the restore of a context; the recall of a lent slice; the end of a context by the
kernel; retention, and the debugger's reads of registers and, on a halted context, its writes (log entry 69). A restore reads back what lies in the
context area where the spec gives it a place there (log entry 17). The model's choices: a context that is saved takes a number from 2^20
on (log entry 46); the rows of the kernel's writes act on a context off its core, and one that stands on its core answers the window with an
error (log entry 21). -/
def Obligations.ContextEvents : Prop :=
  (∀ (s : State) (id : Nat) (k : Ctx), s.ctx id = some k →
    let lands (n : Nat) (v : Word) (off : Bool) (o : Host.Outcome State Fault Refusal) : Prop :=
      sysValueOk n v = true → s.kernelWriteOk id k n v = true →
      if off = true ∧ (k.res = .resident ∨ k.res = .saving ∨ k.res = .ended ∧ s.atWork id k = true) then o = .next { s with out := s.out ++ [.window 0 true] }
      else Gives o fun t => t.out = s.out ++ [.window 0 false] ∧ t.mem = s.mem ∧ ∃ k' : Ctx, t.ctx id = some k' ∧ sysRead t.cycle id k' n = v ∧
        k'.res = k.res ∧ k'.lt.flights = k.lt.flights
    (∀ v, lands 0x060 v true (exec (.wrsysSpbase id 0 v) s) ∧ lands 0x061 v true (exec (.wrsysSpbase id 1 v) s) ∧
      lands 0x062 v true (exec (.wrsysAccset id v) s) ∧ lands 0x058 v false (exec (.wrsysRecall id v) s) ∧
      lands 0x059 v false (exec (.wrsysCtxarea id v) s) ∧ ∀ n, lands (0x0C0 + n.toNat) v true (exec (.wrsysSlot id n v) s)) ∧
    (s.watchdogDue id k = true → Gives (exec (.watchdog id) s) fun t => ∃ f : PendFault, t = s.setCtx id (k.raise f) ∧ f.strm = .c ∧ f.code = 0x11 ∧
      f.sync = false) ∧
    (k.res = .resident → k.notice = none →
      (k.lt.sys.tvec.getLsbD 0 = true → s.kernelDown = false → Gives (exec (.sliceEndNotice id) s) fun t => t.mem = s.mem ∧
        ∃ (k' : Ctx) (f : PendFault), t.ctx id = some k' ∧ k'.res = .resident ∧ k'.notice = some s.cycle ∧ k'.lt.faults = k.lt.faults ++ [f] ∧ f.strm = .c ∧
          f.code = 0x1C ∧ f.sync = false) ∧
      (k.lt.sys.tvec.getLsbD 0 = false ∨ s.kernelDown = true → Gives (exec (.sliceEndNotice id) s) fun t => t.mem = s.mem ∧
        ∃ k' : Ctx, t.ctx id = some k' ∧ k'.res = .saving ∧ k'.saveAt = s.cycle)) ∧
    (∀ t0, k.res = .resident → k.notice = some t0 → t0 + k.lt.sys.savebudget.toNat % 2 ^ 32 ≤ s.cycle →
      Gives (exec (.saveBudgetExpiry id) s) fun t => t.mem = s.mem ∧ ∃ k' : Ctx, t.ctx id = some k' ∧ k'.res = .saving ∧ k'.saveAt = s.cycle ∧
        k'.notice = none ∧ ∀ f ∈ k'.lt.faults, f.code ≠ 0x1C) ∧
    (∀ ps, k.res = .saving → k.saveReady s.cycle = true → s.saveTurn id k = true → k.loads = [] → k.atoms = [] → s.areaPieces k = .ok ps →
      s.saveBad id k true [] = false → Gives (exec (.saveBudgetExpiry id) s) fun t => t.ctx id = none ∧ ∃ (new : Nat) (k' : Ctx), 2 ^ 20 ≤ new ∧
        t.ctx new = some k' ∧ k'.res = .savedForced ∧ k'.lt = k.lt ∧ k'.tiles = k.tiles ∧
        ∀ a, a < k.spSize → Memory.get k'.savedSp a = (s.core (coreOf id)).sp.get (k.spBase + a)) ∧
    (∀ ps, k.res = .resident → k.lt.hold = .saving → k.saveAt ≤ s.cycle → k.landingDue s.cycle = false → k.checked s.cycle = true →
      s.areaPieces k = .ok ps →
      s.saveBad id k false [] = false → Gives (exec (.lightSave id) s) fun t => t.ctx id = none ∧ ∃ (new : Nat) (k' : Ctx), 2 ^ 20 ≤ new ∧
        t.ctx new = some k' ∧ k'.res = .savedLight ∧ k'.savedSp = [] ∧ k'.savedAcc = [] ∧ k'.lt.flights = k.lt.flights ∧
        k'.lt.stores = k.lt.stores) ∧
    (∀ place spbase accbase ps,
      let kk := k.setSys { k.lt.sys with
        spbase := BitVec.ofNat 64 (spbase % 512 * 4096), accset := BitVec.ofNat 64 (accbase % 8 + k.accCnt * 8) }
      let home := s.homeOf kk place
      k.res = .savedForced ∨ k.res = .savedLight → s.placeFree place home = true → k.kernelLvl = true ∨ s.mayPass home k.tenant = true →
      s.partOk place (spbase % 512 * 4096) k.spSize = true → s.runOk place (accbase % 8) k.accCnt = true →
      (∀ p ∈ s.peers place, p.2.lt.sys.tagown &&& k.lt.sys.tagown = 0) → s.areaPieces kk = .ok ps → s.saveBad id kk false ps = false →
      Gives (exec (.restore id place spbase accbase) s) fun t => t.mem = s.mem ∧ ∃ k' : Ctx, t.ctx place = some k' ∧ k'.res = .resident ∧
        k'.slice = home ∧ k'.lt.sys.ptroot = k.lt.sys.ptroot ∧
        ((∀ st, ∀ part ∈ streamArea (0x800 + 0x800 * st.num) k.saveAt (k.strm st) (k.lt.inFlight st),
            s.getArea ps part.1 part.2.length = part.2 ∧ (queueWords (k.strm st).queue).length ≤ 64) →
          k'.lt.flights.map (·.tgt) = k.lt.flights.map (·.tgt) ∧
          k'.lt.flights.map (·.land) = k.lt.flights.map (fun f => f.land - k.saveAt + s.cycle) ∧ ∀ st, (k'.strm st).queue = (k.strm st).queue) ∧
        (∀ st, ∀ j < 32,
          (k'.strm st).g[j]? = some (BitVec.ofNat 64 (leNat (s.getArea ps (0x8C0 + 0x800 * st.num + 8 * j) 8)))) ∧
        (k.res = .savedForced → k'.mats = k.mats ∧ k'.bnd = k.bnd ∧
          ((∀ f ∈ ctxFields, s.getArea ps f.1 f.2.size = f.2.get k) → ∀ j, j < 8 → (k'.tile j).st = (k.tile j).st) ∧
          ∀ a, a < k.spSize → (t.core (coreOf place)).sp.get (spbase % 512 * 4096 + a) = (s.getArea ps kk.areaPart k.spSize).getD a 0) ∧
        (k.res = .savedLight → k'.bnd = [] ∧ k'.lt.sys.bndshape = 0 ∧ (∀ j, j < 8 → (k'.tile j).st = .empty ∧ (k'.tile j).data = []) ∧
          ∀ a, a < k.spSize → (t.core (coreOf place)).sp.get (spbase % 512 * 4096 + a) = 0)) ∧
    (k.res = .resident → Gives (exec (.kernelEndsContext id) s) fun t => t.mem = s.mem ∧ t.cores = s.cores ∧
      ∃ (k' : Ctx) (r : Report), t.ctx id = some k' ∧ k'.res = .ended ∧ k'.mats = k.mats ∧
        k'.cmds = k.cmds.map (fun c => { c with paused := false }) ∧ k'.pends = k.pends ∧ t.reports = s.reports ++ [r] ∧ r.ctx = if id < 768 then id else k.place) ∧
    (k.res = .resident → k.lt.flights = [] → (∀ st, (k.strm st).lastIssue + 4096 < s.cycle) →
      exec (.contextDrowsy id) s = .next (s.setCtx id { k with drowsy := true })) ∧
    exec (.stateWake id) s = .next (s.setCtx id { k with drowsy := false }) ∧
    (∀ st spec, Gives (exec (.debuggerRead id st (.reg spec)) s) fun t => t.mem = s.mem ∧ t.out = s.out ++ [.regval (readSrc s.cycle k st spec)] ∧
      t.ctx id = some { k with drowsy := false }) ∧
    (∀ st spec v,
      (k.halted = false → exec (.debuggerRead id st (.setReg spec v)) s = .next (s.setCtx id { k with drowsy := false })) ∧
      (k.halted = true → spec.toNat ≤ 15 ∨ regOk spec = true → Gives (exec (.debuggerRead id st (.setReg spec v)) s) fun t => t.mem = s.mem ∧
        t.out = s.out ∧ ∃ k' : Ctx, t.ctx id = some k' ∧ readSrc s.cycle k' st spec = v))) ∧
  (∀ (s : State) (sl : Nat), (∃ p ∈ s.ctxs, p.2.slice = sl ∧ p.2.res = .resident) → (s.slice sl).recall_ = none →
    (∀ p ∈ s.ctxs, p.2.slice = sl → p.2.res = .resident → p.2.lt.sys.recallWord.getLsbD 32 = true) →
    Gives (exec (.recallSlice sl) s) fun t => t.mem = s.mem ∧ (t.slice sl).recall_.isSome = true ∧
      ∀ id k, s.ctx id = some k → k.slice = sl → k.res = .resident → ∃ k' : Ctx, t.ctx id = some k' ∧ k'.res = .saving ∧ k'.saveAt = s.cycle) ∧
  (∀ (s : State) (sl q dl : Nat), (s.slice sl).recall_ = some (q, dl) → Gives (exec (.recallDeadline sl) s) fun t => t.mem = s.mem ∧
    ((∀ p ∈ s.ctxs, p.2.slice = sl → p.2.res ≠ .saving) → t.slice sl = { s.slice sl with
      recall_ := none, lent := false, borrower := 0, barriers := Slice.reset.barriers }) ∧
    ∀ id k, s.ctx id = some k → k.slice = sl → k.res = .saving → q + k.lt.sys.recallWord.toNat % 2 ^ 32 ≤ s.cycle →
      (∃ k' : Ctx, t.ctx id = some k' ∧ k'.res = .lost) ∧ ∃ r ∈ t.reports, r.ctx = (if id < 768 then id else k.place) ∧ r.code = 0x1B ∧ r.grade = some 'S')

/-- 12 R373, 01 R20, R24, R26, 03 R70, 10 R302, 14 R407, R415, 17 R427, 18 R428, R429, 19 R434, 20 R443 to R446, R449: an image that reads has a
header and sections as the container gives them; a launch loads the sections of its image, maps them, writes the addresses of its patches into
launch words and places a context with the values of its image, or is refused with a status and places nothing; a notify reaches its queue's slot,
takes the slot of another queue, or is held; with a released slot the oldest held notify is served; a share that another tenant held is
zeroed. Status 4 for an image that does not read is the model's choice (log entry 50), and so is the mapping of code for execution alone
(log entry 57). -/
def Obligations.LaunchAndOffices : Prop :=
  (∀ (s : State) (cluster : Nat) (r : LaunchRequest) (p : Placement),
    (s.mgmt.boot = .safelight → exec (.contextLaunch cluster r) s = .next { s with out := s.out ++ [.launch 5] }) ∧
    (s.mgmt.boot ≠ .safelight → s.mgmt.draining = true ∨ (s.slice r.slice).drain ≠ .open_ →
      exec (.contextLaunch cluster r) s = .next { s with out := s.out ++ [.launch 2] }) ∧
    (s.mgmt.boot ≠ .safelight → s.mgmt.draining = false → (s.slice r.slice).drain = .open_ → (s.cluster cluster).frozen = false →
      r.read = none → exec (.contextLaunch cluster r) s = .next { s with out := s.out ++ [.launch 4] }) ∧
    ∀ l, r.read = some l →
    (getNat r.file 0 4 = 0x4C4E5250 ∧ getNat r.file 4 2 = 1 ∧ getNat r.file 6 2 = 1 ∧ getNat r.file 0x38 8 = 0 ∧ getNat r.file 0x10 1 ≠ 0 ∧
      (∀ e ∈ secTable r.file, 5 ≤ e.kind ∧ e.kind ≤ 0x10 ∧ e.flags = 0 ∧ e.off + e.size ≤ r.file.length) ∧
      l.spill = getNat r.file 0x0A 2 ∧ l.entry = l.codeLo + getNat r.file 0x0C 4 ∧ l.places = r.places ∧ l.slice = r.slice ∧
      (∀ j, 8 * j + 8 ≤ (secBytes r.file 0x09).length → l.formats[j]? = some (BitVec.ofNat 64 (getNat (secBytes r.file 0x09) (8 * j) 8))) ∧
      ∀ q ∈ l.slots, ∃ j, q = slotEntry (getNat (secBytes r.file 0x0C) (16 * j) 8, getNat (secBytes r.file 0x0C) (16 * j + 8) 8)) ∧
    (∀ s0 s1, s.mgmt.boot ≠ .safelight → s.mgmt.draining = false → (s.slice l.slice).drain = .open_ → (s.cluster cluster).frozen = false →
     launchOk l = true → l.spread cluster = true → l.twinsOk = true → s.slotTableOk l = true →
     (∃ q ∈ (s.cluster cluster).slots, q.2.queue = l.queue) → l.places = [p] → l.twins = [] → s.takeSlice l = some s0 → s0.loadImage l = some s1 →
     s1.placementOk l 0 p = true →
     Gives (exec (.contextLaunch cluster r) s) fun t => t.mem = s1.mem ∧ t.out = s.out ++ [.launch 0] ∧
       (∀ sec ∈ l.sections, ∀ m ∈ sec.maps, ∃ e, walk t.mem p.ptroot m.1 =
         .leaf m.2.pa 65536 (decide (sec.kind ≠ .code)) (decide (sec.kind = .data)) (decide (sec.kind = .code)) false e) ∧
       (∀ pre sec pg, l.sections = pre ++ [sec] → sec.relocs = [] → sec.pages = [pg] → ∀ j, sec.skip ≤ j → j < sec.bytes.length →
         t.mem.get (pg.pa + (sec.va + j - (sec.va + sec.skip) / 65536 * 65536)) = sec.bytes.getD j 0) ∧
       ∃ k : Ctx, t.ctx p.ctx = some k ∧
       k.res = .resident ∧ k.slice = l.slice ∧ k.tenant = l.tenant ∧ k.rank = l.rank ∧ k.lt.next = some l.entry ∧ k.lt.sys.ptroot = p.ptroot ∧
       k.lt.sys.spbase = p.spbase ∧ k.lt.sys.spsize = p.spsize ∧ k.lt.sys.accset = p.accset ∧ k.lt.flights = [] ∧ k.lt.stores = [] ∧
       (∀ j < 16, k.lt.sys.ft[j]? = some (l.formats.getD j 0) ∧ k.lt.sys.bd[j]? = some (l.bonds.getD j 1)) ∧
       (∀ q ∈ l.slots, l.slots = [q] → q.1 = 0 → q.2.1 < 64 → k.lt.sys.slots[q.2.1]? = some q.2.2) ∧
       ∀ st, (k.strm st).queue = [] ∧ (∀ j < 8, (∀ q ∈ l.patches, q.word ≠ j) → (k.strm st).o[j]? = some (p.params.getD j 0)) ∧
         (∀ q sec, l.patches = [q] → sectionAt l.sections q.target = some sec →
           (k.strm st).o[q.word]? = some (BitVec.ofNat 64 (sec.va + q.offset))) ∧
         (∀ j < 32, (k.strm st).g[j]? = some 0) ∧ (∀ j < 16, (k.strm st).q[j]? = some 0) ∧ ∀ j < 8, (k.strm st).p[j]? = some false)) ∧
  (∀ (s : State) (cl queue : Nat) (rank : BitVec 3) (pre : Bool), cl < 24 → queue < 4096 → (s.cluster cl).frozen = false →
    let c := s.cluster cl
    (s.mgmt.boot = .safelight → exec (.launchNotify cl queue rank pre) s = .next { s with out := s.out ++ [.launch 5] }) ∧
    (s.mgmt.boot ≠ .safelight → s.refusing cl = true →
      exec (.launchNotify cl queue rank pre) s = .next { s with out := s.out ++ [.launch 2] }) ∧
    (s.mgmt.boot ≠ .safelight → s.refusing cl = false →
    ((∃ q ∈ c.slots, q.2.queue = queue) → Gives (exec (.launchNotify cl queue rank pre) s) fun t => (t.cluster cl).slots = c.slots ∧
      (t.cluster cl).notified = c.notified ++ [queue]) ∧
    (∀ slot, (∀ q ∈ c.slots, q.2.queue ≠ queue) → s.slotFor cl = some slot → Gives (exec (.launchNotify cl queue rank pre) s) fun t =>
      t.ctxs = s.ctxs ∧ Sparse.get (t.cluster cl).slots slot = some ⟨queue, rank, pre⟩ ∧ (t.cluster cl).notified = c.notified ++ [queue]) ∧
    ((∀ q ∈ c.slots, q.2.queue ≠ queue) → s.slotFor cl = none → Gives (exec (.launchNotify cl queue rank pre) s) fun t =>
      (t.cluster cl).slots = c.slots ∧ t.mgmt.cause.getLsbD 1 = true ∧ ∃ n ∈ (t.cluster cl).held ++ (t.cluster cl).overflow, n.queue = queue))) ∧
  (∀ (s : State) (cl slot : Nat) (n : Notify) (rest : List Notify), (s.cluster cl).frozen = false →
    (Sparse.get (s.cluster cl).slots slot).isSome = true → s.refusing cl = false → (s.cluster cl).held = n :: rest →
    let free := Sparse.erase (s.cluster cl).slots slot
    let s1 := s.setCluster cl { s.cluster cl with slots := free, held := rest }
    ((∃ q ∈ free, q.2.queue = n.queue) → Gives (exec (.slotRelease cl slot) s) fun t => (t.cluster cl).held = rest ∧
      (t.cluster cl).slots = free ∧ (t.cluster cl).notified = (s.cluster cl).notified ++ [n.queue]) ∧
    (∀ m, (∀ q ∈ free, q.2.queue ≠ n.queue) → s1.slotFor cl = some m → Gives (exec (.slotRelease cl slot) s) fun t => (t.cluster cl).held = rest ∧
      Sparse.get (t.cluster cl).slots m = some ⟨n.queue, n.rank, n.preempt⟩ ∧ (t.cluster cl).notified = (s.cluster cl).notified ++ [n.queue])) ∧
  (∀ (s : State) (id : Nat) (k : Ctx), s.ctx id = some k → k.zeroing = true →
    (s.sramHeld k = true → exec (.allottedShareZeroed id) s = .next s) ∧
    (s.sramHeld k = false → Gives (exec (.allottedShareZeroed id) s) fun t => t.mem = s.mem ∧ t.ctx id = some { k with zeroing := false } ∧
      (∀ c ∈ s.sliceClusters k.slice, (t.cluster c).tenant = some k.tenant ∧
        ((s.cluster c).tenant.any (· != k.tenant) = true → (t.cluster c).sram = [])) ∧
      ∀ a, (t.core (coreOf id)).sp.get a =
        if k.spBase ≤ a ∧ a < k.spBase + k.spSize ∧ (Sparse.get (s.core (coreOf id)).spTenant (a / 4096)).any (· != k.tenant) = true then 0
        else (s.core (coreOf id)).sp.get a))

/-- 04 R136, 13 R377 to R379, R383 to R389, R391, R393: a word whose copy differs is marked, and raises 0x12 four cycles after its issue, its
command never to start; a rollback brings the shadow and the pre-images back; corrected errors are counted, others mark what they hit as
poisoned; a scrub changes nothing; a self-test puts a core back in service; the copies of a paired kernel are compared; the monitor restarts
the kernel. That a comparison that agrees leaves memory as it was, the rewriting of leaf entries and the scrub being the kernel's own steps,
is the model's choice (log entry 14). -/
def Obligations.ErrorsAndRecovery : Prop :=
  (∀ (s : State) (id pc : Nat) (k : Ctx), s.ctx id = some k →
    exec (.checkerCheck id true pc) s = .next s ∧
    Gives (exec (.checkerCheck id false pc) s) (fun t => t.mem = s.mem ∧ t.cores = s.cores ∧ ∃ k' : Ctx, t.ctx id = some k' ∧ k'.lt.faults = k.lt.faults ∧
      ∀ st i, (k.strm st).recent = [i] → i.pc = pc → i.bad = false → s.cycle < i.cycle + 4 → checked st i.word i.cont = true →
        (k'.strm st).recent = [{ i with bad := true }]) ∧
    (k.res = .resident → ∀ st, ∀ i ∈ (k.strm st).recent, i.bad = true → i.cycle + 4 ≤ s.cycle → (k.mismatchDue s.cycle).isSome = true) ∧
    ∀ st i, k.res ≠ .ended → k.mismatchDue s.cycle = some (st, i) → Gives (checkDue id s) fun t => t.mem = s.mem ∧ t.cores = s.cores ∧
      ∃ (k' : Ctx) (f : PendFault), t.ctx id = some k' ∧ k'.lt.faults = k.lt.faults ++ [f] ∧ f.strm = st ∧ f.code = 0x12 ∧ f.sync = false ∧
        f.info = BitVec.ofNat 64 (i.pc % 2 ^ 48) ∧ (∀ c ∈ k'.cmds, c.strm = st → c.issued = i.cycle → c.admitted = true) ∧
        (st = .x → ∀ m ∈ k'.mats, m.issued = i.cycle → m.bind.dispatched = true)) ∧
  (∀ (s : State) (id : Nat) (k : Ctx) (f : PendFault) (l : Light), s.ctx id = some k → k.shadow = some l → s.undoes id k = some f →
    let core := coreOf id
    let sh : Ctx := { k with lt := l }
    Gives (undo id s) fun t => t.mem = s.mem ∧ (∃ r : Report, t.reports = s.reports ++ [r] ∧ r.ctx = id ∧ r.code = f.code ∧ r.grade = some 'N') ∧
      (∀ a, (∀ p ∈ k.preSp, p.1 ≠ a / 512) → (t.core core).sp.get a = (s.core core).sp.get a) ∧
      (∀ p, k.preSp = [p] → Memory.wf p.2 = true → (∀ c ∈ p.2, c.1 / 512 = p.1) → ∀ a, a / 512 = p.1 →
        (t.core core).sp.get a = Memory.get p.2 a) ∧
      ∃ k' : Ctx, t.ctx id = some k' ∧ k'.tiles = k.shTiles ∧ k'.lt.sys = l.sys ∧ k'.lt.faults = l.faults ∧ k'.rank = k.shRank ∧
        k'.bnd = k.preBnd.getD k.bnd ∧ k'.pends = k.pends.filter (fun p => decide (p.ord < k.expOrd)) ∧
        k'.cmds = k.cmds.filter (fun c => decide (c.ord < k.expOrd)) ∧
        ∀ st, (k'.strm st).q = (sh.strm st).q ∧ (k'.strm st).o = (sh.strm st).o ∧ (k'.strm st).g = (sh.strm st).g ∧
          (k'.strm st).p = (sh.strm st).p ∧ (k'.strm st).queue = (sh.strm st).queue) ∧
  (∀ (s : State) (b : Nat), exec (.patrolScrub b) s = .next s) ∧
  (∀ (s : State) (loc : Loc),
    (∀ c, locCore loc = some c → Gives (exec (.softError loc true) s) fun t => t.mem = s.mem ∧ t.poison = s.poison ∧ t.ctxs = s.ctxs ∧
      (t.core c).rel.ce = Nat.min ((s.core c).rel.ce + 1) (2 ^ 20 - 1) ∧ (t.core c).sp = (s.core c).sp ∧ (t.core c).acc = (s.core c).acc) ∧
    ((∀ c, loc ≠ .copy c) → (∀ l, loc ≠ .residue l) → locCtx loc = none → Gives (exec (.softError loc false) s) fun t => t.mem = s.mem ∧
      t.ctxs = s.ctxs ∧ t.cores = s.cores ∧ loc ∈ t.poison ∧ (∀ x ∈ s.poison, x ∈ t.poison) ∧
      t.mgmt.uncorrected = s.mgmt.uncorrected ++ [(loc, s.cycle)])) ∧
  (∀ (s : State) (id : Nat) (k : Ctx), s.ctx id = some k →
    (∀ r, Gives (exec (.softError (.file id r) false) s) fun t => t.mem = s.mem ∧ t.cores = s.cores ∧ t.poison = s.poison ∧
      ∃ k' : Ctx, t.ctx id = some k' ∧ r ∈ k'.lt.bad ∧ k'.lt.flights = k.lt.flights ∧ SameRegs k k') ∧
    (k.res = .resident → (k.strm .c).vote.isSome = true →
      (Gives (exec (.softError (.copy id) true) s) fun t => t.mem = s.mem ∧ t.ctxs = s.ctxs ∧
        (t.core (coreOf id)).rel.vt = Nat.min ((s.core (coreOf id)).rel.vt + 1) 4095 ∧
        ∃ r : Report, t.reports = s.reports ++ [r] ∧ r.ctx = id ∧ r.grade = some 'N') ∧
      ∃ f : PendFault, exec (.softError (.copy id) false) s = .next (s.setCtx id (k.raise f)) ∧ f.code = 0x12 ∧ f.strm = .c ∧ f.sync = true)) ∧
  (∀ (s : State) (c : Nat), Gives (exec (.coreSelfTestPassed c) s) fun t => t.mem = s.mem ∧ t.ctxs = s.ctxs ∧ (t.core c).rel.off = false) ∧
  (∀ (s : State) (a i j : Nat) (k m : Ctx), a % 2 = 0 → s.ctxs = [(i, k), (j, m)] → i < j → dieOf i = a → dieOf j = a + 1 →
    k.paired = true → m.paired = true → k.res = .ended → m.res = .ended →
    (k.sig = m.sig → Gives (exec (.pairedCompare a (a + 1)) s) fun t => t.mem = s.mem ∧ t.reports = s.reports ∧ t.cores = s.cores ∧
      (∀ e ∈ t.tlb, e.root ≠ k.lt.sys.ptroot.toNat / 2 ^ 12 % 2 ^ 36) ∧ ∃ k' : Ctx, t.ctx i = some k' ∧ k'.paired = false) ∧
    (k.sig ≠ m.sig → Sparse.get s.mgmt.disagreed a = none → Gives (exec (.pairedCompare a (a + 1)) s) fun t => t.reports = s.reports ∧
      Sparse.get t.mgmt.disagreed a = some 1) ∧
    (k.sig ≠ m.sig → Sparse.get s.mgmt.disagreed a = some 1 → Gives (exec (.pairedCompare a (a + 1)) s) fun t => ∃ r : Report,
      t.reports = s.reports ++ [r] ∧ r.ctx = i ∧ r.code = 0x12 ∧ r.grade = some 'S' ∧ t.mgmt.cause.getLsbD 6 = true)) ∧
  (∀ (s : State) (ok : Bool), s.mgmt.boot = .safelight → exec (.kernelRestart ok) s = .next s) ∧
  (∀ s : State, s.mgmt.update = none → s.mgmt.boot ≠ .safelight →
    (∀ ok, s.mgmt.restarting = false → Gives (exec (.kernelRestart ok) s) fun t => t.mem = s.mem ∧ t.ctxs = s.ctxs ∧
      t.mgmt.restarting = true ∧ ∀ cl, cl < 24 → (t.cluster cl).frozen = true) ∧
    (s.mgmt.restarting = true → Gives (exec (.kernelRestart true) s) fun t => t.mem = s.mem ∧ t.ctxs = s.ctxs ∧ t.mgmt.restarting = false ∧
      ∀ cl, cl < 24 → (t.cluster cl).frozen = false) ∧
    (s.mgmt.restarting = true → s.mgmt.restarts = 1 → Gives (exec (.kernelRestart false) s) fun t => t.mgmt.draining = true))

/-- 14 R396 to R400, R402, R404 to R407, R410, R413, R415, R417, 11 R328, 19 R430: accesses of the host, of devices and of the application
cores; the context control window; interrupt causes; links; the start of the package; live update; the contact sheet, drains, power. The model's choices: removing power clears device memory (log entry
22); the slot that has started is the active one (log entry 70); the tables of the host's window, of root ports and of application cores have the form of a context's, and an access to a page pending
scrub is held (log entry 16). -/
def Obligations.HostAndManagement : Prop :=
  (∀ (s : State) (table addr : Nat) (bytes : List Byte) (pa : Nat),
    let rd (o : Host.Outcome State Fault Refusal) : Prop := s.hostPieces table false addr bytes.length = some ([(pa, bytes.length)], false) →
      o = .next { s with out := s.out ++ [.data (s.mem.read pa bytes.length)] }
    let wr (o : Host.Outcome State Fault Refusal) : Prop := s.hostPieces table true addr bytes.length = some ([(pa, bytes.length)], false) →
      Gives o fun t => t.ctxs = s.ctxs ∧ t.out = s.out ∧ ∀ a, t.mem.get a =
        if pa ≤ a ∧ a < pa + bytes.length then bytes.getD (a - pa) 0 else s.mem.get a
    let waits (write : Bool) (o : Host.Outcome State Fault Refusal) : Prop :=
      ∀ ps, s.hostPieces table write addr bytes.length = some (ps, true) → Gives o fun t => t.mem = s.mem ∧ t.ctxs = s.ctxs ∧ t.out = s.out ∧
        t.mgmt.held.length = s.mgmt.held.length + 1
    (table = 0 → addr + bytes.length ≤ 2 ^ 36 →
      let r := exec (.hostMemoryRead (.memory addr) bytes.length) s
      let w := exec (.hostMemoryWrite (.memory addr) bytes) s
      rd r ∧ wr w ∧ waits false r ∧ waits true w ∧
      (s.hostPieces 0 false addr bytes.length = none → r = .next { s with out := s.out ++ [.abort] }) ∧
      (s.hostPieces 0 true addr bytes.length = none → w =
        .next { s with mgmt := { s.mgmt with errors := s.mgmt.errors + 1 }, out := s.out ++ [.linkError] })) ∧
    (∀ port, port < 4 → table = 1 + port → rd (exec (.rootPortDma port addr false bytes) s) ∧ wr (exec (.rootPortDma port addr true bytes) s) ∧
      waits false (exec (.rootPortDma port addr false bytes) s) ∧ waits true (exec (.rootPortDma port addr true bytes) s)) ∧
    (∀ root va pa size r w ex entry, Sparse.get s.mgmt.roots table = some root → s.ctx (768 + table) = none → table < 6 →
      walk s.mem root va = .leaf pa size r w ex true entry → s.mem.wf = true → entry < pa ∨ pa + size ≤ entry →
      Gives (exec (.pageScrub (768 + table) va) s) fun t => (∀ a, pa ≤ a → a < pa + size → t.mem.get a = 0) ∧
        (∀ a, a < pa ∨ pa + size ≤ a → a ≠ entry → t.mem.get a = s.mem.get a) ∧ t.mem.get entry = s.mem.get entry - 32 ∧ t.mgmt = s.mgmt) ∧
    (∀ v, table < 6 → Gives (exec (.contextWindowWrite .kernel 512 (8 * table) v) s) fun t => t.mem = s.mem ∧ t.ctxs = s.ctxs ∧
      Sparse.get t.mgmt.roots table = some v) ∧
    (∀ v, v.getLsbD 0 = true → Gives (exec (.contextWindowWrite .kernel 512 48 v) s) fun t => t.mem = s.mem ∧ t.ctxs = s.ctxs ∧
      t.mgmt.sheetMap = some (v.toNat / 2 ^ 16 * 2 ^ 16)) ∧
    (∀ m, s.mgmt.sheetMap = some m → m ≤ addr → addr + bytes.length ≤ m + 65536 →
      exec (.applicationCoreAccess addr true bytes) s = .next s ∧
      exec (.applicationCoreAccess addr false bytes) s = .next { s with out := s.out ++ [.data (s.sheetRead (addr - m) bytes.length)] }) ∧
    (table = 5 → s.mgmt.sheetMap = none →
      rd (exec (.applicationCoreAccess addr false bytes) s) ∧ wr (exec (.applicationCoreAccess addr true bytes) s)) ∧
    exec (.hostMemoryWrite (.sheet addr) bytes) s = .next s ∧
    exec (.hostMemoryRead (.sheet 8) 8) s = .next { s with out := s.out ++ [.data (leBytes 8 s.mgmt.gen)] }) ∧
  (∀ (s : State) (party : Party) (id n page off : Nat) (v : Word) (k : Ctx), s.ctx id = some k → id < 768 → n < 256 →
    4096 * page + off = 0x80000 + 0x800 * id + 8 * n →
    (s.windowOpen party = true → sysOk n = true → Gives (exec (.contextWindowRead party page off) s) fun t =>
      t.out = s.out ++ [.window (sysRead s.cycle id k n) false] ∧ t.mem = s.mem ∧ t.ctx id = some { k with drowsy := false }) ∧
    (s.windowOpen party = false ∨ sysOk n = false →
      exec (.contextWindowRead party page off) s = .next { s with out := s.out ++ [.window 0 true] } ∧
      exec (.contextWindowWrite party page off v) s = .next { s with out := s.out ++ [.window 0 true] }) ∧
    (s.windowOpen party = true → sysValueOk n v = true →
      (n ∈ [0x000, 0x008, 0x009, 0x00D, 0x050, 0x056, 0x063, 0x064] → n ≠ 0x000 ∨ k.res ≠ .resident ∧ k.res ≠ .saving →
        Gives (exec (.contextWindowWrite party page off v) s) fun t => t.out = s.out ++ [.window 0 false] ∧ t.mem = s.mem ∧
          ∃ k' : Ctx, t.ctx id = some k' ∧ sysRead t.cycle id k' n = v) ∧
      (n = 0x000 → k.res = .resident ∨ k.res = .saving → Gives (exec (.contextWindowWrite party page off v) s) fun t =>
        t.out = s.out ++ [.window 0 false] ∧ t.mem = s.mem ∧ (∃ k' : Ctx, t.ctx id = some k' ∧ k'.rank = k.rank ∧ k'.lt.flights = k.lt.flights) ∧
          ∃ k2 : Ctx, t.tick.ctx id = some k2 ∧ k2.rank = v.setWidth 3))) ∧
  (∀ (s : State) (party : Party) (c : Nat) (v : Word),
    exec (.contextWindowRead party 0 0) s = .next { s with out := s.out ++ [.window s.mgmt.bootWord false] } ∧
    exec (.contextWindowRead party 0 0x40) s = .next { s with out := s.out ++ [.window (s.mgmt.cause.setWidth 64) false] } ∧
    (c < 192 → exec (.contextWindowRead party 0x10 (8 * c)) s = .next { s with out := s.out ++ [.window (s.core c).rel.word false] }) ∧
    exec (.contextWindowWrite party 0 0x40 v) s = .next { s with mgmt := { s.mgmt with cause := s.mgmt.cause &&& ~~~(v.setWidth 8) } } ∧
    exec (.contextWindowWrite party 1 0x40 v) s =
      .next { s with mgmt := { s.mgmt with asked := s.mgmt.asked ++ [(party, s.mgmt.mbox, v.setWidth 16)] } }) ∧
  (∀ (s : State) (mask : BitVec 8), exec (.interruptCauseClear mask) s =
    .next { s with mgmt := { s.mgmt with cause := s.mgmt.cause &&& ~~~mask } }) ∧
  (∀ (s : State) (port cls : Nat) (crcOk : Bool) (f : Flit), port < 64 →
    ((s.port port).lanes = 2 → Gives (exec (.laneFailure port) s) fun t => t.mem = s.mem ∧ (t.port port).lanes = 1 ∧
      ∀ id k, s.ctx id = some k → ∃ k' : Ctx, t.ctx id = some k' ∧ k'.lt = k.lt ∧ k'.cmds.map (·.moved) = k.cmds.map (·.moved)) ∧
    (Gives (exec (.portDown port) s) fun t => t.mem = s.mem ∧ (t.port port).lanes = 0 ∧ (t.port port).injector = none ∧
      ∀ id k c, s.ctxs = [(id, k)] → k.cmds = [c] → c.kind = .send → c.through = false → c.fault = 0 → (k.slotOf c.slot).path = 5 →
        (k.slotOf c.slot).port = port → ∃ (k' : Ctx) (c' : Cmd), t.ctx id = some k' ∧ k'.cmds = [c'] ∧ c'.fault = 0x13 ∧ c'.moved = c.moved ∧
          c'.ahead = none) ∧
    ((s.port port).lanes ≠ 0 →
      (crcOk = false → exec (.flitArrival port cls crcOk f) s = .next (s.setPort port { s.port port with replays := (s.port port).replays + 1 })) ∧
      (crcOk = true → cls = 0 → (s.port port).injector = none ∨ (∃ h, f = .header h) →
        Gives (exec (.flitArrival port cls crcOk f) s) fun t => (t.port port).rx = (s.port port).rx ++ [f] ∧
          (t.port port).injector = (s.port port).injector) ∧
      (∀ src bs n b since, crcOk = true → cls = 0 → f = .data src bs → bs.length = 64 → b < 512 → (s.port port).injector = some ⟨n, b, since⟩ →
        1 ≤ n → Gives (exec (.flitArrival port cls crcOk f) s) fun t =>
          if s.cycle ≤ since then (t.port port).injector = some ⟨n, b, since⟩ ∧ (t.port port).rx = (s.port port).rx ++ [f]
          else if n = 1 then (t.port port).injector = none ∧ ∃ cs, (t.port port).rx = (s.port port).rx ++ [.data src cs] ∧ cs.length = 64 ∧
            ∀ j i, j < 64 → i < 8 → (cs.getD j 0).getLsbD i = ((bs.getD j 0).getLsbD i ^^ decide (b = 8 * j + i))
          else (t.port port).injector = some ⟨n - 1, b, since⟩ ∧ (t.port port).rx = (s.port port).rx ++ [f]))) ∧
  (∀ (s : State) (i : Image), s.mgmt.boot = .rom → s.mgmt.powered = true → s.mgmt.failcnt = 0 →
    let slot := if s.mgmt.failed then !s.mgmt.bootSlot else s.mgmt.active
    s.mgmt.image slot = some i →
    ((∃ n ∈ [2, 3, 4], Config.firmwareOk n = false) → Gives (exec (.powerOnReset false false true true) s) fun t =>
      t.mgmt.failcnt = 1 ∧ t.mgmt.reason = 1) ∧
    ((∀ n ∈ [2, 3, 4], Config.firmwareOk n = true) → (∃ n ∈ [2, 3, 4], Config.firmwareVersion n < s.mgmt.arb) →
      Gives (exec (.powerOnReset false false true true) s) fun t => t.mgmt.failcnt = 1 ∧ t.mgmt.reason = 2) ∧
    ((∀ n ∈ [2, 3, 4], Config.firmwareOk n = true ∧ s.mgmt.arb ≤ Config.firmwareVersion n) →
    (Config.sigOk i = true → s.mgmt.arb ≤ i.version → Gives (exec (.powerOnReset false false true true) s) fun t =>
      t.mgmt.boot = .monitor ∧ t.mgmt.bootSlot = slot ∧ t.mgmt.waiting = some (s.cycle + 2 * Config.second)) ∧
    (Config.sigOk i = false → Gives (exec (.powerOnReset false false true true) s) fun t => t.mgmt.failcnt = 1 ∧ t.mgmt.reason = 1) ∧
    (Config.sigOk i = true → i.version < s.mgmt.arb → Gives (exec (.powerOnReset false false true true) s) fun t =>
      t.mgmt.failcnt = 1 ∧ t.mgmt.reason = 2))) ∧
  (∀ (s : State) (till : Nat), s.mgmt.waiting = some till →
    (s.cycle ≤ till → Gives (exec .kernelHeartbeat s) fun t => t.mgmt.boot = .kernel ∧ t.mgmt.failcnt = 0 ∧ t.mgmt.active = s.mgmt.bootSlot) ∧
    (till < s.cycle → Gives (exec .heartbeatTimeout s) fun t => t.mgmt.failcnt = Nat.min (s.mgmt.failcnt + 1) 3 ∧ t.mgmt.reason = 3 ∧
      t.mgmt.boot = if 2 ≤ s.mgmt.failcnt then .safelight else .rom)) ∧
  (∀ (s : State) (u : Update), s.mgmt.update = some u →
    (s.updateDue = true → s.mgmt.stagedOk = true → Config.knows s.mgmt.images.2 (Config.handover s.mgmt.images.1) = true →
      updateNow s = .next { s with mgmt := { s.mgmt with
        update := some { u with kernelAt := some s.cycle, handover := Config.handover s.mgmt.images.1 } } }) ∧
    (s.updateDue = true → s.mgmt.restarting = false → s.mgmt.stagedOk = false → Gives (updateNow s) fun t => t.mgmt.update = none ∧
      t.mgmt.active = s.mgmt.active ∧ t.mgmt.cause.getLsbD 5 = true ∧ ∀ cl, cl < 24 → (t.cluster cl).frozen = false) ∧
    (∀ t0, u.kernelAt = some t0 → s.cycle ≤ t0 + Config.second / 10 → Gives (exec .updateCommit s) fun t => t.mgmt.update = none ∧
      t.mgmt.active = (!s.mgmt.active) ∧ t.mgmt.cause.getLsbD 5 = true ∧ ∀ cl, cl < 24 → (t.cluster cl).frozen = false) ∧
    (u.kernelAt = none → exec .updateCommit s = .next s) ∧
    (∀ t0, u.kernelAt = some t0 → s.cycle ≤ t0 + Config.second / 10 → exec .updateRollback s = .next s) ∧
    (u.kernelAt = none ∨ (∃ t0, u.kernelAt = some t0 ∧ t0 + Config.second / 10 < s.cycle) → s.mgmt.restarting = false →
      Gives (exec .updateRollback s) fun t => t.mgmt.update = none ∧ t.mgmt.active = s.mgmt.active ∧
      t.mgmt.cause.getLsbD 5 = true ∧ ∀ cl, cl < 24 → (t.cluster cl).frozen = false)) ∧
  (∀ (s : State) (i : Image), s.mgmt.staging = some i → Gives (exec .imageStageDone s) fun t => t.mgmt.image (!s.mgmt.active) = some i ∧
    t.mgmt.staged = true ∧ t.mgmt.image s.mgmt.active = s.mgmt.image s.mgmt.active ∧ t.mgmt.cause.getLsbD 5 = true) ∧
  (∀ (s : State) (n : Nat),
    (n < 24 → (s.slice n).drain = .draining → (∀ p ∈ s.ctxs, p.2.slice = n → s.occupies p = false) →
      Gives (exec (.sliceDrained n) s) fun t => (t.slice n).drain = .drained ∧ t.mgmt.cause.getLsbD 3 = true) ∧
    (Gives (exec .contactSheetSample s) fun t => t.mgmt.gen = s.mgmt.gen + 1 ∧
      (if s.mgmt.gen % 2 = 0 then t.mgmt.buf1 = s.sample ∧ t.mgmt.buf0 = s.mgmt.buf0 else t.mgmt.buf0 = s.sample ∧ t.mgmt.buf1 = s.mgmt.buf1)) ∧
    (Gives (exec (.powerLimit n) s) fun t => t.cycle = s.cycle ∧ (t.mgmt.limiting = true ↔ s.mgmt.cap < n) ∧
      (s.mgmt.cap < n → s.mgmt.limiting = false → t.mgmt.cause.getLsbD 7 = true)) ∧
    (105 ≤ n → Gives (exec (.thermalDrain n) s) fun t => t.mgmt.draining = true ∧ t.mgmt.cause.getLsbD 7 = true) ∧
    (115 ≤ n → Gives (exec (.thermalPowerOff n) s) fun t => t.mgmt.powered = false ∧ t.ctxs = [] ∧ t.mem = []))

/-- 14 R401, R407 to R409, R415, R417, 12 R374, 19 R430: every mailbox command answers busy, denied, bad argument or not available in safelight
mode, in this order (log entry 23), and else has its effect and answers done; the SPDM responder answers its seven requests. The model's choices: arguments and answers stand
in word 1, and the cap's unit is the milliwatt (log entry 66); RESET_PACKAGE clears the contexts and keeps device memory (log entry 22);
GET_MEASUREMENTS answers an index that R409 does not give with ERROR (log entry 70). -/
def Obligations.MailboxAndAttestation : Prop :=
  (∀ (s : State) (q : Mbx) (n port cnt b : Nat) (g : Bool) (img : Image),
    let served (safe bad : Bool) (o : Host.Outcome State Fault Refusal) (P : State → Word → Prop) : Prop :=
      let answer (status : Nat) : Prop := Gives o fun t => t.mem = s.mem ∧ t.ctxs = s.ctxs ∧ t.slices = s.slices ∧
        t.out.getLast? = some (if s.mgmt.cause.getLsbD 0 then .mailbox q.seq status 0 else .vector 0) ∧ .mailbox q.seq status 0 ∈ t.out ∧
        t.mgmt.answer = (BitVec.ofNat 64 (status + q.seq.toNat * 2 ^ 16), 0)
      (s.kernelBusy = true → answer 1) ∧
      (s.kernelBusy = false → q.auth = false → answer 3) ∧
      (s.kernelBusy = false → q.auth = true → bad = true → answer 4) ∧
      (s.kernelBusy = false → q.auth = true → bad = false → s.mgmt.boot = .safelight → safe = false → answer 5) ∧
      (s.kernelBusy = false → q.auth = true → bad = false → s.mgmt.boot ≠ .safelight ∨ safe = true →
        Gives o fun t => t.mgmt.cause.getLsbD 0 = true ∧ ∃ v : Word, .mailbox q.seq 0 v ∈ t.out ∧
          t.mgmt.answer = (BitVec.ofNat 64 (q.seq.toNat * 2 ^ 16), v) ∧ P t v)
    served true false (exec (.readGeneration q) s) (fun t v => v = BitVec.ofNat 64 s.mgmt.gen ∧ t.ctxs = s.ctxs ∧
      .sheet s.mgmt.sheet ∈ t.out) ∧
    served false (decide (24 ≤ n)) (exec (.drainSlice q n) s) (fun t _ => (t.slice n).drain ≠ .open_ ∧
      ((s.slice n).lent = false → t.ctxs = s.ctxs)) ∧
    served false false (exec (.drainPackage q) s) (fun t _ => t.mgmt.draining = true ∧ ∀ j, j < 24 → (t.slice j).drain ≠ .open_) ∧
    served false (decide (24 ≤ n)) (exec (.reopenSlice q n) s) (fun t _ => (t.slice n).drain = .open_ ∧ t.ctxs = s.ctxs) ∧
    served false false (exec (.reopenPackage q) s) (fun t _ => t.mgmt.draining = false ∧ ∀ j, (t.slice j).drain = .open_) ∧
    served false (!s.placed n) (exec (.haltContext q n) s) (fun t _ => ∃ k : Ctx, t.ctx n = some k ∧ k.halted = true) ∧
    served false (!s.placed n) (exec (.resumeContext q n) s) (fun t _ => ∃ k : Ctx, t.ctx n = some k ∧ k.halted = false ∧ k.stopped = []) ∧
    served false false (exec (.grantWindow q g) s) (fun t _ => t.mgmt.granted = g) ∧
    served true false (exec (.stageImage q img) s) (fun t _ => t.mgmt.staging = some img) ∧
    served false (!s.mgmt.staged) (exec (.liveUpdate q) s) (fun t _ => t.mgmt.update.isSome = true ∧
      ∀ cl, cl < 24 → (t.cluster cl).frozen = true) ∧
    served false (decide (n < 1000000) || decide (2200000 < n)) (exec (.setPowerCap q n) s) (fun t _ => t.mgmt.cap = n ∧
      (t.mgmt.limiting = true ↔ n < s.mgmt.power)) ∧
    served true false (exec (.resetPackage q) s) (fun t _ => t.ctxs = [] ∧ t.mgmt.boot = .rom ∧
      (s.mgmt.boot = .safelight → s.mgmt.staged = true → t.mgmt.failcnt = 0)) ∧
    served false (decide (63 < port) || cnt == 0 || decide (2 ^ 32 ≤ cnt) || decide (511 < b)) (exec (.armInjector q port cnt b) s)
      (fun t _ => (t.port port).injector = some ⟨cnt, b, s.cycle⟩)) ∧
  (∀ (s : State) (p : Party) (ws : Vector Word 8) (seq : BitVec 16) (rest : List (Party × Vector Word 8 × BitVec 16)),
    s.mgmt.asked = (p, ws, seq) :: rest →
    let s1 : State := { s with mgmt := { s.mgmt with asked := rest } }
    let code := ws[0].toNat % 2 ^ 8
    (code = 0x01 → mailboxNow s = exec (.readGeneration ⟨seq, Config.mayAsk p 0x01⟩) s1) ∧
    (code = 0x22 → mailboxNow s = exec (.grantWindow ⟨seq, p == .kernel⟩ (ws[1].getLsbD 0)) s1) ∧
    (code = 0x32 → mailboxNow s = exec (.setPowerCap ⟨seq, Config.mayAsk p 0x32⟩ ws[1].toNat) s1) ∧
    (code = 0x40 → mailboxNow s = exec (.armInjector ⟨seq, p == .kernel⟩ (ws[1].toNat % 2 ^ 6) (ws[2].toNat % 2 ^ 32) (ws[3].toNat % 2 ^ 9)) s1)) ∧
  (∀ (s : State) (q : SpdmArgs) (n : Nat),
    let sends (o : Host.Outcome State Fault Refusal) (name : String) (body : List Byte) : Prop :=
      o = .next { s with out := s.out ++ [.spdm name body] }
    (Gives (exec .getVersion s) fun t => t.out = s.out ++ [.spdm "VERSION" [0x13]] ∧ t.mgmt.version = true) ∧
    (s.mgmt.version = true → sends (exec .getCapabilities s) "CAPABILITIES" [] ∧
      Gives (exec (.negotiateAlgorithms true) s) fun t => t.out = s.out ++ [.spdm "ALGORITHMS" []] ∧ t.mgmt.algorithms = true) ∧
    (s.mgmt.algorithms = true →
      sends (exec .getDigests s) "DIGESTS" (digestBytes (Config.sha384 Config.certChain)) ∧
      sends (exec (.getCertificate 0) s) "CERTIFICATE" Config.certChain ∧
      (n ≠ 0 → sends (exec (.getCertificate n) s) "ERROR" []) ∧
      (q.slot = 0 → Gives (exec (.challenge q) s) fun t => ∃ body, t = { s with out := s.out ++ [.spdm "CHALLENGE_AUTH" body] } ∧
        digestBytes (Config.sha384 s.mgmt.allMeasurements) <+: body) ∧
      (1 ≤ q.index → q.index ≤ 6 → Gives (exec (.getMeasurements q) s) fun t => ∃ m sig, s.mgmt.measurement q.index = some m ∧
        t = { s with out := s.out ++ [.spdm "MEASUREMENTS" (m ++ sig)] }) ∧
      (q.index = 0 ∨ 6 < q.index ∧ q.index ≠ 0xFF → sends (exec (.getMeasurements q) s) "ERROR" [])))

/-! What no word of a stream does -/

/-- The frame of every word of a stream (01 R18 to R25, 03 R71 to R76, 12 R363): what a word leaves alone when it issues, waits or faults. Other
contexts, slices, clusters, the scratchpads and accumulators of every core, and time stay as they are; device memory does, but for the
words that hand work to an engine and thereby make the acquire atomics before them take effect (11 R331), and for FIX, SWAP and BAR, which
publish in their issue cycle when the store buffer is empty (11 R345): in either case nothing but the words of atomics under way may change, and
under BAR the slices. No register, predicate, spill slot, mask or codebook of the context
changes at issue, a return from a handler apart (12 R361): results go in flight behind those there, of the word's own stream, and land in a
later cycle; and a write of a system register goes in flight only where the level may write it. The system registers themselves differ at
most in the counts of the tile tags that admit the word's access (05 R158: one more admitted, and of TCON and MASK, which read at issue, one more
complete), in sys.tinfo1, where BKPT puts its number (12 R374), in tin, which a return from
a handler clears, and in cur of a pair that SWAP names (11 R347), in a C that waits for nothing of its own. -/
def Obligations.WordFrame : Prop :=
  ∀ (s t : State) (k : Ctx) (i : Instr), s.sel.seq = false → s.ctx s.sel.ctx = some k → WordOf s.sel.st i → exec i s = .next t →
    t.cycle = s.cycle ∧ (∀ j, j ≠ s.sel.ctx → t.ctx j = s.ctx j) ∧ (publishes i = false → t.slices = s.slices) ∧
    t.clusters = s.clusters ∧ (∀ c, (t.core c).sp = (s.core c).sp ∧ (t.core c).acc = (s.core c).acc) ∧
    (pushesEngine i = false → publishes i = false → t.mem = s.mem) ∧
    (∀ b, (∀ a ∈ k.atoms, b < a.pa ∨ a.pa + 8 ≤ b) → t.mem.get b = s.mem.get b) ∧
    ∃ k' : Ctx, t.ctx s.sel.ctx = some k' ∧ (returnsFromTrap i = false → SameRegs k k') ∧
      (∃ fs : List Flight, k'.lt.flights = k.lt.flights ++ fs ∧ ∀ f ∈ fs, f.strm = s.sel.st ∧ s.cycle < f.land ∧ k.lt.ord ≤ f.ord ∧
        ∀ n, f.tgt = .sys n → k.maySysWrite n = true) ∧
      (∃ tags ti tc db, k'.lt.sys = { k.lt.sys with tags := tags, tinfo1 := ti, tcause := tc, dbuf := db } ∧
        (∀ n < 32, let u := k.tagAt n
          (∃ x ≤ 1, ∃ y ≤ 1, k'.tagAt n = { u with wadm := u.wadm + x, radm := u.radm + y }) ∨
            readsAtOnce i = true ∧ u.en = true ∧ k'.tagAt n = u.readThrough) ∧
        (ti = k.lt.sys.tinfo1 ∨ ∃ n, i = .bkpt n ∧ ti = n.setWidth 64) ∧
        (tc = k.lt.sys.tcause ∨ returnsFromTrap i = true ∧ tc = k.lt.sys.tcause &&& ~~~(BitVec.twoPow 64 11)) ∧
        (publishes i = false → db = k.lt.sys.dbuf) ∧
        (k.lt.hold = .none → ∀ j < 4, db[j]? = k.lt.sys.dbuf[j]? ∨
          ∃ a, i = .swap a ∧ (src s k .c a).getLsbD j = true ∧ db[j]? = (k.lt.sys.dbuf[j]?).map (· ^^^ BitVec.twoPow 64 49))) ∧
      k'.lt.spill = k.lt.spill ∧ k'.lt.rowmask = k.lt.rowmask ∧ k'.lt.colmask = k.lt.colmask ∧ k'.lt.books = k.lt.books ∧
      k'.bnd = k.bnd ∧ k'.slice = k.slice ∧ k'.tenant = k.tenant ∧ k'.kernelLvl = k.kernelLvl ∧ k'.rank = k.rank
end

