-- ==== Sys2Proof/Laws/Memory.lean ====
section
/-! SUPPORT. Sparse data and memories: read after write, and that every memory operation keeps the canonical form. -/

namespace Sys2Proof.Machine

open Sys2Proof

/-! Sparse data -/

@[simp] theorem Sparse.get_nil {α : Type} (k : Nat) : Sparse.get ([] : Sparse α) k = none := rfl

@[simp] theorem Sparse.get_set_self {α : Type} (m : Sparse α) (k : Nat) (a : α) : Sparse.get (Sparse.set m k a) k = some a := by
  induction m with
  | nil => simp [Sparse.set, Sparse.get]
  | cons p rest ih =>
    obtain ⟨n, b⟩ := p
    simp only [Sparse.set]
    split
    · simp [Sparse.get]
    · split
      · simp [Sparse.get]
      · simp [Sparse.get, *]

theorem Sparse.get_set_ne {α : Type} (m : Sparse α) {k j : Nat} (a : α) (h : j ≠ k) :
    Sparse.get (Sparse.set m k a) j = Sparse.get m j := by
  induction m with
  | nil => simp [Sparse.set, Sparse.get, h]
  | cons p rest ih =>
    obtain ⟨n, b⟩ := p
    simp only [Sparse.set]
    split
    · simp [Sparse.get, h]
    · split
      · subst_vars; simp [Sparse.get, h]
      · simp [Sparse.get, ih]

theorem Sparse.get_set {α : Type} (m : Sparse α) (k j : Nat) (a : α) :
    Sparse.get (Sparse.set m k a) j = if j = k then some a else Sparse.get m j := by
  by_cases h : j = k
  · simp [h]
  · simp [h, Sparse.get_set_ne]

theorem Sparse.get_filter {α : Type} (m : Sparse α) (f : Nat → Bool) (k : Nat) :
    Sparse.get (m.filter fun p => f p.1) k = if f k then Sparse.get m k else none := by
  induction m with
  | nil => simp [Sparse.get]
  | cons p rest ih =>
    obtain ⟨a, b⟩ := p
    by_cases h : k = a
    · subst h
      by_cases e : f k = true
      · simp [e, Sparse.get]
      · have e' : f k = false := by simpa using e
        simpa [List.filter_cons, e'] using ih
    · by_cases e : f a = true
      · simpa [List.filter_cons, e, Sparse.get, h] using ih
      · have e' : f a = false := by simpa using e
        simpa [List.filter_cons, e', Sparse.get, h] using ih

@[simp] theorem Sparse.get_erase_self {α : Type} (m : Sparse α) (k : Nat) : Sparse.get (Sparse.erase m k) k = none := by
  rw [Sparse.erase, Sparse.get_filter m (fun n => n != k) k]
  simp

theorem Sparse.get_erase_ne {α : Type} (m : Sparse α) {k j : Nat} (h : j ≠ k) : Sparse.get (Sparse.erase m k) j = Sparse.get m j := by
  rw [Sparse.erase, Sparse.get_filter m (fun n => n != k) j]
  simp [h]

/-- The number heads a list in canonical form. -/
theorem Sparse.wf_cons {α : Type} (n : Nat) (a : α) (rest : Sparse α) :
    Sparse.wf ((n, a) :: rest) = true ↔ (∀ p ∈ rest, n < p.1) ∧ Sparse.wf rest = true := by
  simp [Sparse.wf]

theorem Sparse.mem_set {α : Type} {m : Sparse α} {k : Nat} {a : α} {p : Nat × α} (h : p ∈ Sparse.set m k a) :
    p = (k, a) ∨ p ∈ m := by
  induction m with
  | nil => simpa [Sparse.set] using h
  | cons q rest ih =>
    obtain ⟨n, b⟩ := q
    simp only [Sparse.set] at h
    split at h
    · simpa [or_assoc] using h
    · split at h
      · simp at h; tauto
      · simp at h; rcases h with h | h
        · simp [h]
        · rcases ih h with h | h <;> simp [h]

theorem Sparse.wf_set {α : Type} (m : Sparse α) (k : Nat) (a : α) (h : Sparse.wf m = true) : Sparse.wf (Sparse.set m k a) = true := by
  induction m with
  | nil => simp [Sparse.set, Sparse.wf]
  | cons p rest ih =>
    obtain ⟨n, b⟩ := p
    rw [Sparse.wf_cons] at h
    simp only [Sparse.set]
    split
    · rw [Sparse.wf_cons, Sparse.wf_cons]
      refine ⟨fun p hp => ?_, h⟩
      simp only [List.mem_cons] at hp
      rcases hp with rfl | hp
      · assumption
      · exact lt_trans ‹k < n› (h.1 p hp)
    · split
      · subst_vars; exact (Sparse.wf_cons ..).2 h
      · rw [Sparse.wf_cons]
        refine ⟨fun p hp => ?_, ih h.2⟩
        rcases Sparse.mem_set hp with rfl | hp
        · show n < k; omega
        · exact h.1 p hp

theorem Sparse.wf_filter {α : Type} (m : Sparse α) (f : Nat × α → Bool) (h : Sparse.wf m = true) :
    Sparse.wf (m.filter f) = true := by
  induction m with
  | nil => exact h
  | cons p rest ih =>
    obtain ⟨n, b⟩ := p
    rw [Sparse.wf_cons] at h
    by_cases e : f (n, b) = true
    · rw [List.filter_cons_of_pos e, Sparse.wf_cons]
      exact ⟨fun p hp => h.1 p (List.mem_filter.1 hp).1, ih h.2⟩
    · rw [List.filter_cons_of_neg e]; exact ih h.2

theorem Sparse.wf_erase {α : Type} (m : Sparse α) (k : Nat) (h : Sparse.wf m = true) : Sparse.wf (Sparse.erase m k) = true :=
  Sparse.wf_filter m _ h

theorem Sparse.wf_append {α : Type} (m n : Sparse α) (hm : Sparse.wf m = true) (hn : Sparse.wf n = true)
    (h : ∀ p ∈ m, ∀ q ∈ n, p.1 < q.1) : Sparse.wf (m ++ n) = true := by
  induction m with
  | nil => exact hn
  | cons p rest ih =>
    obtain ⟨a, b⟩ := p
    rw [Sparse.wf_cons] at hm
    rw [List.cons_append, Sparse.wf_cons]
    refine ⟨fun q hq => ?_, ih hm.2 fun p hp => h p (List.mem_cons_of_mem _ hp)⟩
    rcases List.mem_append.1 hq with hq | hq
    · exact hm.1 q hq
    · exact h (a, b) List.mem_cons_self q hq

/-- A number below every listed one is not listed. -/
theorem Sparse.get_none {α : Type} (m : Sparse α) (k : Nat) (h : ∀ p ∈ m, p.1 ≠ k) : Sparse.get m k = none := by
  induction m with
  | nil => rfl
  | cons p rest ih =>
    obtain ⟨n, b⟩ := p
    have := h (n, b) List.mem_cons_self
    simp [Sparse.get, Ne.symm this, ih fun p hp => h p (List.mem_cons_of_mem _ hp)]

theorem Sparse.get_append {α : Type} (m n : Sparse α) (k : Nat) :
    Sparse.get (m ++ n) k = (Sparse.get m k).orElse fun _ => Sparse.get n k := by
  induction m with
  | nil => rfl
  | cons p rest ih =>
    obtain ⟨a, b⟩ := p
    by_cases e : k = a <;> simp_all [Sparse.get]

/-! Byte memories -/

/-- The canonical form says that numbers rise and that no listed byte is zero. -/
theorem Memory.wf_iff (m : Memory) : m.wf = true ↔ Sparse.wf m = true ∧ ∀ p ∈ m, p.2 ≠ 0 := by
  simp [Memory.wf]

theorem Memory.wf_nil : Memory.wf [] = true := rfl

@[simp] theorem Memory.get_put_self (m : Memory) (a : Nat) (b : Byte) : (m.put a b).get a = b := by
  unfold Memory.put Memory.get
  split
  · simp [*]
  · simp

theorem Memory.get_put_ne (m : Memory) {a x : Nat} (b : Byte) (h : x ≠ a) : (m.put a b).get x = m.get x := by
  unfold Memory.put Memory.get
  split
  · rw [Sparse.get_erase_ne _ h]
  · rw [Sparse.get_set_ne _ _ h]

theorem Memory.wf_put (m : Memory) (a : Nat) (b : Byte) (h : m.wf = true) : (m.put a b).wf = true := by
  rw [Memory.wf_iff] at *
  unfold Memory.put
  split
  · exact ⟨Sparse.wf_erase m a h.1, fun p hp => h.2 p (List.mem_filter.1 hp).1⟩
  · refine ⟨Sparse.wf_set m a b h.1, fun p hp => ?_⟩
    rcases Sparse.mem_set hp with rfl | hp
    · assumption
    · exact h.2 p hp

theorem Memory.wf_filter (m : Memory) (f : Host.Cell → Bool) (h : m.wf = true) : Memory.wf (m.filter f) = true := by
  rw [Memory.wf_iff] at *
  exact ⟨Sparse.wf_filter m f h.1, fun p hp => h.2 p (List.mem_filter.1 hp).1⟩

theorem Memory.wf_putMasked (m : Memory) (a : Nat) (b mask : Byte) (h : m.wf = true) : (m.putMasked a b mask).wf = true :=
  Memory.wf_put m a _ h

theorem Memory.wf_putAll (m : Memory) (ws : List (Nat × Byte × Byte)) (h : m.wf = true) : (m.putAll ws).wf = true := by
  unfold Memory.putAll
  induction ws generalizing m with
  | nil => exact h
  | cons w rest ih => exact ih _ (Memory.wf_putMasked m w.1 w.2.1 w.2.2 h)

theorem cellsAt_mem {a : Nat} {bs : List Byte} {p : Host.Cell} (h : p ∈ cellsAt a bs) :
    a ≤ p.1 ∧ p.1 < a + bs.length ∧ p.2 ≠ 0 := by
  induction bs generalizing a with
  | nil => simp [cellsAt] at h
  | cons b rest ih =>
    simp only [cellsAt] at h
    split at h
    · have := ih h; simp only [List.length_cons]; exact ⟨by omega, by omega, this.2.2⟩
    · rcases List.mem_cons.1 h with rfl | h
      · simp only [List.length_cons]; exact ⟨le_refl _, by omega, ‹_›⟩
      · have := ih h; simp only [List.length_cons]; exact ⟨by omega, by omega, this.2.2⟩

theorem cellsAt_wf (a : Nat) (bs : List Byte) : Memory.wf (cellsAt a bs) = true := by
  rw [Memory.wf_iff]
  refine ⟨?_, fun p hp => (cellsAt_mem hp).2.2⟩
  induction bs generalizing a with
  | nil => rfl
  | cons b rest ih =>
    simp only [cellsAt]
    split
    · exact ih (a + 1)
    · exact (Sparse.wf_cons ..).2 ⟨fun p hp => by have := cellsAt_mem hp; omega, ih (a + 1)⟩

theorem cellsAt_get (a i : Nat) (bs : List Byte) (h : i < bs.length) : Memory.get (cellsAt a bs) (a + i) = bs[i] := by
  induction bs generalizing a i with
  | nil => simp at h
  | cons b rest ih =>
    simp only [cellsAt]
    cases i with
    | zero =>
      split
      · have hn : Sparse.get (cellsAt (a + 1) rest) a = none :=
          Sparse.get_none _ _ fun p hp => by have := cellsAt_mem hp; omega
        simp [Memory.get, hn, *]
      · simp [Memory.get, Sparse.get]
    | succ j =>
      have hj : j < rest.length := by simpa using h
      have e := ih (a + 1) j hj
      have : a + (j + 1) = a + 1 + j := by omega
      split
      · rw [this, e]; simp
      · have hne : ¬ (a + (j + 1) = a) := by omega
        have : Memory.get ((a, b) :: cellsAt (a + 1) rest) (a + (j + 1)) = Memory.get (cellsAt (a + 1) rest) (a + (j + 1)) := by
          simp [Memory.get, Sparse.get]
        rw [this, ‹a + (j + 1) = a + 1 + j›, e]; simp

theorem Memory.wf_write (m : Memory) (a : Nat) (bs : List Byte) (h : m.wf = true) : (m.write a bs).wf = true := by
  unfold Memory.write
  have h1 := (Memory.wf_iff _).1 (Memory.wf_filter m (fun p => p.1 < a) h)
  have h2 := (Memory.wf_iff _).1 (cellsAt_wf a bs)
  have h3 := (Memory.wf_iff _).1 (Memory.wf_filter m (fun p => a + bs.length ≤ p.1) h)
  rw [Memory.wf_iff]
  refine ⟨Sparse.wf_append _ _ (Sparse.wf_append _ _ h1.1 h2.1 ?_) h3.1 ?_, ?_⟩
  · intro p hp q hq
    have := (List.mem_filter.1 hp).2; have := cellsAt_mem hq; simp at *; omega
  · intro p hp q hq
    have hq' := (List.mem_filter.1 hq).2
    rcases List.mem_append.1 hp with hp | hp
    · have := (List.mem_filter.1 hp).2; simp at *; omega
    · have := cellsAt_mem hp; simp at *; omega
  · intro p hp
    rcases List.mem_append.1 hp with hp | hp
    · rcases List.mem_append.1 hp with hp | hp
      · exact h1.2 p hp
      · exact h2.2 p hp
    · exact h3.2 p hp

/-- Reading one byte after a byte string was written. -/
theorem Memory.get_write (m : Memory) (a x : Nat) (bs : List Byte) :
    (m.write a bs).get x = if h : a ≤ x ∧ x < a + bs.length then bs[x - a]'(by omega) else m.get x := by
  have e : (m.write a bs).get x = ((Sparse.get (m.filter fun p => decide (p.1 < a)) x).orElse fun _ =>
      (Sparse.get (cellsAt a bs) x).orElse fun _ => Sparse.get (m.filter fun p => decide (a + bs.length ≤ p.1)) x).getD 0 := by
    simp [Memory.write, Memory.get, Sparse.get_append]
  rw [e, Sparse.get_filter m (fun n => decide (n < a)), Sparse.get_filter m (fun n => decide (a + bs.length ≤ n))]
  by_cases h : a ≤ x ∧ x < a + bs.length
  · rw [dif_pos h]
    obtain ⟨i, rfl⟩ := Nat.exists_eq_add_of_le h.1
    have hi : i < bs.length := by omega
    have := cellsAt_get a i bs hi
    simp only [Memory.get] at this
    have h1 : ¬ a + i < a := by omega
    have h2 : ¬ a + bs.length ≤ a + i := by omega
    simp only [h1, h2, decide_false]
    cases g : Sparse.get (cellsAt a bs) (a + i) <;> simp_all
  · rw [dif_neg h]
    have hn : Sparse.get (cellsAt a bs) x = none :=
      Sparse.get_none _ _ fun p hp => by have := cellsAt_mem hp; omega
    rw [hn]
    by_cases h1 : x < a
    · have : ¬ a + bs.length ≤ x := by omega
      simp [h1, this, Memory.get]
    · have : a + bs.length ≤ x := by omega
      simp [h1, this, Memory.get]

theorem Memory.get_write_out (m : Memory) {a x : Nat} (bs : List Byte) (h : x < a ∨ a + bs.length ≤ x) :
    (m.write a bs).get x = m.get x := by
  rw [Memory.get_write]; split
  · omega
  · rfl

@[simp] theorem leBytes_length (n v : Nat) : (leBytes n v).length = n := by
  induction n generalizing v with
  | zero => rfl
  | succ n ih => simp [leBytes, ih]

theorem Memory.wf_writeNat (m : Memory) (a n v : Nat) (h : m.wf = true) : (m.writeNat a n v).wf = true :=
  Memory.wf_write m a _ h

theorem Memory.wf_publish (m : Memory) (a : Nat) (d : Word) (mask : BitVec 16) (h : m.wf = true) : (m.publish a d mask).wf = true :=
  Memory.wf_writeNat m a 8 _ h

/-- A publication touches no byte outside its word. -/
theorem Memory.get_publish_out (m : Memory) {a x : Nat} (d : Word) (mask : BitVec 16) (h : x < a ∨ a + 8 ≤ x) :
    (m.publish a d mask).get x = m.get x := by
  unfold Memory.publish Memory.writeNat
  exact Memory.get_write_out m _ (by simpa using h)

end Sys2Proof.Machine
end

