-- ==== Sys2Proof/Laws/State.lean ====
section
/-! SUPPORT. What each update of the state leaves and gives, field by field, so that no proof unfolds a record update. -/

namespace Sys2Proof.Machine

open Sys2Proof

/-! The package -/

@[simp] theorem State.setCtx_cycle (s : State) (n : Nat) (v : Ctx) : (s.setCtx n v).cycle = s.cycle := rfl
@[simp] theorem State.setCtx_pkg (s : State) (n : Nat) (v : Ctx) : (s.setCtx n v).pkg = s.pkg := rfl
@[simp] theorem State.setCtx_mem (s : State) (n : Nat) (v : Ctx) : (s.setCtx n v).mem = s.mem := rfl
@[simp] theorem State.setCtx_cores (s : State) (n : Nat) (v : Ctx) : (s.setCtx n v).cores = s.cores := rfl
@[simp] theorem State.setCtx_clusters (s : State) (n : Nat) (v : Ctx) : (s.setCtx n v).clusters = s.clusters := rfl
@[simp] theorem State.setCtx_slices (s : State) (n : Nat) (v : Ctx) : (s.setCtx n v).slices = s.slices := rfl
@[simp] theorem State.setCtx_poison (s : State) (n : Nat) (v : Ctx) : (s.setCtx n v).poison = s.poison := rfl
@[simp] theorem State.setCtx_tlb (s : State) (n : Nat) (v : Ctx) : (s.setCtx n v).tlb = s.tlb := rfl
@[simp] theorem State.setCtx_walks (s : State) (n : Nat) (v : Ctx) : (s.setCtx n v).walks = s.walks := rfl
@[simp] theorem State.setCtx_pubs (s : State) (n : Nat) (v : Ctx) : (s.setCtx n v).pubs = s.pubs := rfl
@[simp] theorem State.setCtx_rels (s : State) (n : Nat) (v : Ctx) : (s.setCtx n v).rels = s.rels := rfl
@[simp] theorem State.setCtx_ports (s : State) (n : Nat) (v : Ctx) : (s.setCtx n v).ports = s.ports := rfl
@[simp] theorem State.setCtx_reports (s : State) (n : Nat) (v : Ctx) : (s.setCtx n v).reports = s.reports := rfl
@[simp] theorem State.setCtx_mgmt (s : State) (n : Nat) (v : Ctx) : (s.setCtx n v).mgmt = s.mgmt := rfl
@[simp] theorem State.setCtx_out (s : State) (n : Nat) (v : Ctx) : (s.setCtx n v).out = s.out := rfl
@[simp] theorem State.setCtx_agenda (s : State) (n : Nat) (v : Ctx) : (s.setCtx n v).agenda = s.agenda := rfl
@[simp] theorem State.setCtx_decided (s : State) (n : Nat) (v : Ctx) : (s.setCtx n v).decided = s.decided := rfl
@[simp] theorem State.setCtx_sel (s : State) (n : Nat) (v : Ctx) : (s.setCtx n v).sel = s.sel := rfl
@[simp] theorem State.setCtx_free (s : State) (n : Nat) (v : Ctx) : (s.setCtx n v).free = s.free := rfl
@[simp] theorem State.setCtx_ctx_self (s : State) (n : Nat) (v : Ctx) : (s.setCtx n v).ctx n = some v := by
  simp [State.setCtx, State.ctx]
theorem State.setCtx_ctx_ne (s : State) (n : Nat) (v : Ctx) {m : Nat} (h : m ≠ n) : (s.setCtx n v).ctx m = s.ctx m := by
  simp [State.setCtx, State.ctx, Sparse.get_set_ne _ _ h]
@[simp] theorem State.setCtx_core (s : State) (n : Nat) (v : Ctx) (m : Nat) : (s.setCtx n v).core m = s.core m := rfl
@[simp] theorem State.setCtx_cluster (s : State) (n : Nat) (v : Ctx) (m : Nat) : (s.setCtx n v).cluster m = s.cluster m := rfl
@[simp] theorem State.setCtx_slice (s : State) (n : Nat) (v : Ctx) (m : Nat) : (s.setCtx n v).slice m = s.slice m := rfl
@[simp] theorem State.setCtx_port (s : State) (n : Nat) (v : Ctx) (m : Nat) : (s.setCtx n v).port m = s.port m := rfl

@[simp] theorem State.setCore_cycle (s : State) (n : Nat) (v : Core) : (s.setCore n v).cycle = s.cycle := rfl
@[simp] theorem State.setCore_pkg (s : State) (n : Nat) (v : Core) : (s.setCore n v).pkg = s.pkg := rfl
@[simp] theorem State.setCore_mem (s : State) (n : Nat) (v : Core) : (s.setCore n v).mem = s.mem := rfl
@[simp] theorem State.setCore_ctxs (s : State) (n : Nat) (v : Core) : (s.setCore n v).ctxs = s.ctxs := rfl
@[simp] theorem State.setCore_clusters (s : State) (n : Nat) (v : Core) : (s.setCore n v).clusters = s.clusters := rfl
@[simp] theorem State.setCore_slices (s : State) (n : Nat) (v : Core) : (s.setCore n v).slices = s.slices := rfl
@[simp] theorem State.setCore_poison (s : State) (n : Nat) (v : Core) : (s.setCore n v).poison = s.poison := rfl
@[simp] theorem State.setCore_tlb (s : State) (n : Nat) (v : Core) : (s.setCore n v).tlb = s.tlb := rfl
@[simp] theorem State.setCore_walks (s : State) (n : Nat) (v : Core) : (s.setCore n v).walks = s.walks := rfl
@[simp] theorem State.setCore_pubs (s : State) (n : Nat) (v : Core) : (s.setCore n v).pubs = s.pubs := rfl
@[simp] theorem State.setCore_rels (s : State) (n : Nat) (v : Core) : (s.setCore n v).rels = s.rels := rfl
@[simp] theorem State.setCore_ports (s : State) (n : Nat) (v : Core) : (s.setCore n v).ports = s.ports := rfl
@[simp] theorem State.setCore_reports (s : State) (n : Nat) (v : Core) : (s.setCore n v).reports = s.reports := rfl
@[simp] theorem State.setCore_mgmt (s : State) (n : Nat) (v : Core) : (s.setCore n v).mgmt = s.mgmt := rfl
@[simp] theorem State.setCore_out (s : State) (n : Nat) (v : Core) : (s.setCore n v).out = s.out := rfl
@[simp] theorem State.setCore_agenda (s : State) (n : Nat) (v : Core) : (s.setCore n v).agenda = s.agenda := rfl
@[simp] theorem State.setCore_decided (s : State) (n : Nat) (v : Core) : (s.setCore n v).decided = s.decided := rfl
@[simp] theorem State.setCore_sel (s : State) (n : Nat) (v : Core) : (s.setCore n v).sel = s.sel := rfl
@[simp] theorem State.setCore_free (s : State) (n : Nat) (v : Core) : (s.setCore n v).free = s.free := rfl
@[simp] theorem State.setCore_core_self (s : State) (n : Nat) (v : Core) : (s.setCore n v).core n = v := by
  simp [State.setCore, State.core]
theorem State.setCore_core_ne (s : State) (n : Nat) (v : Core) {m : Nat} (h : m ≠ n) : (s.setCore n v).core m = s.core m := by
  simp [State.setCore, State.core, Sparse.get_set_ne _ _ h]
@[simp] theorem State.setCore_ctx (s : State) (n : Nat) (v : Core) (m : Nat) : (s.setCore n v).ctx m = s.ctx m := rfl
@[simp] theorem State.setCore_cluster (s : State) (n : Nat) (v : Core) (m : Nat) : (s.setCore n v).cluster m = s.cluster m := rfl
@[simp] theorem State.setCore_slice (s : State) (n : Nat) (v : Core) (m : Nat) : (s.setCore n v).slice m = s.slice m := rfl
@[simp] theorem State.setCore_port (s : State) (n : Nat) (v : Core) (m : Nat) : (s.setCore n v).port m = s.port m := rfl

@[simp] theorem State.setCluster_cycle (s : State) (n : Nat) (v : Cluster) : (s.setCluster n v).cycle = s.cycle := rfl
@[simp] theorem State.setCluster_pkg (s : State) (n : Nat) (v : Cluster) : (s.setCluster n v).pkg = s.pkg := rfl
@[simp] theorem State.setCluster_mem (s : State) (n : Nat) (v : Cluster) : (s.setCluster n v).mem = s.mem := rfl
@[simp] theorem State.setCluster_ctxs (s : State) (n : Nat) (v : Cluster) : (s.setCluster n v).ctxs = s.ctxs := rfl
@[simp] theorem State.setCluster_cores (s : State) (n : Nat) (v : Cluster) : (s.setCluster n v).cores = s.cores := rfl
@[simp] theorem State.setCluster_slices (s : State) (n : Nat) (v : Cluster) : (s.setCluster n v).slices = s.slices := rfl
@[simp] theorem State.setCluster_poison (s : State) (n : Nat) (v : Cluster) : (s.setCluster n v).poison = s.poison := rfl
@[simp] theorem State.setCluster_tlb (s : State) (n : Nat) (v : Cluster) : (s.setCluster n v).tlb = s.tlb := rfl
@[simp] theorem State.setCluster_walks (s : State) (n : Nat) (v : Cluster) : (s.setCluster n v).walks = s.walks := rfl
@[simp] theorem State.setCluster_pubs (s : State) (n : Nat) (v : Cluster) : (s.setCluster n v).pubs = s.pubs := rfl
@[simp] theorem State.setCluster_rels (s : State) (n : Nat) (v : Cluster) : (s.setCluster n v).rels = s.rels := rfl
@[simp] theorem State.setCluster_ports (s : State) (n : Nat) (v : Cluster) : (s.setCluster n v).ports = s.ports := rfl
@[simp] theorem State.setCluster_reports (s : State) (n : Nat) (v : Cluster) : (s.setCluster n v).reports = s.reports := rfl
@[simp] theorem State.setCluster_mgmt (s : State) (n : Nat) (v : Cluster) : (s.setCluster n v).mgmt = s.mgmt := rfl
@[simp] theorem State.setCluster_out (s : State) (n : Nat) (v : Cluster) : (s.setCluster n v).out = s.out := rfl
@[simp] theorem State.setCluster_agenda (s : State) (n : Nat) (v : Cluster) : (s.setCluster n v).agenda = s.agenda := rfl
@[simp] theorem State.setCluster_decided (s : State) (n : Nat) (v : Cluster) : (s.setCluster n v).decided = s.decided := rfl
@[simp] theorem State.setCluster_sel (s : State) (n : Nat) (v : Cluster) : (s.setCluster n v).sel = s.sel := rfl
@[simp] theorem State.setCluster_free (s : State) (n : Nat) (v : Cluster) : (s.setCluster n v).free = s.free := rfl
@[simp] theorem State.setCluster_cluster_self (s : State) (n : Nat) (v : Cluster) : (s.setCluster n v).cluster n = v := by
  simp [State.setCluster, State.cluster]
theorem State.setCluster_cluster_ne (s : State) (n : Nat) (v : Cluster) {m : Nat} (h : m ≠ n) : (s.setCluster n v).cluster m = s.cluster m := by
  simp [State.setCluster, State.cluster, Sparse.get_set_ne _ _ h]
@[simp] theorem State.setCluster_ctx (s : State) (n : Nat) (v : Cluster) (m : Nat) : (s.setCluster n v).ctx m = s.ctx m := rfl
@[simp] theorem State.setCluster_core (s : State) (n : Nat) (v : Cluster) (m : Nat) : (s.setCluster n v).core m = s.core m := rfl
@[simp] theorem State.setCluster_slice (s : State) (n : Nat) (v : Cluster) (m : Nat) : (s.setCluster n v).slice m = s.slice m := rfl
@[simp] theorem State.setCluster_port (s : State) (n : Nat) (v : Cluster) (m : Nat) : (s.setCluster n v).port m = s.port m := rfl

@[simp] theorem State.setSlice_cycle (s : State) (n : Nat) (v : Slice) : (s.setSlice n v).cycle = s.cycle := rfl
@[simp] theorem State.setSlice_pkg (s : State) (n : Nat) (v : Slice) : (s.setSlice n v).pkg = s.pkg := rfl
@[simp] theorem State.setSlice_mem (s : State) (n : Nat) (v : Slice) : (s.setSlice n v).mem = s.mem := rfl
@[simp] theorem State.setSlice_ctxs (s : State) (n : Nat) (v : Slice) : (s.setSlice n v).ctxs = s.ctxs := rfl
@[simp] theorem State.setSlice_cores (s : State) (n : Nat) (v : Slice) : (s.setSlice n v).cores = s.cores := rfl
@[simp] theorem State.setSlice_clusters (s : State) (n : Nat) (v : Slice) : (s.setSlice n v).clusters = s.clusters := rfl
@[simp] theorem State.setSlice_poison (s : State) (n : Nat) (v : Slice) : (s.setSlice n v).poison = s.poison := rfl
@[simp] theorem State.setSlice_tlb (s : State) (n : Nat) (v : Slice) : (s.setSlice n v).tlb = s.tlb := rfl
@[simp] theorem State.setSlice_walks (s : State) (n : Nat) (v : Slice) : (s.setSlice n v).walks = s.walks := rfl
@[simp] theorem State.setSlice_pubs (s : State) (n : Nat) (v : Slice) : (s.setSlice n v).pubs = s.pubs := rfl
@[simp] theorem State.setSlice_rels (s : State) (n : Nat) (v : Slice) : (s.setSlice n v).rels = s.rels := rfl
@[simp] theorem State.setSlice_ports (s : State) (n : Nat) (v : Slice) : (s.setSlice n v).ports = s.ports := rfl
@[simp] theorem State.setSlice_reports (s : State) (n : Nat) (v : Slice) : (s.setSlice n v).reports = s.reports := rfl
@[simp] theorem State.setSlice_mgmt (s : State) (n : Nat) (v : Slice) : (s.setSlice n v).mgmt = s.mgmt := rfl
@[simp] theorem State.setSlice_out (s : State) (n : Nat) (v : Slice) : (s.setSlice n v).out = s.out := rfl
@[simp] theorem State.setSlice_agenda (s : State) (n : Nat) (v : Slice) : (s.setSlice n v).agenda = s.agenda := rfl
@[simp] theorem State.setSlice_decided (s : State) (n : Nat) (v : Slice) : (s.setSlice n v).decided = s.decided := rfl
@[simp] theorem State.setSlice_sel (s : State) (n : Nat) (v : Slice) : (s.setSlice n v).sel = s.sel := rfl
@[simp] theorem State.setSlice_free (s : State) (n : Nat) (v : Slice) : (s.setSlice n v).free = s.free := rfl
@[simp] theorem State.setSlice_slice_self (s : State) (n : Nat) (v : Slice) : (s.setSlice n v).slice n = v := by
  simp [State.setSlice, State.slice]
theorem State.setSlice_slice_ne (s : State) (n : Nat) (v : Slice) {m : Nat} (h : m ≠ n) : (s.setSlice n v).slice m = s.slice m := by
  simp [State.setSlice, State.slice, Sparse.get_set_ne _ _ h]
@[simp] theorem State.setSlice_ctx (s : State) (n : Nat) (v : Slice) (m : Nat) : (s.setSlice n v).ctx m = s.ctx m := rfl
@[simp] theorem State.setSlice_core (s : State) (n : Nat) (v : Slice) (m : Nat) : (s.setSlice n v).core m = s.core m := rfl
@[simp] theorem State.setSlice_cluster (s : State) (n : Nat) (v : Slice) (m : Nat) : (s.setSlice n v).cluster m = s.cluster m := rfl
@[simp] theorem State.setSlice_port (s : State) (n : Nat) (v : Slice) (m : Nat) : (s.setSlice n v).port m = s.port m := rfl

@[simp] theorem State.setPort_cycle (s : State) (n : Nat) (v : Port) : (s.setPort n v).cycle = s.cycle := rfl
@[simp] theorem State.setPort_pkg (s : State) (n : Nat) (v : Port) : (s.setPort n v).pkg = s.pkg := rfl
@[simp] theorem State.setPort_mem (s : State) (n : Nat) (v : Port) : (s.setPort n v).mem = s.mem := rfl
@[simp] theorem State.setPort_ctxs (s : State) (n : Nat) (v : Port) : (s.setPort n v).ctxs = s.ctxs := rfl
@[simp] theorem State.setPort_cores (s : State) (n : Nat) (v : Port) : (s.setPort n v).cores = s.cores := rfl
@[simp] theorem State.setPort_clusters (s : State) (n : Nat) (v : Port) : (s.setPort n v).clusters = s.clusters := rfl
@[simp] theorem State.setPort_slices (s : State) (n : Nat) (v : Port) : (s.setPort n v).slices = s.slices := rfl
@[simp] theorem State.setPort_poison (s : State) (n : Nat) (v : Port) : (s.setPort n v).poison = s.poison := rfl
@[simp] theorem State.setPort_tlb (s : State) (n : Nat) (v : Port) : (s.setPort n v).tlb = s.tlb := rfl
@[simp] theorem State.setPort_walks (s : State) (n : Nat) (v : Port) : (s.setPort n v).walks = s.walks := rfl
@[simp] theorem State.setPort_pubs (s : State) (n : Nat) (v : Port) : (s.setPort n v).pubs = s.pubs := rfl
@[simp] theorem State.setPort_rels (s : State) (n : Nat) (v : Port) : (s.setPort n v).rels = s.rels := rfl
@[simp] theorem State.setPort_reports (s : State) (n : Nat) (v : Port) : (s.setPort n v).reports = s.reports := rfl
@[simp] theorem State.setPort_mgmt (s : State) (n : Nat) (v : Port) : (s.setPort n v).mgmt = s.mgmt := rfl
@[simp] theorem State.setPort_out (s : State) (n : Nat) (v : Port) : (s.setPort n v).out = s.out := rfl
@[simp] theorem State.setPort_agenda (s : State) (n : Nat) (v : Port) : (s.setPort n v).agenda = s.agenda := rfl
@[simp] theorem State.setPort_decided (s : State) (n : Nat) (v : Port) : (s.setPort n v).decided = s.decided := rfl
@[simp] theorem State.setPort_sel (s : State) (n : Nat) (v : Port) : (s.setPort n v).sel = s.sel := rfl
@[simp] theorem State.setPort_free (s : State) (n : Nat) (v : Port) : (s.setPort n v).free = s.free := rfl
@[simp] theorem State.setPort_port_self (s : State) (n : Nat) (v : Port) : (s.setPort n v).port n = v := by
  simp [State.setPort, State.port]
theorem State.setPort_port_ne (s : State) (n : Nat) (v : Port) {m : Nat} (h : m ≠ n) : (s.setPort n v).port m = s.port m := by
  simp [State.setPort, State.port, Sparse.get_set_ne _ _ h]
@[simp] theorem State.setPort_ctx (s : State) (n : Nat) (v : Port) (m : Nat) : (s.setPort n v).ctx m = s.ctx m := rfl
@[simp] theorem State.setPort_core (s : State) (n : Nat) (v : Port) (m : Nat) : (s.setPort n v).core m = s.core m := rfl
@[simp] theorem State.setPort_cluster (s : State) (n : Nat) (v : Port) (m : Nat) : (s.setPort n v).cluster m = s.cluster m := rfl
@[simp] theorem State.setPort_slice (s : State) (n : Nat) (v : Port) (m : Nat) : (s.setPort n v).slice m = s.slice m := rfl

/-! A context -/

@[simp] theorem Ctx.setLt_res (k : Ctx) (l : Light) : (k.setLt l).res = k.res := rfl
@[simp] theorem Ctx.setLt_place (k : Ctx) (l : Light) : (k.setLt l).place = k.place := rfl
@[simp] theorem Ctx.setLt_queue (k : Ctx) (l : Light) : (k.setLt l).queue = k.queue := rfl
@[simp] theorem Ctx.setLt_slice (k : Ctx) (l : Light) : (k.setLt l).slice = k.slice := rfl
@[simp] theorem Ctx.setLt_tenant (k : Ctx) (l : Light) : (k.setLt l).tenant = k.tenant := rfl
@[simp] theorem Ctx.setLt_kernelLvl (k : Ctx) (l : Light) : (k.setLt l).kernelLvl = k.kernelLvl := rfl
@[simp] theorem Ctx.setLt_rank (k : Ctx) (l : Light) : (k.setLt l).rank = k.rank := rfl
@[simp] theorem Ctx.setLt_rankNext (k : Ctx) (l : Light) : (k.setLt l).rankNext = k.rankNext := rfl
@[simp] theorem Ctx.setLt_coord (k : Ctx) (l : Light) : (k.setLt l).coord = k.coord := rfl
@[simp] theorem Ctx.setLt_paired (k : Ctx) (l : Light) : (k.setLt l).paired = k.paired := rfl
@[simp] theorem Ctx.setLt_sig (k : Ctx) (l : Light) : (k.setLt l).sig = k.sig := rfl
@[simp] theorem Ctx.setLt_codeLo (k : Ctx) (l : Light) : (k.setLt l).codeLo = k.codeLo := rfl
@[simp] theorem Ctx.setLt_codeHi (k : Ctx) (l : Light) : (k.setLt l).codeHi = k.codeHi := rfl
@[simp] theorem Ctx.setLt_nspill (k : Ctx) (l : Light) : (k.setLt l).nspill = k.nspill := rfl
@[simp] theorem Ctx.setLt_dpipes (k : Ctx) (l : Light) : (k.setLt l).dpipes = k.dpipes := rfl
@[simp] theorem Ctx.setLt_dctrs (k : Ctx) (l : Light) : (k.setLt l).dctrs = k.dctrs := rfl
@[simp] theorem Ctx.setLt_dtokens (k : Ctx) (l : Light) : (k.setLt l).dtokens = k.dtokens := rfl
@[simp] theorem Ctx.setLt_transform (k : Ctx) (l : Light) : (k.setLt l).transform = k.transform := rfl
@[simp] theorem Ctx.setLt_ahead (k : Ctx) (l : Light) : (k.setLt l).ahead = k.ahead := rfl
@[simp] theorem Ctx.setLt_tiles (k : Ctx) (l : Light) : (k.setLt l).tiles = k.tiles := rfl
@[simp] theorem Ctx.setLt_bnd (k : Ctx) (l : Light) : (k.setLt l).bnd = k.bnd := rfl
@[simp] theorem Ctx.setLt_pends (k : Ctx) (l : Light) : (k.setLt l).pends = k.pends := rfl
@[simp] theorem Ctx.setLt_past (k : Ctx) (l : Light) : (k.setLt l).past = k.past := rfl
@[simp] theorem Ctx.setLt_mats (k : Ctx) (l : Light) : (k.setLt l).mats = k.mats := rfl
@[simp] theorem Ctx.setLt_quants (k : Ctx) (l : Light) : (k.setLt l).quants = k.quants := rfl
@[simp] theorem Ctx.setLt_crds (k : Ctx) (l : Light) : (k.setLt l).crds = k.crds := rfl
@[simp] theorem Ctx.setLt_xf (k : Ctx) (l : Light) : (k.setLt l).xf = k.xf := rfl
@[simp] theorem Ctx.setLt_xfFault (k : Ctx) (l : Light) : (k.setLt l).xfFault = k.xfFault := rfl
@[simp] theorem Ctx.setLt_xfRun (k : Ctx) (l : Light) : (k.setLt l).xfRun = k.xfRun := rfl
@[simp] theorem Ctx.setLt_cmds (k : Ctx) (l : Light) : (k.setLt l).cmds = k.cmds := rfl
@[simp] theorem Ctx.setLt_free (k : Ctx) (l : Light) : (k.setLt l).free = k.free := rfl
@[simp] theorem Ctx.setLt_lastMove (k : Ctx) (l : Light) : (k.setLt l).lastMove = k.lastMove := rfl
@[simp] theorem Ctx.setLt_arrived (k : Ctx) (l : Light) : (k.setLt l).arrived = k.arrived := rfl
@[simp] theorem Ctx.setLt_loads (k : Ctx) (l : Light) : (k.setLt l).loads = k.loads := rfl
@[simp] theorem Ctx.setLt_atoms (k : Ctx) (l : Light) : (k.setLt l).atoms = k.atoms := rfl
@[simp] theorem Ctx.setLt_fences (k : Ctx) (l : Light) : (k.setLt l).fences = k.fences := rfl
@[simp] theorem Ctx.setLt_afence (k : Ctx) (l : Light) : (k.setLt l).afence = k.afence := rfl
@[simp] theorem Ctx.setLt_rfence (k : Ctx) (l : Light) : (k.setLt l).rfence = k.rfence := rfl
@[simp] theorem Ctx.setLt_seen (k : Ctx) (l : Light) : (k.setLt l).seen = k.seen := rfl
@[simp] theorem Ctx.setLt_heard (k : Ctx) (l : Light) : (k.setLt l).heard = k.heard := rfl
@[simp] theorem Ctx.setLt_start (k : Ctx) (l : Light) : (k.setLt l).start = k.start := rfl
@[simp] theorem Ctx.setLt_snaps (k : Ctx) (l : Light) : (k.setLt l).snaps = k.snaps := rfl
@[simp] theorem Ctx.setLt_frags (k : Ctx) (l : Light) : (k.setLt l).frags = k.frags := rfl
@[simp] theorem Ctx.setLt_acqs (k : Ctx) (l : Light) : (k.setLt l).acqs = k.acqs := rfl
@[simp] theorem Ctx.setLt_unrecov (k : Ctx) (l : Light) : (k.setLt l).unrecov = k.unrecov := rfl
@[simp] theorem Ctx.setLt_shadow (k : Ctx) (l : Light) : (k.setLt l).shadow = k.shadow := rfl
@[simp] theorem Ctx.setLt_shTiles (k : Ctx) (l : Light) : (k.setLt l).shTiles = k.shTiles := rfl
@[simp] theorem Ctx.setLt_shFrags (k : Ctx) (l : Light) : (k.setLt l).shFrags = k.shFrags := rfl
@[simp] theorem Ctx.setLt_shAcqs (k : Ctx) (l : Light) : (k.setLt l).shAcqs = k.shAcqs := rfl
@[simp] theorem Ctx.setLt_shArrived (k : Ctx) (l : Light) : (k.setLt l).shArrived = k.shArrived := rfl
@[simp] theorem Ctx.setLt_shRank (k : Ctx) (l : Light) : (k.setLt l).shRank = k.shRank := rfl
@[simp] theorem Ctx.setLt_shWd (k : Ctx) (l : Light) : (k.setLt l).shWd = k.shWd := rfl
@[simp] theorem Ctx.setLt_shadowAt (k : Ctx) (l : Light) : (k.setLt l).shadowAt = k.shadowAt := rfl
@[simp] theorem Ctx.setLt_preAcc (k : Ctx) (l : Light) : (k.setLt l).preAcc = k.preAcc := rfl
@[simp] theorem Ctx.setLt_preBnd (k : Ctx) (l : Light) : (k.setLt l).preBnd = k.preBnd := rfl
@[simp] theorem Ctx.setLt_preSp (k : Ctx) (l : Light) : (k.setLt l).preSp = k.preSp := rfl
@[simp] theorem Ctx.setLt_preTile (k : Ctx) (l : Light) : (k.setLt l).preTile = k.preTile := rfl
@[simp] theorem Ctx.setLt_preBad (k : Ctx) (l : Light) : (k.setLt l).preBad = k.preBad := rfl
@[simp] theorem Ctx.setLt_expOrd (k : Ctx) (l : Light) : (k.setLt l).expOrd = k.expOrd := rfl
@[simp] theorem Ctx.setLt_rollAt (k : Ctx) (l : Light) : (k.setLt l).rollAt = k.rollAt := rfl
@[simp] theorem Ctx.setLt_rolls (k : Ctx) (l : Light) : (k.setLt l).rolls = k.rolls := rfl
@[simp] theorem Ctx.setLt_notice (k : Ctx) (l : Light) : (k.setLt l).notice = k.notice := rfl
@[simp] theorem Ctx.setLt_wd (k : Ctx) (l : Light) : (k.setLt l).wd = k.wd := rfl
@[simp] theorem Ctx.setLt_drowsy (k : Ctx) (l : Light) : (k.setLt l).drowsy = k.drowsy := rfl
@[simp] theorem Ctx.setLt_halted (k : Ctx) (l : Light) : (k.setLt l).halted = k.halted := rfl
@[simp] theorem Ctx.setLt_bkptHalt (k : Ctx) (l : Light) : (k.setLt l).bkptHalt = k.bkptHalt := rfl
@[simp] theorem Ctx.setLt_stopped (k : Ctx) (l : Light) : (k.setLt l).stopped = k.stopped := rfl
@[simp] theorem Ctx.setLt_zeroing (k : Ctx) (l : Light) : (k.setLt l).zeroing = k.zeroing := rfl
@[simp] theorem Ctx.setLt_saveAt (k : Ctx) (l : Light) : (k.setLt l).saveAt = k.saveAt := rfl
@[simp] theorem Ctx.setLt_saveBy (k : Ctx) (l : Light) : (k.setLt l).saveBy = k.saveBy := rfl
@[simp] theorem Ctx.setLt_savedSp (k : Ctx) (l : Light) : (k.setLt l).savedSp = k.savedSp := rfl
@[simp] theorem Ctx.setLt_savedAcc (k : Ctx) (l : Light) : (k.setLt l).savedAcc = k.savedAcc := rfl
@[simp] theorem Ctx.setLt_peek (k : Ctx) (l : Light) : (k.setLt l).peek = k.peek := rfl
@[simp] theorem Ctx.setLt_lt (k : Ctx) (l : Light) : (k.setLt l).lt = l := rfl
@[simp] theorem Ctx.setStrm_eq (k : Ctx) (st : Strm) (v : StreamState) : k.setStrm st v = k.setLt (k.lt.setStrm st v) := rfl
@[simp] theorem Ctx.setSys_eq (k : Ctx) (r : SysRegs) : k.setSys r = k.setLt { k.lt with sys := r } := rfl
@[simp] theorem Ctx.setLt_setLt (k : Ctx) (l m : Light) : (k.setLt l).setLt m = k.setLt m := rfl
theorem Ctx.strm_eq (k : Ctx) (st : Strm) : k.strm st = k.lt.strm st := rfl

/-! The light state -/

@[simp] theorem Light.setStrm_flights (l : Light) (st : Strm) (v : StreamState) : (l.setStrm st v).flights = l.flights := by cases st <;> rfl
@[simp] theorem Light.setStrm_ord (l : Light) (st : Strm) (v : StreamState) : (l.setStrm st v).ord = l.ord := by cases st <;> rfl
@[simp] theorem Light.setStrm_line (l : Light) (st : Strm) (v : StreamState) : (l.setStrm st v).line = l.line := by cases st <;> rfl
@[simp] theorem Light.setStrm_next (l : Light) (st : Strm) (v : StreamState) : (l.setStrm st v).next = l.next := by cases st <;> rfl
@[simp] theorem Light.setStrm_lbuf (l : Light) (st : Strm) (v : StreamState) : (l.setStrm st v).lbuf = l.lbuf := by cases st <;> rfl
@[simp] theorem Light.setStrm_rstack (l : Light) (st : Strm) (v : StreamState) : (l.setStrm st v).rstack = l.rstack := by cases st <;> rfl
@[simp] theorem Light.setStrm_depth (l : Light) (st : Strm) (v : StreamState) : (l.setStrm st v).depth = l.depth := by cases st <;> rfl
@[simp] theorem Light.setStrm_spill (l : Light) (st : Strm) (v : StreamState) : (l.setStrm st v).spill = l.spill := by cases st <;> rfl
@[simp] theorem Light.setStrm_pipes (l : Light) (st : Strm) (v : StreamState) : (l.setStrm st v).pipes = l.pipes := by cases st <;> rfl
@[simp] theorem Light.setStrm_ctrs (l : Light) (st : Strm) (v : StreamState) : (l.setStrm st v).ctrs = l.ctrs := by cases st <;> rfl
@[simp] theorem Light.setStrm_fifos (l : Light) (st : Strm) (v : StreamState) : (l.setStrm st v).fifos = l.fifos := by cases st <;> rfl
@[simp] theorem Light.setStrm_cbars (l : Light) (st : Strm) (v : StreamState) : (l.setStrm st v).cbars = l.cbars := by cases st <;> rfl
@[simp] theorem Light.setStrm_rowmask (l : Light) (st : Strm) (v : StreamState) : (l.setStrm st v).rowmask = l.rowmask := by cases st <;> rfl
@[simp] theorem Light.setStrm_colmask (l : Light) (st : Strm) (v : StreamState) : (l.setStrm st v).colmask = l.colmask := by cases st <;> rfl
@[simp] theorem Light.setStrm_books (l : Light) (st : Strm) (v : StreamState) : (l.setStrm st v).books = l.books := by cases st <;> rfl
@[simp] theorem Light.setStrm_tk (l : Light) (st : Strm) (v : StreamState) : (l.setStrm st v).tk = l.tk := by cases st <;> rfl
@[simp] theorem Light.setStrm_owed (l : Light) (st : Strm) (v : StreamState) : (l.setStrm st v).owed = l.owed := by cases st <;> rfl
@[simp] theorem Light.setStrm_stores (l : Light) (st : Strm) (v : StreamState) : (l.setStrm st v).stores = l.stores := by cases st <;> rfl
@[simp] theorem Light.setStrm_sys (l : Light) (st : Strm) (v : StreamState) : (l.setStrm st v).sys = l.sys := by cases st <;> rfl
@[simp] theorem Light.setStrm_faults (l : Light) (st : Strm) (v : StreamState) : (l.setStrm st v).faults = l.faults := by cases st <;> rfl
@[simp] theorem Light.setStrm_frame (l : Light) (st : Strm) (v : StreamState) : (l.setStrm st v).frame = l.frame := by cases st <;> rfl
@[simp] theorem Light.setStrm_hold (l : Light) (st : Strm) (v : StreamState) : (l.setStrm st v).hold = l.hold := by cases st <;> rfl
@[simp] theorem Light.setStrm_chain (l : Light) (st : Strm) (v : StreamState) : (l.setStrm st v).chain = l.chain := by cases st <;> rfl
@[simp] theorem Light.setStrm_bad (l : Light) (st : Strm) (v : StreamState) : (l.setStrm st v).bad = l.bad := by cases st <;> rfl
@[simp] theorem Light.setStrm_strm_self (l : Light) (st : Strm) (v : StreamState) : (l.setStrm st v).strm st = v := by cases st <;> rfl
theorem Light.setStrm_strm_ne (l : Light) {st tt : Strm} (v : StreamState) (h : tt ≠ st) : (l.setStrm st v).strm tt = l.strm tt := by
  cases st <;> cases tt <;> first | rfl | exact absurd rfl h
@[simp] theorem Light.setPipe_c (l : Light) (n : Pipe) (v : List Word) : (l.setPipe n v).c = l.c := rfl
@[simp] theorem Light.setPipe_l (l : Light) (n : Pipe) (v : List Word) : (l.setPipe n v).l = l.l := rfl
@[simp] theorem Light.setPipe_x (l : Light) (n : Pipe) (v : List Word) : (l.setPipe n v).x = l.x := rfl
@[simp] theorem Light.setPipe_s (l : Light) (n : Pipe) (v : List Word) : (l.setPipe n v).s = l.s := rfl
@[simp] theorem Light.setPipe_flights (l : Light) (n : Pipe) (v : List Word) : (l.setPipe n v).flights = l.flights := rfl
@[simp] theorem Light.setPipe_ord (l : Light) (n : Pipe) (v : List Word) : (l.setPipe n v).ord = l.ord := rfl
@[simp] theorem Light.setPipe_line (l : Light) (n : Pipe) (v : List Word) : (l.setPipe n v).line = l.line := rfl
@[simp] theorem Light.setPipe_next (l : Light) (n : Pipe) (v : List Word) : (l.setPipe n v).next = l.next := rfl
@[simp] theorem Light.setPipe_lbuf (l : Light) (n : Pipe) (v : List Word) : (l.setPipe n v).lbuf = l.lbuf := rfl
@[simp] theorem Light.setPipe_rstack (l : Light) (n : Pipe) (v : List Word) : (l.setPipe n v).rstack = l.rstack := rfl
@[simp] theorem Light.setPipe_depth (l : Light) (n : Pipe) (v : List Word) : (l.setPipe n v).depth = l.depth := rfl
@[simp] theorem Light.setPipe_spill (l : Light) (n : Pipe) (v : List Word) : (l.setPipe n v).spill = l.spill := rfl
@[simp] theorem Light.setPipe_ctrs (l : Light) (n : Pipe) (v : List Word) : (l.setPipe n v).ctrs = l.ctrs := rfl
@[simp] theorem Light.setPipe_fifos (l : Light) (n : Pipe) (v : List Word) : (l.setPipe n v).fifos = l.fifos := rfl
@[simp] theorem Light.setPipe_cbars (l : Light) (n : Pipe) (v : List Word) : (l.setPipe n v).cbars = l.cbars := rfl
@[simp] theorem Light.setPipe_rowmask (l : Light) (n : Pipe) (v : List Word) : (l.setPipe n v).rowmask = l.rowmask := rfl
@[simp] theorem Light.setPipe_colmask (l : Light) (n : Pipe) (v : List Word) : (l.setPipe n v).colmask = l.colmask := rfl
@[simp] theorem Light.setPipe_books (l : Light) (n : Pipe) (v : List Word) : (l.setPipe n v).books = l.books := rfl
@[simp] theorem Light.setPipe_tk (l : Light) (n : Pipe) (v : List Word) : (l.setPipe n v).tk = l.tk := rfl
@[simp] theorem Light.setPipe_owed (l : Light) (n : Pipe) (v : List Word) : (l.setPipe n v).owed = l.owed := rfl
@[simp] theorem Light.setPipe_stores (l : Light) (n : Pipe) (v : List Word) : (l.setPipe n v).stores = l.stores := rfl
@[simp] theorem Light.setPipe_sys (l : Light) (n : Pipe) (v : List Word) : (l.setPipe n v).sys = l.sys := rfl
@[simp] theorem Light.setPipe_faults (l : Light) (n : Pipe) (v : List Word) : (l.setPipe n v).faults = l.faults := rfl
@[simp] theorem Light.setPipe_frame (l : Light) (n : Pipe) (v : List Word) : (l.setPipe n v).frame = l.frame := rfl
@[simp] theorem Light.setPipe_hold (l : Light) (n : Pipe) (v : List Word) : (l.setPipe n v).hold = l.hold := rfl
@[simp] theorem Light.setPipe_chain (l : Light) (n : Pipe) (v : List Word) : (l.setPipe n v).chain = l.chain := rfl
@[simp] theorem Light.setPipe_bad (l : Light) (n : Pipe) (v : List Word) : (l.setPipe n v).bad = l.bad := rfl
@[simp] theorem Light.setPipe_strm (l : Light) (n : Pipe) (v : List Word) (st : Strm) : (l.setPipe n v).strm st = l.strm st := by cases st <;> rfl
@[simp] theorem Light.setCtr_c (l : Light) (n : Ctr) (v : TokCtr) : (l.setCtr n v).c = l.c := rfl
@[simp] theorem Light.setCtr_l (l : Light) (n : Ctr) (v : TokCtr) : (l.setCtr n v).l = l.l := rfl
@[simp] theorem Light.setCtr_x (l : Light) (n : Ctr) (v : TokCtr) : (l.setCtr n v).x = l.x := rfl
@[simp] theorem Light.setCtr_s (l : Light) (n : Ctr) (v : TokCtr) : (l.setCtr n v).s = l.s := rfl
@[simp] theorem Light.setCtr_flights (l : Light) (n : Ctr) (v : TokCtr) : (l.setCtr n v).flights = l.flights := rfl
@[simp] theorem Light.setCtr_ord (l : Light) (n : Ctr) (v : TokCtr) : (l.setCtr n v).ord = l.ord := rfl
@[simp] theorem Light.setCtr_line (l : Light) (n : Ctr) (v : TokCtr) : (l.setCtr n v).line = l.line := rfl
@[simp] theorem Light.setCtr_next (l : Light) (n : Ctr) (v : TokCtr) : (l.setCtr n v).next = l.next := rfl
@[simp] theorem Light.setCtr_lbuf (l : Light) (n : Ctr) (v : TokCtr) : (l.setCtr n v).lbuf = l.lbuf := rfl
@[simp] theorem Light.setCtr_rstack (l : Light) (n : Ctr) (v : TokCtr) : (l.setCtr n v).rstack = l.rstack := rfl
@[simp] theorem Light.setCtr_depth (l : Light) (n : Ctr) (v : TokCtr) : (l.setCtr n v).depth = l.depth := rfl
@[simp] theorem Light.setCtr_spill (l : Light) (n : Ctr) (v : TokCtr) : (l.setCtr n v).spill = l.spill := rfl
@[simp] theorem Light.setCtr_pipes (l : Light) (n : Ctr) (v : TokCtr) : (l.setCtr n v).pipes = l.pipes := rfl
@[simp] theorem Light.setCtr_fifos (l : Light) (n : Ctr) (v : TokCtr) : (l.setCtr n v).fifos = l.fifos := rfl
@[simp] theorem Light.setCtr_cbars (l : Light) (n : Ctr) (v : TokCtr) : (l.setCtr n v).cbars = l.cbars := rfl
@[simp] theorem Light.setCtr_rowmask (l : Light) (n : Ctr) (v : TokCtr) : (l.setCtr n v).rowmask = l.rowmask := rfl
@[simp] theorem Light.setCtr_colmask (l : Light) (n : Ctr) (v : TokCtr) : (l.setCtr n v).colmask = l.colmask := rfl
@[simp] theorem Light.setCtr_books (l : Light) (n : Ctr) (v : TokCtr) : (l.setCtr n v).books = l.books := rfl
@[simp] theorem Light.setCtr_tk (l : Light) (n : Ctr) (v : TokCtr) : (l.setCtr n v).tk = l.tk := rfl
@[simp] theorem Light.setCtr_owed (l : Light) (n : Ctr) (v : TokCtr) : (l.setCtr n v).owed = l.owed := rfl
@[simp] theorem Light.setCtr_stores (l : Light) (n : Ctr) (v : TokCtr) : (l.setCtr n v).stores = l.stores := rfl
@[simp] theorem Light.setCtr_sys (l : Light) (n : Ctr) (v : TokCtr) : (l.setCtr n v).sys = l.sys := rfl
@[simp] theorem Light.setCtr_faults (l : Light) (n : Ctr) (v : TokCtr) : (l.setCtr n v).faults = l.faults := rfl
@[simp] theorem Light.setCtr_frame (l : Light) (n : Ctr) (v : TokCtr) : (l.setCtr n v).frame = l.frame := rfl
@[simp] theorem Light.setCtr_hold (l : Light) (n : Ctr) (v : TokCtr) : (l.setCtr n v).hold = l.hold := rfl
@[simp] theorem Light.setCtr_chain (l : Light) (n : Ctr) (v : TokCtr) : (l.setCtr n v).chain = l.chain := rfl
@[simp] theorem Light.setCtr_bad (l : Light) (n : Ctr) (v : TokCtr) : (l.setCtr n v).bad = l.bad := rfl
@[simp] theorem Light.setCtr_strm (l : Light) (n : Ctr) (v : TokCtr) (st : Strm) : (l.setCtr n v).strm st = l.strm st := by cases st <;> rfl
@[simp] theorem Light.setFifo_c (l : Light) (n : Ring) (v : Fifo) : (l.setFifo n v).c = l.c := rfl
@[simp] theorem Light.setFifo_l (l : Light) (n : Ring) (v : Fifo) : (l.setFifo n v).l = l.l := rfl
@[simp] theorem Light.setFifo_x (l : Light) (n : Ring) (v : Fifo) : (l.setFifo n v).x = l.x := rfl
@[simp] theorem Light.setFifo_s (l : Light) (n : Ring) (v : Fifo) : (l.setFifo n v).s = l.s := rfl
@[simp] theorem Light.setFifo_flights (l : Light) (n : Ring) (v : Fifo) : (l.setFifo n v).flights = l.flights := rfl
@[simp] theorem Light.setFifo_ord (l : Light) (n : Ring) (v : Fifo) : (l.setFifo n v).ord = l.ord := rfl
@[simp] theorem Light.setFifo_line (l : Light) (n : Ring) (v : Fifo) : (l.setFifo n v).line = l.line := rfl
@[simp] theorem Light.setFifo_next (l : Light) (n : Ring) (v : Fifo) : (l.setFifo n v).next = l.next := rfl
@[simp] theorem Light.setFifo_lbuf (l : Light) (n : Ring) (v : Fifo) : (l.setFifo n v).lbuf = l.lbuf := rfl
@[simp] theorem Light.setFifo_rstack (l : Light) (n : Ring) (v : Fifo) : (l.setFifo n v).rstack = l.rstack := rfl
@[simp] theorem Light.setFifo_depth (l : Light) (n : Ring) (v : Fifo) : (l.setFifo n v).depth = l.depth := rfl
@[simp] theorem Light.setFifo_spill (l : Light) (n : Ring) (v : Fifo) : (l.setFifo n v).spill = l.spill := rfl
@[simp] theorem Light.setFifo_pipes (l : Light) (n : Ring) (v : Fifo) : (l.setFifo n v).pipes = l.pipes := rfl
@[simp] theorem Light.setFifo_ctrs (l : Light) (n : Ring) (v : Fifo) : (l.setFifo n v).ctrs = l.ctrs := rfl
@[simp] theorem Light.setFifo_cbars (l : Light) (n : Ring) (v : Fifo) : (l.setFifo n v).cbars = l.cbars := rfl
@[simp] theorem Light.setFifo_rowmask (l : Light) (n : Ring) (v : Fifo) : (l.setFifo n v).rowmask = l.rowmask := rfl
@[simp] theorem Light.setFifo_colmask (l : Light) (n : Ring) (v : Fifo) : (l.setFifo n v).colmask = l.colmask := rfl
@[simp] theorem Light.setFifo_books (l : Light) (n : Ring) (v : Fifo) : (l.setFifo n v).books = l.books := rfl
@[simp] theorem Light.setFifo_tk (l : Light) (n : Ring) (v : Fifo) : (l.setFifo n v).tk = l.tk := rfl
@[simp] theorem Light.setFifo_owed (l : Light) (n : Ring) (v : Fifo) : (l.setFifo n v).owed = l.owed := rfl
@[simp] theorem Light.setFifo_stores (l : Light) (n : Ring) (v : Fifo) : (l.setFifo n v).stores = l.stores := rfl
@[simp] theorem Light.setFifo_sys (l : Light) (n : Ring) (v : Fifo) : (l.setFifo n v).sys = l.sys := rfl
@[simp] theorem Light.setFifo_faults (l : Light) (n : Ring) (v : Fifo) : (l.setFifo n v).faults = l.faults := rfl
@[simp] theorem Light.setFifo_frame (l : Light) (n : Ring) (v : Fifo) : (l.setFifo n v).frame = l.frame := rfl
@[simp] theorem Light.setFifo_hold (l : Light) (n : Ring) (v : Fifo) : (l.setFifo n v).hold = l.hold := rfl
@[simp] theorem Light.setFifo_chain (l : Light) (n : Ring) (v : Fifo) : (l.setFifo n v).chain = l.chain := rfl
@[simp] theorem Light.setFifo_bad (l : Light) (n : Ring) (v : Fifo) : (l.setFifo n v).bad = l.bad := rfl
@[simp] theorem Light.setFifo_strm (l : Light) (n : Ring) (v : Fifo) (st : Strm) : (l.setFifo n v).strm st = l.strm st := by cases st <;> rfl
@[simp] theorem Light.setCbar_c (l : Light) (n : Nat) (v : CBar) : (l.setCbar n v).c = l.c := rfl
@[simp] theorem Light.setCbar_l (l : Light) (n : Nat) (v : CBar) : (l.setCbar n v).l = l.l := rfl
@[simp] theorem Light.setCbar_x (l : Light) (n : Nat) (v : CBar) : (l.setCbar n v).x = l.x := rfl
@[simp] theorem Light.setCbar_s (l : Light) (n : Nat) (v : CBar) : (l.setCbar n v).s = l.s := rfl
@[simp] theorem Light.setCbar_flights (l : Light) (n : Nat) (v : CBar) : (l.setCbar n v).flights = l.flights := rfl
@[simp] theorem Light.setCbar_ord (l : Light) (n : Nat) (v : CBar) : (l.setCbar n v).ord = l.ord := rfl
@[simp] theorem Light.setCbar_line (l : Light) (n : Nat) (v : CBar) : (l.setCbar n v).line = l.line := rfl
@[simp] theorem Light.setCbar_next (l : Light) (n : Nat) (v : CBar) : (l.setCbar n v).next = l.next := rfl
@[simp] theorem Light.setCbar_lbuf (l : Light) (n : Nat) (v : CBar) : (l.setCbar n v).lbuf = l.lbuf := rfl
@[simp] theorem Light.setCbar_rstack (l : Light) (n : Nat) (v : CBar) : (l.setCbar n v).rstack = l.rstack := rfl
@[simp] theorem Light.setCbar_depth (l : Light) (n : Nat) (v : CBar) : (l.setCbar n v).depth = l.depth := rfl
@[simp] theorem Light.setCbar_spill (l : Light) (n : Nat) (v : CBar) : (l.setCbar n v).spill = l.spill := rfl
@[simp] theorem Light.setCbar_pipes (l : Light) (n : Nat) (v : CBar) : (l.setCbar n v).pipes = l.pipes := rfl
@[simp] theorem Light.setCbar_ctrs (l : Light) (n : Nat) (v : CBar) : (l.setCbar n v).ctrs = l.ctrs := rfl
@[simp] theorem Light.setCbar_fifos (l : Light) (n : Nat) (v : CBar) : (l.setCbar n v).fifos = l.fifos := rfl
@[simp] theorem Light.setCbar_rowmask (l : Light) (n : Nat) (v : CBar) : (l.setCbar n v).rowmask = l.rowmask := rfl
@[simp] theorem Light.setCbar_colmask (l : Light) (n : Nat) (v : CBar) : (l.setCbar n v).colmask = l.colmask := rfl
@[simp] theorem Light.setCbar_books (l : Light) (n : Nat) (v : CBar) : (l.setCbar n v).books = l.books := rfl
@[simp] theorem Light.setCbar_tk (l : Light) (n : Nat) (v : CBar) : (l.setCbar n v).tk = l.tk := rfl
@[simp] theorem Light.setCbar_owed (l : Light) (n : Nat) (v : CBar) : (l.setCbar n v).owed = l.owed := rfl
@[simp] theorem Light.setCbar_stores (l : Light) (n : Nat) (v : CBar) : (l.setCbar n v).stores = l.stores := rfl
@[simp] theorem Light.setCbar_sys (l : Light) (n : Nat) (v : CBar) : (l.setCbar n v).sys = l.sys := rfl
@[simp] theorem Light.setCbar_faults (l : Light) (n : Nat) (v : CBar) : (l.setCbar n v).faults = l.faults := rfl
@[simp] theorem Light.setCbar_frame (l : Light) (n : Nat) (v : CBar) : (l.setCbar n v).frame = l.frame := rfl
@[simp] theorem Light.setCbar_hold (l : Light) (n : Nat) (v : CBar) : (l.setCbar n v).hold = l.hold := rfl
@[simp] theorem Light.setCbar_chain (l : Light) (n : Nat) (v : CBar) : (l.setCbar n v).chain = l.chain := rfl
@[simp] theorem Light.setCbar_bad (l : Light) (n : Nat) (v : CBar) : (l.setCbar n v).bad = l.bad := rfl
@[simp] theorem Light.setCbar_strm (l : Light) (n : Nat) (v : CBar) (st : Strm) : (l.setCbar n v).strm st = l.strm st := by cases st <;> rfl
@[simp] theorem Light.setPipe_pipe_self (l : Light) (p : Pipe) (v : List Word) : (l.setPipe p v).pipe p = v := by
  cases p <;> simp [Light.setPipe, Light.pipe, Pipe.num]
theorem Light.setPipe_pipe_ne (l : Light) {p q : Pipe} (v : List Word) (h : q ≠ p) : (l.setPipe p v).pipe q = l.pipe q := by
  cases p <;> cases q <;> first | exact absurd rfl h | simp [Light.setPipe, Light.pipe, Pipe.num]
@[simp] theorem Light.setCtr_ctr_self (l : Light) (p : Ctr) (v : TokCtr) : (l.setCtr p v).ctr p = v := by
  cases p <;> simp [Light.setCtr, Light.ctr, Ctr.num]
theorem Light.setCtr_ctr_ne (l : Light) {p q : Ctr} (v : TokCtr) (h : q ≠ p) : (l.setCtr p v).ctr q = l.ctr q := by
  cases p <;> cases q <;> first | exact absurd rfl h | simp [Light.setCtr, Light.ctr, Ctr.num]
@[simp] theorem Light.setFifo_fifo_self (l : Light) (p : Ring) (v : Fifo) : (l.setFifo p v).fifo p = v := by
  cases p <;> simp [Light.setFifo, Light.fifo, Ring.num]
theorem Light.setFifo_fifo_ne (l : Light) {p q : Ring} (v : Fifo) (h : q ≠ p) : (l.setFifo p v).fifo q = l.fifo q := by
  cases p <;> cases q <;> first | exact absurd rfl h | simp [Light.setFifo, Light.fifo, Ring.num]
@[simp] theorem Light.setCbar_cbar_self (l : Light) (q : Nat) (v : CBar) (h : q < 8) : (l.setCbar q v).cbar q = v := by
  simp [Light.setCbar, Light.cbar, h]

/-! A stream -/

@[simp] theorem StreamState.setView_q (ss : StreamState) (n : Nat) (v : Option Lvl) : (ss.setView n v).q = ss.q := rfl
@[simp] theorem StreamState.setView_o (ss : StreamState) (n : Nat) (v : Option Lvl) : (ss.setView n v).o = ss.o := rfl
@[simp] theorem StreamState.setView_g (ss : StreamState) (n : Nat) (v : Option Lvl) : (ss.setView n v).g = ss.g := rfl
@[simp] theorem StreamState.setView_p (ss : StreamState) (n : Nat) (v : Option Lvl) : (ss.setView n v).p = ss.p := rfl
@[simp] theorem StreamState.setView_rot (ss : StreamState) (n : Nat) (v : Option Lvl) : (ss.setView n v).rot = ss.rot := rfl
@[simp] theorem StreamState.setView_queue (ss : StreamState) (n : Nat) (v : Option Lvl) : (ss.setView n v).queue = ss.queue := rfl
@[simp] theorem StreamState.setView_rep (ss : StreamState) (n : Nat) (v : Option Lvl) : (ss.setView n v).rep = ss.rep := rfl
@[simp] theorem StreamState.setView_vote (ss : StreamState) (n : Nat) (v : Option Lvl) : (ss.setView n v).vote = ss.vote := rfl
@[simp] theorem StreamState.setView_wait (ss : StreamState) (n : Nat) (v : Option Lvl) : (ss.setView n v).wait = ss.wait := rfl
@[simp] theorem StreamState.setView_ready (ss : StreamState) (n : Nat) (v : Option Lvl) : (ss.setView n v).ready = ss.ready := rfl
@[simp] theorem StreamState.setView_frame (ss : StreamState) (n : Nat) (v : Option Lvl) : (ss.setView n v).frame = ss.frame := rfl
@[simp] theorem StreamState.setView_lastIssue (ss : StreamState) (n : Nat) (v : Option Lvl) : (ss.setView n v).lastIssue = ss.lastIssue := rfl
@[simp] theorem StreamState.setView_recent (ss : StreamState) (n : Nat) (v : Option Lvl) : (ss.setView n v).recent = ss.recent := rfl
@[simp] theorem StreamState.enterQ_o (ss : StreamState) (v : Word) : (ss.enterQ v).o = ss.o := rfl
@[simp] theorem StreamState.enterQ_g (ss : StreamState) (v : Word) : (ss.enterQ v).g = ss.g := rfl
@[simp] theorem StreamState.enterQ_p (ss : StreamState) (v : Word) : (ss.enterQ v).p = ss.p := rfl
@[simp] theorem StreamState.enterQ_rot (ss : StreamState) (v : Word) : (ss.enterQ v).rot = ss.rot := rfl
@[simp] theorem StreamState.enterQ_queue (ss : StreamState) (v : Word) : (ss.enterQ v).queue = ss.queue := rfl
@[simp] theorem StreamState.enterQ_rep (ss : StreamState) (v : Word) : (ss.enterQ v).rep = ss.rep := rfl
@[simp] theorem StreamState.enterQ_vote (ss : StreamState) (v : Word) : (ss.enterQ v).vote = ss.vote := rfl
@[simp] theorem StreamState.enterQ_wait (ss : StreamState) (v : Word) : (ss.enterQ v).wait = ss.wait := rfl
@[simp] theorem StreamState.enterQ_ready (ss : StreamState) (v : Word) : (ss.enterQ v).ready = ss.ready := rfl
@[simp] theorem StreamState.enterQ_views (ss : StreamState) (v : Word) : (ss.enterQ v).views = ss.views := rfl
@[simp] theorem StreamState.enterQ_frame (ss : StreamState) (v : Word) : (ss.enterQ v).frame = ss.frame := rfl
@[simp] theorem StreamState.enterQ_lastIssue (ss : StreamState) (v : Word) : (ss.enterQ v).lastIssue = ss.lastIssue := rfl
@[simp] theorem StreamState.enterQ_recent (ss : StreamState) (v : Word) : (ss.enterQ v).recent = ss.recent := rfl

/-- A result enters q0. -/
@[simp] theorem StreamState.enterQ_head (ss : StreamState) (v : Word) : (ss.enterQ v).q[0] = v := by simp [StreamState.enterQ]

/-- The older entries move down. -/
theorem StreamState.enterQ_next (ss : StreamState) (v : Word) (i : Nat) (h : i < 15) : (ss.enterQ v).q[i + 1] = ss.q[i] := by
  simp [StreamState.enterQ, show i < 16 by omega]

end Sys2Proof.Machine
end

