-- ==== Sys2Proof/Laws/Issue.lean ====
section
/-! SUPPORT. The issue of a word: what it answers when it may issue, everything it can answer, and what its retirement leaves. -/

namespace Sys2Proof.Machine

open Sys2Proof

/-! Marks and retirement touch no register file -/

/-- A stream's registers, predicates and times. -/
def StreamState.files (ss : StreamState) : (Vector Word 16 × Vector Word 8 × Vector Word 32 × Vector Bool 8) × (Nat × Nat × Option Lane) :=
  ((ss.q, ss.o, ss.g, ss.p), (ss.ready, ss.lastIssue, ss.vote))

@[simp] theorem StreamState.pass_files (ss : StreamState) (m : Mark) : (ss.pass m).files = ss.files := by
  cases m <;> simp only [StreamState.pass] <;> (try split) <;> rfl

theorem StreamState.passFold_files (q : List QItem) (acc : List QItem × StreamState) :
    (q.foldl (fun acc item =>
      match acc.1, item with
      | [], .mark m => (([] : List QItem), acc.2.pass m)
      | got, item => (got ++ [item], acc.2)) acc).2.files = acc.2.files := by
  induction q generalizing acc with
  | nil => rfl
  | cons item rest ih =>
    simp only [List.foldl_cons]
    rw [ih]
    split <;> simp

@[simp] theorem StreamState.passHead_files (ss : StreamState) : ss.passHead.files = ss.files := by
  have h := StreamState.passFold_files ss.queue ([], ss)
  have e : ss.passHead.files = (ss.queue.foldl (fun acc item =>
      match acc.1, item with
      | [], .mark m => (([] : List QItem), acc.2.pass m)
      | got, item => (got ++ [item], acc.2)) ([], ss)).2.files := rfl
  rw [e, h]

@[simp] theorem StreamState.prefixed_q (ss : StreamState) (pre : Prefix) : (ss.prefixed pre).q = ss.q := by cases pre <;> rfl
@[simp] theorem StreamState.prefixed_o (ss : StreamState) (pre : Prefix) : (ss.prefixed pre).o = ss.o := by cases pre <;> rfl
@[simp] theorem StreamState.prefixed_g (ss : StreamState) (pre : Prefix) : (ss.prefixed pre).g = ss.g := by cases pre <;> rfl
@[simp] theorem StreamState.prefixed_p (ss : StreamState) (pre : Prefix) : (ss.prefixed pre).p = ss.p := by cases pre <;> rfl
@[simp] theorem StreamState.prefixed_ready (ss : StreamState) (pre : Prefix) : (ss.prefixed pre).ready = ss.ready := by cases pre <;> rfl

@[simp] theorem StreamState.retire_q (ss : StreamState) (c n : Nat) : (ss.retire c n).q = ss.q := by
  unfold StreamState.retire; dsimp only; split <;> (try split) <;> rfl
@[simp] theorem StreamState.retire_o (ss : StreamState) (c n : Nat) : (ss.retire c n).o = ss.o := by
  unfold StreamState.retire; dsimp only; split <;> (try split) <;> rfl
@[simp] theorem StreamState.retire_g (ss : StreamState) (c n : Nat) : (ss.retire c n).g = ss.g := by
  unfold StreamState.retire; dsimp only; split <;> (try split) <;> rfl
@[simp] theorem StreamState.retire_p (ss : StreamState) (c n : Nat) : (ss.retire c n).p = ss.p := by
  unfold StreamState.retire; dsimp only; split <;> (try split) <;> rfl
@[simp] theorem StreamState.retire_ready (ss : StreamState) (c n : Nat) : (ss.retire c n).ready = c + n := by
  unfold StreamState.retire; dsimp only; split <;> (try split) <;> rfl

@[simp] theorem StreamState.passHead_q (ss : StreamState) : ss.passHead.q = ss.q := congrArg (·.1.1) ss.passHead_files
@[simp] theorem StreamState.passHead_o (ss : StreamState) : ss.passHead.o = ss.o := congrArg (·.1.2.1) ss.passHead_files
@[simp] theorem StreamState.passHead_g (ss : StreamState) : ss.passHead.g = ss.g := congrArg (·.1.2.2.1) ss.passHead_files
@[simp] theorem StreamState.passHead_p (ss : StreamState) : ss.passHead.p = ss.p := congrArg (·.1.2.2.2) ss.passHead_files
@[simp] theorem StreamState.passHead_ready (ss : StreamState) : ss.passHead.ready = ss.ready := congrArg (·.2.1) ss.passHead_files

/-- Retirement replaces the state of the issuing stream only. -/
theorem Ctx.retire_eq (k : Ctx) (st : Strm) (c n : Nat) (pre : Prefix) :
    ∃ ss, k.retire st c n pre = k.setLt (k.lt.setStrm st ss) ∧ ss.ready = c + n ∧
      ss.q = (k.strm st).q ∧ ss.o = (k.strm st).o ∧ ss.g = (k.strm st).g ∧ ss.p = (k.strm st).p := by
  cases pre
  case stays => exact ⟨_, rfl, rfl, rfl, rfl, rfl, rfl⟩
  all_goals exact ⟨_, rfl, by simp, by simp, by simp, by simp, by simp⟩

@[simp] theorem Ctx.retire_ready (k : Ctx) (st : Strm) (c n : Nat) (pre : Prefix) : ((k.retire st c n pre).strm st).ready = c + n := by
  obtain ⟨ss, e, h, -⟩ := k.retire_eq st c n pre
  rw [e]; simpa [Ctx.strm_eq] using h

theorem Ctx.retire_sameRegs (k : Ctx) (st : Strm) (c n : Nat) (pre : Prefix) : SameRegs k (k.retire st c n pre) := by
  obtain ⟨ss, e, -, hq, ho, hg, hp⟩ := k.retire_eq st c n pre
  intro tt
  rw [e]
  by_cases h : tt = st
  · subst h; simp [Ctx.strm_eq, hq, ho, hg, hp]
  · simp [Ctx.strm_eq, Light.setStrm_strm_ne _ _ h]

@[simp] theorem Ctx.retire_res (k : Ctx) (st : Strm) (c n : Nat) (pre : Prefix) : (k.retire st c n pre).res = k.res := by
  obtain ⟨ss, e, -⟩ := k.retire_eq st c n pre; rw [e]; rfl
@[simp] theorem Ctx.retire_queue (k : Ctx) (st : Strm) (c n : Nat) (pre : Prefix) : (k.retire st c n pre).queue = k.queue := by
  obtain ⟨ss, e, -⟩ := k.retire_eq st c n pre; rw [e]; rfl
@[simp] theorem Ctx.retire_slice (k : Ctx) (st : Strm) (c n : Nat) (pre : Prefix) : (k.retire st c n pre).slice = k.slice := by
  obtain ⟨ss, e, -⟩ := k.retire_eq st c n pre; rw [e]; rfl
@[simp] theorem Ctx.retire_tenant (k : Ctx) (st : Strm) (c n : Nat) (pre : Prefix) : (k.retire st c n pre).tenant = k.tenant := by
  obtain ⟨ss, e, -⟩ := k.retire_eq st c n pre; rw [e]; rfl
@[simp] theorem Ctx.retire_kernelLvl (k : Ctx) (st : Strm) (c n : Nat) (pre : Prefix) : (k.retire st c n pre).kernelLvl = k.kernelLvl := by
  obtain ⟨ss, e, -⟩ := k.retire_eq st c n pre; rw [e]; rfl
@[simp] theorem Ctx.retire_rank (k : Ctx) (st : Strm) (c n : Nat) (pre : Prefix) : (k.retire st c n pre).rank = k.rank := by
  obtain ⟨ss, e, -⟩ := k.retire_eq st c n pre; rw [e]; rfl
@[simp] theorem Ctx.retire_coord (k : Ctx) (st : Strm) (c n : Nat) (pre : Prefix) : (k.retire st c n pre).coord = k.coord := by
  obtain ⟨ss, e, -⟩ := k.retire_eq st c n pre; rw [e]; rfl
@[simp] theorem Ctx.retire_paired (k : Ctx) (st : Strm) (c n : Nat) (pre : Prefix) : (k.retire st c n pre).paired = k.paired := by
  obtain ⟨ss, e, -⟩ := k.retire_eq st c n pre; rw [e]; rfl
@[simp] theorem Ctx.retire_sig (k : Ctx) (st : Strm) (c n : Nat) (pre : Prefix) : (k.retire st c n pre).sig = k.sig := by
  obtain ⟨ss, e, -⟩ := k.retire_eq st c n pre; rw [e]; rfl
@[simp] theorem Ctx.retire_codeLo (k : Ctx) (st : Strm) (c n : Nat) (pre : Prefix) : (k.retire st c n pre).codeLo = k.codeLo := by
  obtain ⟨ss, e, -⟩ := k.retire_eq st c n pre; rw [e]; rfl
@[simp] theorem Ctx.retire_codeHi (k : Ctx) (st : Strm) (c n : Nat) (pre : Prefix) : (k.retire st c n pre).codeHi = k.codeHi := by
  obtain ⟨ss, e, -⟩ := k.retire_eq st c n pre; rw [e]; rfl
@[simp] theorem Ctx.retire_nspill (k : Ctx) (st : Strm) (c n : Nat) (pre : Prefix) : (k.retire st c n pre).nspill = k.nspill := by
  obtain ⟨ss, e, -⟩ := k.retire_eq st c n pre; rw [e]; rfl
@[simp] theorem Ctx.retire_dpipes (k : Ctx) (st : Strm) (c n : Nat) (pre : Prefix) : (k.retire st c n pre).dpipes = k.dpipes := by
  obtain ⟨ss, e, -⟩ := k.retire_eq st c n pre; rw [e]; rfl
@[simp] theorem Ctx.retire_dctrs (k : Ctx) (st : Strm) (c n : Nat) (pre : Prefix) : (k.retire st c n pre).dctrs = k.dctrs := by
  obtain ⟨ss, e, -⟩ := k.retire_eq st c n pre; rw [e]; rfl
@[simp] theorem Ctx.retire_dtokens (k : Ctx) (st : Strm) (c n : Nat) (pre : Prefix) : (k.retire st c n pre).dtokens = k.dtokens := by
  obtain ⟨ss, e, -⟩ := k.retire_eq st c n pre; rw [e]; rfl
@[simp] theorem Ctx.retire_transform (k : Ctx) (st : Strm) (c n : Nat) (pre : Prefix) : (k.retire st c n pre).transform = k.transform := by
  obtain ⟨ss, e, -⟩ := k.retire_eq st c n pre; rw [e]; rfl
@[simp] theorem Ctx.retire_ahead (k : Ctx) (st : Strm) (c n : Nat) (pre : Prefix) : (k.retire st c n pre).ahead = k.ahead := by
  obtain ⟨ss, e, -⟩ := k.retire_eq st c n pre; rw [e]; rfl
@[simp] theorem Ctx.retire_tiles (k : Ctx) (st : Strm) (c n : Nat) (pre : Prefix) : (k.retire st c n pre).tiles = k.tiles := by
  obtain ⟨ss, e, -⟩ := k.retire_eq st c n pre; rw [e]; rfl
@[simp] theorem Ctx.retire_bnd (k : Ctx) (st : Strm) (c n : Nat) (pre : Prefix) : (k.retire st c n pre).bnd = k.bnd := by
  obtain ⟨ss, e, -⟩ := k.retire_eq st c n pre; rw [e]; rfl
@[simp] theorem Ctx.retire_pends (k : Ctx) (st : Strm) (c n : Nat) (pre : Prefix) : (k.retire st c n pre).pends = k.pends := by
  obtain ⟨ss, e, -⟩ := k.retire_eq st c n pre; rw [e]; rfl
@[simp] theorem Ctx.retire_mats (k : Ctx) (st : Strm) (c n : Nat) (pre : Prefix) : (k.retire st c n pre).mats = k.mats := by
  obtain ⟨ss, e, -⟩ := k.retire_eq st c n pre; rw [e]; rfl
@[simp] theorem Ctx.retire_quants (k : Ctx) (st : Strm) (c n : Nat) (pre : Prefix) : (k.retire st c n pre).quants = k.quants := by
  obtain ⟨ss, e, -⟩ := k.retire_eq st c n pre; rw [e]; rfl
@[simp] theorem Ctx.retire_crds (k : Ctx) (st : Strm) (c n : Nat) (pre : Prefix) : (k.retire st c n pre).crds = k.crds := by
  obtain ⟨ss, e, -⟩ := k.retire_eq st c n pre; rw [e]; rfl
@[simp] theorem Ctx.retire_xf (k : Ctx) (st : Strm) (c n : Nat) (pre : Prefix) : (k.retire st c n pre).xf = k.xf := by
  obtain ⟨ss, e, -⟩ := k.retire_eq st c n pre; rw [e]; rfl
@[simp] theorem Ctx.retire_xfFault (k : Ctx) (st : Strm) (c n : Nat) (pre : Prefix) : (k.retire st c n pre).xfFault = k.xfFault := by
  obtain ⟨ss, e, -⟩ := k.retire_eq st c n pre; rw [e]; rfl
@[simp] theorem Ctx.retire_xfRun (k : Ctx) (st : Strm) (c n : Nat) (pre : Prefix) : (k.retire st c n pre).xfRun = k.xfRun := by
  obtain ⟨ss, e, -⟩ := k.retire_eq st c n pre; rw [e]; rfl
@[simp] theorem Ctx.retire_cmds (k : Ctx) (st : Strm) (c n : Nat) (pre : Prefix) : (k.retire st c n pre).cmds = k.cmds := by
  obtain ⟨ss, e, -⟩ := k.retire_eq st c n pre; rw [e]; rfl
@[simp] theorem Ctx.retire_free (k : Ctx) (st : Strm) (c n : Nat) (pre : Prefix) : (k.retire st c n pre).free = k.free := by
  obtain ⟨ss, e, -⟩ := k.retire_eq st c n pre; rw [e]; rfl
@[simp] theorem Ctx.retire_lastMove (k : Ctx) (st : Strm) (c n : Nat) (pre : Prefix) : (k.retire st c n pre).lastMove = k.lastMove := by
  obtain ⟨ss, e, -⟩ := k.retire_eq st c n pre; rw [e]; rfl
@[simp] theorem Ctx.retire_arrived (k : Ctx) (st : Strm) (c n : Nat) (pre : Prefix) : (k.retire st c n pre).arrived = k.arrived := by
  obtain ⟨ss, e, -⟩ := k.retire_eq st c n pre; rw [e]; rfl
@[simp] theorem Ctx.retire_loads (k : Ctx) (st : Strm) (c n : Nat) (pre : Prefix) : (k.retire st c n pre).loads = k.loads := by
  obtain ⟨ss, e, -⟩ := k.retire_eq st c n pre; rw [e]; rfl
@[simp] theorem Ctx.retire_atoms (k : Ctx) (st : Strm) (c n : Nat) (pre : Prefix) : (k.retire st c n pre).atoms = k.atoms := by
  obtain ⟨ss, e, -⟩ := k.retire_eq st c n pre; rw [e]; rfl
@[simp] theorem Ctx.retire_fences (k : Ctx) (st : Strm) (c n : Nat) (pre : Prefix) : (k.retire st c n pre).fences = k.fences := by
  obtain ⟨ss, e, -⟩ := k.retire_eq st c n pre; rw [e]; rfl
@[simp] theorem Ctx.retire_afence (k : Ctx) (st : Strm) (c n : Nat) (pre : Prefix) : (k.retire st c n pre).afence = k.afence := by
  obtain ⟨ss, e, -⟩ := k.retire_eq st c n pre; rw [e]; rfl
@[simp] theorem Ctx.retire_start (k : Ctx) (st : Strm) (c n : Nat) (pre : Prefix) : (k.retire st c n pre).start = k.start := by
  obtain ⟨ss, e, -⟩ := k.retire_eq st c n pre; rw [e]; rfl
@[simp] theorem Ctx.retire_snaps (k : Ctx) (st : Strm) (c n : Nat) (pre : Prefix) : (k.retire st c n pre).snaps = k.snaps := by
  obtain ⟨ss, e, -⟩ := k.retire_eq st c n pre; rw [e]; rfl
@[simp] theorem Ctx.retire_frags (k : Ctx) (st : Strm) (c n : Nat) (pre : Prefix) : (k.retire st c n pre).frags = k.frags := by
  obtain ⟨ss, e, -⟩ := k.retire_eq st c n pre; rw [e]; rfl
@[simp] theorem Ctx.retire_unrecov (k : Ctx) (st : Strm) (c n : Nat) (pre : Prefix) : (k.retire st c n pre).unrecov = k.unrecov := by
  obtain ⟨ss, e, -⟩ := k.retire_eq st c n pre; rw [e]; rfl
@[simp] theorem Ctx.retire_shadow (k : Ctx) (st : Strm) (c n : Nat) (pre : Prefix) : (k.retire st c n pre).shadow = k.shadow := by
  obtain ⟨ss, e, -⟩ := k.retire_eq st c n pre; rw [e]; rfl
@[simp] theorem Ctx.retire_shTiles (k : Ctx) (st : Strm) (c n : Nat) (pre : Prefix) : (k.retire st c n pre).shTiles = k.shTiles := by
  obtain ⟨ss, e, -⟩ := k.retire_eq st c n pre; rw [e]; rfl
@[simp] theorem Ctx.retire_shFrags (k : Ctx) (st : Strm) (c n : Nat) (pre : Prefix) : (k.retire st c n pre).shFrags = k.shFrags := by
  obtain ⟨ss, e, -⟩ := k.retire_eq st c n pre; rw [e]; rfl
@[simp] theorem Ctx.retire_shadowAt (k : Ctx) (st : Strm) (c n : Nat) (pre : Prefix) : (k.retire st c n pre).shadowAt = k.shadowAt := by
  obtain ⟨ss, e, -⟩ := k.retire_eq st c n pre; rw [e]; rfl
@[simp] theorem Ctx.retire_preAcc (k : Ctx) (st : Strm) (c n : Nat) (pre : Prefix) : (k.retire st c n pre).preAcc = k.preAcc := by
  obtain ⟨ss, e, -⟩ := k.retire_eq st c n pre; rw [e]; rfl
@[simp] theorem Ctx.retire_preBnd (k : Ctx) (st : Strm) (c n : Nat) (pre : Prefix) : (k.retire st c n pre).preBnd = k.preBnd := by
  obtain ⟨ss, e, -⟩ := k.retire_eq st c n pre; rw [e]; rfl
@[simp] theorem Ctx.retire_preSp (k : Ctx) (st : Strm) (c n : Nat) (pre : Prefix) : (k.retire st c n pre).preSp = k.preSp := by
  obtain ⟨ss, e, -⟩ := k.retire_eq st c n pre; rw [e]; rfl
@[simp] theorem Ctx.retire_preBad (k : Ctx) (st : Strm) (c n : Nat) (pre : Prefix) : (k.retire st c n pre).preBad = k.preBad := by
  obtain ⟨ss, e, -⟩ := k.retire_eq st c n pre; rw [e]; rfl
@[simp] theorem Ctx.retire_bkptHalt (k : Ctx) (st : Strm) (c n : Nat) (pre : Prefix) : (k.retire st c n pre).bkptHalt = k.bkptHalt := by
  obtain ⟨ss, e, -⟩ := k.retire_eq st c n pre; rw [e]; rfl
@[simp] theorem Ctx.retire_preTile (k : Ctx) (st : Strm) (c n : Nat) (pre : Prefix) : (k.retire st c n pre).preTile = k.preTile := by
  obtain ⟨ss, e, -⟩ := k.retire_eq st c n pre; rw [e]; rfl
@[simp] theorem Ctx.retire_expOrd (k : Ctx) (st : Strm) (c n : Nat) (pre : Prefix) : (k.retire st c n pre).expOrd = k.expOrd := by
  obtain ⟨ss, e, -⟩ := k.retire_eq st c n pre; rw [e]; rfl
@[simp] theorem Ctx.retire_rolls (k : Ctx) (st : Strm) (c n : Nat) (pre : Prefix) : (k.retire st c n pre).rolls = k.rolls := by
  obtain ⟨ss, e, -⟩ := k.retire_eq st c n pre; rw [e]; rfl
@[simp] theorem Ctx.retire_notice (k : Ctx) (st : Strm) (c n : Nat) (pre : Prefix) : (k.retire st c n pre).notice = k.notice := by
  obtain ⟨ss, e, -⟩ := k.retire_eq st c n pre; rw [e]; rfl
@[simp] theorem Ctx.retire_wd (k : Ctx) (st : Strm) (c n : Nat) (pre : Prefix) : (k.retire st c n pre).wd = k.wd := by
  obtain ⟨ss, e, -⟩ := k.retire_eq st c n pre; rw [e]; rfl
@[simp] theorem Ctx.retire_drowsy (k : Ctx) (st : Strm) (c n : Nat) (pre : Prefix) : (k.retire st c n pre).drowsy = k.drowsy := by
  obtain ⟨ss, e, -⟩ := k.retire_eq st c n pre; rw [e]; rfl
@[simp] theorem Ctx.retire_halted (k : Ctx) (st : Strm) (c n : Nat) (pre : Prefix) : (k.retire st c n pre).halted = k.halted := by
  obtain ⟨ss, e, -⟩ := k.retire_eq st c n pre; rw [e]; rfl
@[simp] theorem Ctx.retire_stopped (k : Ctx) (st : Strm) (c n : Nat) (pre : Prefix) : (k.retire st c n pre).stopped = k.stopped := by
  obtain ⟨ss, e, -⟩ := k.retire_eq st c n pre; rw [e]; rfl
@[simp] theorem Ctx.retire_zeroing (k : Ctx) (st : Strm) (c n : Nat) (pre : Prefix) : (k.retire st c n pre).zeroing = k.zeroing := by
  obtain ⟨ss, e, -⟩ := k.retire_eq st c n pre; rw [e]; rfl
@[simp] theorem Ctx.retire_saveAt (k : Ctx) (st : Strm) (c n : Nat) (pre : Prefix) : (k.retire st c n pre).saveAt = k.saveAt := by
  obtain ⟨ss, e, -⟩ := k.retire_eq st c n pre; rw [e]; rfl
@[simp] theorem Ctx.retire_saveBy (k : Ctx) (st : Strm) (c n : Nat) (pre : Prefix) : (k.retire st c n pre).saveBy = k.saveBy := by
  obtain ⟨ss, e, -⟩ := k.retire_eq st c n pre; rw [e]; rfl
@[simp] theorem Ctx.retire_savedSp (k : Ctx) (st : Strm) (c n : Nat) (pre : Prefix) : (k.retire st c n pre).savedSp = k.savedSp := by
  obtain ⟨ss, e, -⟩ := k.retire_eq st c n pre; rw [e]; rfl
@[simp] theorem Ctx.retire_savedAcc (k : Ctx) (st : Strm) (c n : Nat) (pre : Prefix) : (k.retire st c n pre).savedAcc = k.savedAcc := by
  obtain ⟨ss, e, -⟩ := k.retire_eq st c n pre; rw [e]; rfl
@[simp] theorem Ctx.retire_peek (k : Ctx) (st : Strm) (c n : Nat) (pre : Prefix) : (k.retire st c n pre).peek = k.peek := by
  obtain ⟨ss, e, -⟩ := k.retire_eq st c n pre; rw [e]; rfl
@[simp] theorem Ctx.retire_place (k : Ctx) (st : Strm) (c n : Nat) (pre : Prefix) : (k.retire st c n pre).place = k.place := by
  obtain ⟨ss, e, -⟩ := k.retire_eq st c n pre; rw [e]; rfl
@[simp] theorem Ctx.retire_rfence (k : Ctx) (st : Strm) (c n : Nat) (pre : Prefix) : (k.retire st c n pre).rfence = k.rfence := by
  obtain ⟨ss, e, -⟩ := k.retire_eq st c n pre; rw [e]; rfl
@[simp] theorem Ctx.retire_seen (k : Ctx) (st : Strm) (c n : Nat) (pre : Prefix) : (k.retire st c n pre).seen = k.seen := by
  obtain ⟨ss, e, -⟩ := k.retire_eq st c n pre; rw [e]; rfl
@[simp] theorem Ctx.retire_heard (k : Ctx) (st : Strm) (c n : Nat) (pre : Prefix) : (k.retire st c n pre).heard = k.heard := by
  obtain ⟨ss, e, -⟩ := k.retire_eq st c n pre; rw [e]; rfl
@[simp] theorem Ctx.retire_acqs (k : Ctx) (st : Strm) (c n : Nat) (pre : Prefix) : (k.retire st c n pre).acqs = k.acqs := by
  obtain ⟨ss, e, -⟩ := k.retire_eq st c n pre; rw [e]; rfl
@[simp] theorem Ctx.retire_shAcqs (k : Ctx) (st : Strm) (c n : Nat) (pre : Prefix) : (k.retire st c n pre).shAcqs = k.shAcqs := by
  obtain ⟨ss, e, -⟩ := k.retire_eq st c n pre; rw [e]; rfl
@[simp] theorem Ctx.retire_shArrived (k : Ctx) (st : Strm) (c n : Nat) (pre : Prefix) : (k.retire st c n pre).shArrived = k.shArrived := by
  obtain ⟨ss, e, -⟩ := k.retire_eq st c n pre; rw [e]; rfl
@[simp] theorem Ctx.retire_shRank (k : Ctx) (st : Strm) (c n : Nat) (pre : Prefix) : (k.retire st c n pre).shRank = k.shRank := by
  obtain ⟨ss, e, -⟩ := k.retire_eq st c n pre; rw [e]; rfl
@[simp] theorem Ctx.retire_shWd (k : Ctx) (st : Strm) (c n : Nat) (pre : Prefix) : (k.retire st c n pre).shWd = k.shWd := by
  obtain ⟨ss, e, -⟩ := k.retire_eq st c n pre; rw [e]; rfl
@[simp] theorem Ctx.retire_lt_flights (k : Ctx) (st : Strm) (c n : Nat) (pre : Prefix) : (k.retire st c n pre).lt.flights = k.lt.flights := by
  obtain ⟨ss, e, -⟩ := k.retire_eq st c n pre; rw [e]; simp
@[simp] theorem Ctx.retire_lt_ord (k : Ctx) (st : Strm) (c n : Nat) (pre : Prefix) : (k.retire st c n pre).lt.ord = k.lt.ord := by
  obtain ⟨ss, e, -⟩ := k.retire_eq st c n pre; rw [e]; simp
@[simp] theorem Ctx.retire_lt_line (k : Ctx) (st : Strm) (c n : Nat) (pre : Prefix) : (k.retire st c n pre).lt.line = k.lt.line := by
  obtain ⟨ss, e, -⟩ := k.retire_eq st c n pre; rw [e]; simp
@[simp] theorem Ctx.retire_lt_next (k : Ctx) (st : Strm) (c n : Nat) (pre : Prefix) : (k.retire st c n pre).lt.next = k.lt.next := by
  obtain ⟨ss, e, -⟩ := k.retire_eq st c n pre; rw [e]; simp
@[simp] theorem Ctx.retire_lt_lbuf (k : Ctx) (st : Strm) (c n : Nat) (pre : Prefix) : (k.retire st c n pre).lt.lbuf = k.lt.lbuf := by
  obtain ⟨ss, e, -⟩ := k.retire_eq st c n pre; rw [e]; simp
@[simp] theorem Ctx.retire_lt_rstack (k : Ctx) (st : Strm) (c n : Nat) (pre : Prefix) : (k.retire st c n pre).lt.rstack = k.lt.rstack := by
  obtain ⟨ss, e, -⟩ := k.retire_eq st c n pre; rw [e]; simp
@[simp] theorem Ctx.retire_lt_depth (k : Ctx) (st : Strm) (c n : Nat) (pre : Prefix) : (k.retire st c n pre).lt.depth = k.lt.depth := by
  obtain ⟨ss, e, -⟩ := k.retire_eq st c n pre; rw [e]; simp
@[simp] theorem Ctx.retire_lt_spill (k : Ctx) (st : Strm) (c n : Nat) (pre : Prefix) : (k.retire st c n pre).lt.spill = k.lt.spill := by
  obtain ⟨ss, e, -⟩ := k.retire_eq st c n pre; rw [e]; simp
@[simp] theorem Ctx.retire_lt_pipes (k : Ctx) (st : Strm) (c n : Nat) (pre : Prefix) : (k.retire st c n pre).lt.pipes = k.lt.pipes := by
  obtain ⟨ss, e, -⟩ := k.retire_eq st c n pre; rw [e]; simp
@[simp] theorem Ctx.retire_lt_ctrs (k : Ctx) (st : Strm) (c n : Nat) (pre : Prefix) : (k.retire st c n pre).lt.ctrs = k.lt.ctrs := by
  obtain ⟨ss, e, -⟩ := k.retire_eq st c n pre; rw [e]; simp
@[simp] theorem Ctx.retire_lt_fifos (k : Ctx) (st : Strm) (c n : Nat) (pre : Prefix) : (k.retire st c n pre).lt.fifos = k.lt.fifos := by
  obtain ⟨ss, e, -⟩ := k.retire_eq st c n pre; rw [e]; simp
@[simp] theorem Ctx.retire_lt_cbars (k : Ctx) (st : Strm) (c n : Nat) (pre : Prefix) : (k.retire st c n pre).lt.cbars = k.lt.cbars := by
  obtain ⟨ss, e, -⟩ := k.retire_eq st c n pre; rw [e]; simp
@[simp] theorem Ctx.retire_lt_rowmask (k : Ctx) (st : Strm) (c n : Nat) (pre : Prefix) : (k.retire st c n pre).lt.rowmask = k.lt.rowmask := by
  obtain ⟨ss, e, -⟩ := k.retire_eq st c n pre; rw [e]; simp
@[simp] theorem Ctx.retire_lt_colmask (k : Ctx) (st : Strm) (c n : Nat) (pre : Prefix) : (k.retire st c n pre).lt.colmask = k.lt.colmask := by
  obtain ⟨ss, e, -⟩ := k.retire_eq st c n pre; rw [e]; simp
@[simp] theorem Ctx.retire_lt_books (k : Ctx) (st : Strm) (c n : Nat) (pre : Prefix) : (k.retire st c n pre).lt.books = k.lt.books := by
  obtain ⟨ss, e, -⟩ := k.retire_eq st c n pre; rw [e]; simp
@[simp] theorem Ctx.retire_lt_tk (k : Ctx) (st : Strm) (c n : Nat) (pre : Prefix) : (k.retire st c n pre).lt.tk = k.lt.tk := by
  obtain ⟨ss, e, -⟩ := k.retire_eq st c n pre; rw [e]; simp
@[simp] theorem Ctx.retire_lt_stores (k : Ctx) (st : Strm) (c n : Nat) (pre : Prefix) : (k.retire st c n pre).lt.stores = k.lt.stores := by
  obtain ⟨ss, e, -⟩ := k.retire_eq st c n pre; rw [e]; simp
@[simp] theorem Ctx.retire_lt_sys (k : Ctx) (st : Strm) (c n : Nat) (pre : Prefix) : (k.retire st c n pre).lt.sys = k.lt.sys := by
  obtain ⟨ss, e, -⟩ := k.retire_eq st c n pre; rw [e]; simp
@[simp] theorem Ctx.retire_lt_faults (k : Ctx) (st : Strm) (c n : Nat) (pre : Prefix) : (k.retire st c n pre).lt.faults = k.lt.faults := by
  obtain ⟨ss, e, -⟩ := k.retire_eq st c n pre; rw [e]; simp
@[simp] theorem Ctx.retire_lt_frame (k : Ctx) (st : Strm) (c n : Nat) (pre : Prefix) : (k.retire st c n pre).lt.frame = k.lt.frame := by
  obtain ⟨ss, e, -⟩ := k.retire_eq st c n pre; rw [e]; simp
@[simp] theorem Ctx.retire_lt_hold (k : Ctx) (st : Strm) (c n : Nat) (pre : Prefix) : (k.retire st c n pre).lt.hold = k.lt.hold := by
  obtain ⟨ss, e, -⟩ := k.retire_eq st c n pre; rw [e]; simp
@[simp] theorem Ctx.retire_lt_chain (k : Ctx) (st : Strm) (c n : Nat) (pre : Prefix) : (k.retire st c n pre).lt.chain = k.lt.chain := by
  obtain ⟨ss, e, -⟩ := k.retire_eq st c n pre; rw [e]; simp
@[simp] theorem Ctx.retire_lt_bad (k : Ctx) (st : Strm) (c n : Nat) (pre : Prefix) : (k.retire st c n pre).lt.bad = k.lt.bad := by
  obtain ⟨ss, e, -⟩ := k.retire_eq st c n pre; rw [e]; simp

/-! Taking pops and reserving pushes -/

/-- The marks of a pipe move in the list of marks alone. -/
theorem Light.popMarks_eq (l : Light) (p : Pipe) : ∃ b, l.popMarks p = { l with bad := b } := by
  unfold Light.popMarks
  split
  · exact ⟨l.bad, rfl⟩
  · exact ⟨_, rfl⟩

/-- What pops and reservations change: counters, pipes and the marks of the pipes' entries. -/
theorem Ctx.syncTake_eq (k : Ctx) (st : Strm) (t : Tok) (srcs : List Spec) :
    ∃ pipes ctrs bad, k.syncTake st t srcs = k.setLt { k.lt with pipes := pipes, ctrs := ctrs, bad := bad } := by
  have hc : ∀ (f : TokCtr → TokCtr) (cs : List Ctr) (l : Light),
      ∃ ctrs, cs.foldl (fun l c => l.setCtr c (f (l.ctr c))) l = { l with ctrs := ctrs } := by
    intro f cs
    induction cs with
    | nil => exact fun l => ⟨l.ctrs, rfl⟩
    | cons c rest ih => exact fun l => by obtain ⟨x, e⟩ := ih (l.setCtr c (f (l.ctr c))); exact ⟨x, by simp only [List.foldl_cons]; rw [e]; rfl⟩
  have hp : ∀ (ps : List Pipe) (l : Light),
      ∃ pipes bad, ps.foldl (fun l p => (l.setPipe p (l.pipe p).tail).popMarks p) l = { l with pipes := pipes, bad := bad } := by
    intro ps
    induction ps with
    | nil => exact fun l => ⟨l.pipes, l.bad, rfl⟩
    | cons c rest ih =>
      intro l
      obtain ⟨x, y, e⟩ := ih ((l.setPipe c (l.pipe c).tail).popMarks c)
      obtain ⟨b, eb⟩ := (l.setPipe c (l.pipe c).tail).popMarks_eq c
      exact ⟨x, y, by rw [List.foldl_cons, e, eb]; rfl⟩
  obtain ⟨c1, e1⟩ := hc (fun v => { v with vis := v.vis - 1 }) (popsOf st t) k.lt
  obtain ⟨c2, e2⟩ := hc (fun v => { v with res := v.res + 1 }) (pushesOf st t) { k.lt with ctrs := c1 }
  obtain ⟨p1, b1, e3⟩ := hp (popPipes st srcs) { k.lt with ctrs := c2 }
  refine ⟨p1, c2, b1, ?_⟩
  unfold Ctx.syncTake
  simp only at e1 e2 e3 ⊢
  rw [e1, e2, e3]

@[simp] theorem Ctx.syncTake_res (k : Ctx) (st : Strm) (t : Tok) (srcs : List Spec) : (k.syncTake st t srcs).res = k.res := rfl
@[simp] theorem Ctx.syncTake_queue (k : Ctx) (st : Strm) (t : Tok) (srcs : List Spec) : (k.syncTake st t srcs).queue = k.queue := rfl
@[simp] theorem Ctx.syncTake_slice (k : Ctx) (st : Strm) (t : Tok) (srcs : List Spec) : (k.syncTake st t srcs).slice = k.slice := rfl
@[simp] theorem Ctx.syncTake_tenant (k : Ctx) (st : Strm) (t : Tok) (srcs : List Spec) : (k.syncTake st t srcs).tenant = k.tenant := rfl
@[simp] theorem Ctx.syncTake_kernelLvl (k : Ctx) (st : Strm) (t : Tok) (srcs : List Spec) : (k.syncTake st t srcs).kernelLvl = k.kernelLvl := rfl
@[simp] theorem Ctx.syncTake_rank (k : Ctx) (st : Strm) (t : Tok) (srcs : List Spec) : (k.syncTake st t srcs).rank = k.rank := rfl
@[simp] theorem Ctx.syncTake_coord (k : Ctx) (st : Strm) (t : Tok) (srcs : List Spec) : (k.syncTake st t srcs).coord = k.coord := rfl
@[simp] theorem Ctx.syncTake_paired (k : Ctx) (st : Strm) (t : Tok) (srcs : List Spec) : (k.syncTake st t srcs).paired = k.paired := rfl
@[simp] theorem Ctx.syncTake_sig (k : Ctx) (st : Strm) (t : Tok) (srcs : List Spec) : (k.syncTake st t srcs).sig = k.sig := rfl
@[simp] theorem Ctx.syncTake_codeLo (k : Ctx) (st : Strm) (t : Tok) (srcs : List Spec) : (k.syncTake st t srcs).codeLo = k.codeLo := rfl
@[simp] theorem Ctx.syncTake_codeHi (k : Ctx) (st : Strm) (t : Tok) (srcs : List Spec) : (k.syncTake st t srcs).codeHi = k.codeHi := rfl
@[simp] theorem Ctx.syncTake_nspill (k : Ctx) (st : Strm) (t : Tok) (srcs : List Spec) : (k.syncTake st t srcs).nspill = k.nspill := rfl
@[simp] theorem Ctx.syncTake_dpipes (k : Ctx) (st : Strm) (t : Tok) (srcs : List Spec) : (k.syncTake st t srcs).dpipes = k.dpipes := rfl
@[simp] theorem Ctx.syncTake_dctrs (k : Ctx) (st : Strm) (t : Tok) (srcs : List Spec) : (k.syncTake st t srcs).dctrs = k.dctrs := rfl
@[simp] theorem Ctx.syncTake_dtokens (k : Ctx) (st : Strm) (t : Tok) (srcs : List Spec) : (k.syncTake st t srcs).dtokens = k.dtokens := rfl
@[simp] theorem Ctx.syncTake_transform (k : Ctx) (st : Strm) (t : Tok) (srcs : List Spec) : (k.syncTake st t srcs).transform = k.transform := rfl
@[simp] theorem Ctx.syncTake_ahead (k : Ctx) (st : Strm) (t : Tok) (srcs : List Spec) : (k.syncTake st t srcs).ahead = k.ahead := rfl
@[simp] theorem Ctx.syncTake_tiles (k : Ctx) (st : Strm) (t : Tok) (srcs : List Spec) : (k.syncTake st t srcs).tiles = k.tiles := rfl
@[simp] theorem Ctx.syncTake_bnd (k : Ctx) (st : Strm) (t : Tok) (srcs : List Spec) : (k.syncTake st t srcs).bnd = k.bnd := rfl
@[simp] theorem Ctx.syncTake_pends (k : Ctx) (st : Strm) (t : Tok) (srcs : List Spec) : (k.syncTake st t srcs).pends = k.pends := rfl
@[simp] theorem Ctx.syncTake_mats (k : Ctx) (st : Strm) (t : Tok) (srcs : List Spec) : (k.syncTake st t srcs).mats = k.mats := rfl
@[simp] theorem Ctx.syncTake_quants (k : Ctx) (st : Strm) (t : Tok) (srcs : List Spec) : (k.syncTake st t srcs).quants = k.quants := rfl
@[simp] theorem Ctx.syncTake_crds (k : Ctx) (st : Strm) (t : Tok) (srcs : List Spec) : (k.syncTake st t srcs).crds = k.crds := rfl
@[simp] theorem Ctx.syncTake_xf (k : Ctx) (st : Strm) (t : Tok) (srcs : List Spec) : (k.syncTake st t srcs).xf = k.xf := rfl
@[simp] theorem Ctx.syncTake_xfFault (k : Ctx) (st : Strm) (t : Tok) (srcs : List Spec) : (k.syncTake st t srcs).xfFault = k.xfFault := rfl
@[simp] theorem Ctx.syncTake_xfRun (k : Ctx) (st : Strm) (t : Tok) (srcs : List Spec) : (k.syncTake st t srcs).xfRun = k.xfRun := rfl
@[simp] theorem Ctx.syncTake_cmds (k : Ctx) (st : Strm) (t : Tok) (srcs : List Spec) : (k.syncTake st t srcs).cmds = k.cmds := rfl
@[simp] theorem Ctx.syncTake_free (k : Ctx) (st : Strm) (t : Tok) (srcs : List Spec) : (k.syncTake st t srcs).free = k.free := rfl
@[simp] theorem Ctx.syncTake_lastMove (k : Ctx) (st : Strm) (t : Tok) (srcs : List Spec) : (k.syncTake st t srcs).lastMove = k.lastMove := rfl
@[simp] theorem Ctx.syncTake_arrived (k : Ctx) (st : Strm) (t : Tok) (srcs : List Spec) : (k.syncTake st t srcs).arrived = k.arrived := rfl
@[simp] theorem Ctx.syncTake_loads (k : Ctx) (st : Strm) (t : Tok) (srcs : List Spec) : (k.syncTake st t srcs).loads = k.loads := rfl
@[simp] theorem Ctx.syncTake_atoms (k : Ctx) (st : Strm) (t : Tok) (srcs : List Spec) : (k.syncTake st t srcs).atoms = k.atoms := rfl
@[simp] theorem Ctx.syncTake_fences (k : Ctx) (st : Strm) (t : Tok) (srcs : List Spec) : (k.syncTake st t srcs).fences = k.fences := rfl
@[simp] theorem Ctx.syncTake_afence (k : Ctx) (st : Strm) (t : Tok) (srcs : List Spec) : (k.syncTake st t srcs).afence = k.afence := rfl
@[simp] theorem Ctx.syncTake_start (k : Ctx) (st : Strm) (t : Tok) (srcs : List Spec) : (k.syncTake st t srcs).start = k.start := rfl
@[simp] theorem Ctx.syncTake_snaps (k : Ctx) (st : Strm) (t : Tok) (srcs : List Spec) : (k.syncTake st t srcs).snaps = k.snaps := rfl
@[simp] theorem Ctx.syncTake_frags (k : Ctx) (st : Strm) (t : Tok) (srcs : List Spec) : (k.syncTake st t srcs).frags = k.frags := rfl
@[simp] theorem Ctx.syncTake_unrecov (k : Ctx) (st : Strm) (t : Tok) (srcs : List Spec) : (k.syncTake st t srcs).unrecov = k.unrecov := rfl
@[simp] theorem Ctx.syncTake_shadow (k : Ctx) (st : Strm) (t : Tok) (srcs : List Spec) : (k.syncTake st t srcs).shadow = k.shadow := rfl
@[simp] theorem Ctx.syncTake_shTiles (k : Ctx) (st : Strm) (t : Tok) (srcs : List Spec) : (k.syncTake st t srcs).shTiles = k.shTiles := rfl
@[simp] theorem Ctx.syncTake_shFrags (k : Ctx) (st : Strm) (t : Tok) (srcs : List Spec) : (k.syncTake st t srcs).shFrags = k.shFrags := rfl
@[simp] theorem Ctx.syncTake_shadowAt (k : Ctx) (st : Strm) (t : Tok) (srcs : List Spec) : (k.syncTake st t srcs).shadowAt = k.shadowAt := rfl
@[simp] theorem Ctx.syncTake_preAcc (k : Ctx) (st : Strm) (t : Tok) (srcs : List Spec) : (k.syncTake st t srcs).preAcc = k.preAcc := rfl
@[simp] theorem Ctx.syncTake_preBnd (k : Ctx) (st : Strm) (t : Tok) (srcs : List Spec) : (k.syncTake st t srcs).preBnd = k.preBnd := rfl
@[simp] theorem Ctx.syncTake_preSp (k : Ctx) (st : Strm) (t : Tok) (srcs : List Spec) : (k.syncTake st t srcs).preSp = k.preSp := rfl
@[simp] theorem Ctx.syncTake_preBad (k : Ctx) (st : Strm) (t : Tok) (srcs : List Spec) : (k.syncTake st t srcs).preBad = k.preBad := rfl
@[simp] theorem Ctx.syncTake_bkptHalt (k : Ctx) (st : Strm) (t : Tok) (srcs : List Spec) : (k.syncTake st t srcs).bkptHalt = k.bkptHalt := rfl
@[simp] theorem Ctx.syncTake_preTile (k : Ctx) (st : Strm) (t : Tok) (srcs : List Spec) : (k.syncTake st t srcs).preTile = k.preTile := rfl
@[simp] theorem Ctx.syncTake_expOrd (k : Ctx) (st : Strm) (t : Tok) (srcs : List Spec) : (k.syncTake st t srcs).expOrd = k.expOrd := rfl
@[simp] theorem Ctx.syncTake_rolls (k : Ctx) (st : Strm) (t : Tok) (srcs : List Spec) : (k.syncTake st t srcs).rolls = k.rolls := rfl
@[simp] theorem Ctx.syncTake_notice (k : Ctx) (st : Strm) (t : Tok) (srcs : List Spec) : (k.syncTake st t srcs).notice = k.notice := rfl
@[simp] theorem Ctx.syncTake_wd (k : Ctx) (st : Strm) (t : Tok) (srcs : List Spec) : (k.syncTake st t srcs).wd = k.wd := rfl
@[simp] theorem Ctx.syncTake_drowsy (k : Ctx) (st : Strm) (t : Tok) (srcs : List Spec) : (k.syncTake st t srcs).drowsy = k.drowsy := rfl
@[simp] theorem Ctx.syncTake_halted (k : Ctx) (st : Strm) (t : Tok) (srcs : List Spec) : (k.syncTake st t srcs).halted = k.halted := rfl
@[simp] theorem Ctx.syncTake_stopped (k : Ctx) (st : Strm) (t : Tok) (srcs : List Spec) : (k.syncTake st t srcs).stopped = k.stopped := rfl
@[simp] theorem Ctx.syncTake_zeroing (k : Ctx) (st : Strm) (t : Tok) (srcs : List Spec) : (k.syncTake st t srcs).zeroing = k.zeroing := rfl
@[simp] theorem Ctx.syncTake_saveAt (k : Ctx) (st : Strm) (t : Tok) (srcs : List Spec) : (k.syncTake st t srcs).saveAt = k.saveAt := rfl
@[simp] theorem Ctx.syncTake_saveBy (k : Ctx) (st : Strm) (t : Tok) (srcs : List Spec) : (k.syncTake st t srcs).saveBy = k.saveBy := rfl
@[simp] theorem Ctx.syncTake_savedSp (k : Ctx) (st : Strm) (t : Tok) (srcs : List Spec) : (k.syncTake st t srcs).savedSp = k.savedSp := rfl
@[simp] theorem Ctx.syncTake_savedAcc (k : Ctx) (st : Strm) (t : Tok) (srcs : List Spec) : (k.syncTake st t srcs).savedAcc = k.savedAcc := rfl
@[simp] theorem Ctx.syncTake_peek (k : Ctx) (st : Strm) (t : Tok) (srcs : List Spec) : (k.syncTake st t srcs).peek = k.peek := rfl
@[simp] theorem Ctx.syncTake_place (k : Ctx) (st : Strm) (t : Tok) (srcs : List Spec) : (k.syncTake st t srcs).place = k.place := rfl
@[simp] theorem Ctx.syncTake_rfence (k : Ctx) (st : Strm) (t : Tok) (srcs : List Spec) : (k.syncTake st t srcs).rfence = k.rfence := rfl
@[simp] theorem Ctx.syncTake_seen (k : Ctx) (st : Strm) (t : Tok) (srcs : List Spec) : (k.syncTake st t srcs).seen = k.seen := rfl
@[simp] theorem Ctx.syncTake_heard (k : Ctx) (st : Strm) (t : Tok) (srcs : List Spec) : (k.syncTake st t srcs).heard = k.heard := rfl
@[simp] theorem Ctx.syncTake_acqs (k : Ctx) (st : Strm) (t : Tok) (srcs : List Spec) : (k.syncTake st t srcs).acqs = k.acqs := rfl
@[simp] theorem Ctx.syncTake_shAcqs (k : Ctx) (st : Strm) (t : Tok) (srcs : List Spec) : (k.syncTake st t srcs).shAcqs = k.shAcqs := rfl
@[simp] theorem Ctx.syncTake_shArrived (k : Ctx) (st : Strm) (t : Tok) (srcs : List Spec) : (k.syncTake st t srcs).shArrived = k.shArrived := rfl
@[simp] theorem Ctx.syncTake_shRank (k : Ctx) (st : Strm) (t : Tok) (srcs : List Spec) : (k.syncTake st t srcs).shRank = k.shRank := rfl
@[simp] theorem Ctx.syncTake_shWd (k : Ctx) (st : Strm) (t : Tok) (srcs : List Spec) : (k.syncTake st t srcs).shWd = k.shWd := rfl
@[simp] theorem Ctx.syncTake_lt_c (k : Ctx) (st : Strm) (t : Tok) (srcs : List Spec) : (k.syncTake st t srcs).lt.c = k.lt.c := by
  obtain ⟨p, c, b, e⟩ := k.syncTake_eq st t srcs; rw [e]; rfl
@[simp] theorem Ctx.syncTake_lt_l (k : Ctx) (st : Strm) (t : Tok) (srcs : List Spec) : (k.syncTake st t srcs).lt.l = k.lt.l := by
  obtain ⟨p, c, b, e⟩ := k.syncTake_eq st t srcs; rw [e]; rfl
@[simp] theorem Ctx.syncTake_lt_x (k : Ctx) (st : Strm) (t : Tok) (srcs : List Spec) : (k.syncTake st t srcs).lt.x = k.lt.x := by
  obtain ⟨p, c, b, e⟩ := k.syncTake_eq st t srcs; rw [e]; rfl
@[simp] theorem Ctx.syncTake_lt_s (k : Ctx) (st : Strm) (t : Tok) (srcs : List Spec) : (k.syncTake st t srcs).lt.s = k.lt.s := by
  obtain ⟨p, c, b, e⟩ := k.syncTake_eq st t srcs; rw [e]; rfl
@[simp] theorem Ctx.syncTake_lt_flights (k : Ctx) (st : Strm) (t : Tok) (srcs : List Spec) : (k.syncTake st t srcs).lt.flights = k.lt.flights := by
  obtain ⟨p, c, b, e⟩ := k.syncTake_eq st t srcs; rw [e]; rfl
@[simp] theorem Ctx.syncTake_lt_ord (k : Ctx) (st : Strm) (t : Tok) (srcs : List Spec) : (k.syncTake st t srcs).lt.ord = k.lt.ord := by
  obtain ⟨p, c, b, e⟩ := k.syncTake_eq st t srcs; rw [e]; rfl
@[simp] theorem Ctx.syncTake_lt_line (k : Ctx) (st : Strm) (t : Tok) (srcs : List Spec) : (k.syncTake st t srcs).lt.line = k.lt.line := by
  obtain ⟨p, c, b, e⟩ := k.syncTake_eq st t srcs; rw [e]; rfl
@[simp] theorem Ctx.syncTake_lt_next (k : Ctx) (st : Strm) (t : Tok) (srcs : List Spec) : (k.syncTake st t srcs).lt.next = k.lt.next := by
  obtain ⟨p, c, b, e⟩ := k.syncTake_eq st t srcs; rw [e]; rfl
@[simp] theorem Ctx.syncTake_lt_lbuf (k : Ctx) (st : Strm) (t : Tok) (srcs : List Spec) : (k.syncTake st t srcs).lt.lbuf = k.lt.lbuf := by
  obtain ⟨p, c, b, e⟩ := k.syncTake_eq st t srcs; rw [e]; rfl
@[simp] theorem Ctx.syncTake_lt_rstack (k : Ctx) (st : Strm) (t : Tok) (srcs : List Spec) : (k.syncTake st t srcs).lt.rstack = k.lt.rstack := by
  obtain ⟨p, c, b, e⟩ := k.syncTake_eq st t srcs; rw [e]; rfl
@[simp] theorem Ctx.syncTake_lt_depth (k : Ctx) (st : Strm) (t : Tok) (srcs : List Spec) : (k.syncTake st t srcs).lt.depth = k.lt.depth := by
  obtain ⟨p, c, b, e⟩ := k.syncTake_eq st t srcs; rw [e]; rfl
@[simp] theorem Ctx.syncTake_lt_spill (k : Ctx) (st : Strm) (t : Tok) (srcs : List Spec) : (k.syncTake st t srcs).lt.spill = k.lt.spill := by
  obtain ⟨p, c, b, e⟩ := k.syncTake_eq st t srcs; rw [e]; rfl
@[simp] theorem Ctx.syncTake_lt_fifos (k : Ctx) (st : Strm) (t : Tok) (srcs : List Spec) : (k.syncTake st t srcs).lt.fifos = k.lt.fifos := by
  obtain ⟨p, c, b, e⟩ := k.syncTake_eq st t srcs; rw [e]; rfl
@[simp] theorem Ctx.syncTake_lt_cbars (k : Ctx) (st : Strm) (t : Tok) (srcs : List Spec) : (k.syncTake st t srcs).lt.cbars = k.lt.cbars := by
  obtain ⟨p, c, b, e⟩ := k.syncTake_eq st t srcs; rw [e]; rfl
@[simp] theorem Ctx.syncTake_lt_rowmask (k : Ctx) (st : Strm) (t : Tok) (srcs : List Spec) : (k.syncTake st t srcs).lt.rowmask = k.lt.rowmask := by
  obtain ⟨p, c, b, e⟩ := k.syncTake_eq st t srcs; rw [e]; rfl
@[simp] theorem Ctx.syncTake_lt_colmask (k : Ctx) (st : Strm) (t : Tok) (srcs : List Spec) : (k.syncTake st t srcs).lt.colmask = k.lt.colmask := by
  obtain ⟨p, c, b, e⟩ := k.syncTake_eq st t srcs; rw [e]; rfl
@[simp] theorem Ctx.syncTake_lt_books (k : Ctx) (st : Strm) (t : Tok) (srcs : List Spec) : (k.syncTake st t srcs).lt.books = k.lt.books := by
  obtain ⟨p, c, b, e⟩ := k.syncTake_eq st t srcs; rw [e]; rfl
@[simp] theorem Ctx.syncTake_lt_tk (k : Ctx) (st : Strm) (t : Tok) (srcs : List Spec) : (k.syncTake st t srcs).lt.tk = k.lt.tk := by
  obtain ⟨p, c, b, e⟩ := k.syncTake_eq st t srcs; rw [e]; rfl
@[simp] theorem Ctx.syncTake_lt_stores (k : Ctx) (st : Strm) (t : Tok) (srcs : List Spec) : (k.syncTake st t srcs).lt.stores = k.lt.stores := by
  obtain ⟨p, c, b, e⟩ := k.syncTake_eq st t srcs; rw [e]; rfl
@[simp] theorem Ctx.syncTake_lt_sys (k : Ctx) (st : Strm) (t : Tok) (srcs : List Spec) : (k.syncTake st t srcs).lt.sys = k.lt.sys := by
  obtain ⟨p, c, b, e⟩ := k.syncTake_eq st t srcs; rw [e]; rfl
@[simp] theorem Ctx.syncTake_lt_faults (k : Ctx) (st : Strm) (t : Tok) (srcs : List Spec) : (k.syncTake st t srcs).lt.faults = k.lt.faults := by
  obtain ⟨p, c, b, e⟩ := k.syncTake_eq st t srcs; rw [e]; rfl
@[simp] theorem Ctx.syncTake_lt_frame (k : Ctx) (st : Strm) (t : Tok) (srcs : List Spec) : (k.syncTake st t srcs).lt.frame = k.lt.frame := by
  obtain ⟨p, c, b, e⟩ := k.syncTake_eq st t srcs; rw [e]; rfl
@[simp] theorem Ctx.syncTake_lt_hold (k : Ctx) (st : Strm) (t : Tok) (srcs : List Spec) : (k.syncTake st t srcs).lt.hold = k.lt.hold := by
  obtain ⟨p, c, b, e⟩ := k.syncTake_eq st t srcs; rw [e]; rfl
@[simp] theorem Ctx.syncTake_lt_chain (k : Ctx) (st : Strm) (t : Tok) (srcs : List Spec) : (k.syncTake st t srcs).lt.chain = k.lt.chain := by
  obtain ⟨p, c, b, e⟩ := k.syncTake_eq st t srcs; rw [e]; rfl

@[simp] theorem Ctx.syncTake_strm (k : Ctx) (st : Strm) (t : Tok) (srcs : List Spec) (tt : Strm) :
    (k.syncTake st t srcs).strm tt = k.strm tt := by cases tt <;> simp [Ctx.strm, Light.strm]

/-! The issue of a word -/

variable {s u : State} {k : Ctx} {st : Strm} {t : Tok} {d : Option Spec} {srcs : List Spec} {body : Env → Att Done}

/-- A word that can issue has the outcome of its own conditions and effect. -/
theorem issue_ready (h : CanIssue s k st t d srcs) :
    issue st t d srcs body s = settle st s s.sel.ctx k (body (issueEnv s k st t srcs)) := by
  have h5 := h.clean
  simp only [issue, h.placed, attempt, h.gate, h.declared, h.ready, h5, issueEnv]
  rfl

/-- A request for a page walk leaves all but the walks as it was. -/
theorem State.asks_walks (s : State) (q : Option PageWalk) : ∃ w, s.asks q = { s with walks := w } := by
  cases q with
  | none => exact ⟨s.walks, rfl⟩
  | some _ => exact ⟨_, rfl⟩

/-- Everything that the issue of a word can answer with. -/
theorem issue_next (h : issue st t d srcs body s = .next u) :
    ∃ k, s.ctx s.sel.ctx = some k ∧
      ((∃ q, u = s.asks q) ∨ (∃ f, u = s.setCtx s.sel.ctx (k.raise f)) ∨ u = s.setCtx s.sel.ctx (k.retire st s.cycle 1 .none) ∨
       ∃ r, body (issueEnv s k st t srcs) = .ok r ∧ u = r.s.setCtx s.sel.ctx (r.k.retire st s.cycle r.cost r.pre)) := by
  unfold issue at h
  split at h
  · cases h
  · rename_i k hk
    refine ⟨k, hk, ?_⟩
    unfold attempt at h
    repeat' split at h
    · right; right; left; simpa [settle] using h.symm
    · right; left; exact ⟨_, by simpa [settle, Att.fault] using h.symm⟩
    · left; exact ⟨none, by simpa [settle] using h.symm⟩
    · right; left; exact ⟨_, by simpa [settle, Att.consumed] using h.symm⟩
    · cases e : body (issueEnv s k st t srcs) with
      | ok r => right; right; right; refine ⟨r, rfl, ?_⟩; simp only [issueEnv] at e; rw [e] at h; simpa [settle] using h.symm
      | wait q => left; simp only [issueEnv] at e; rw [e] at h; exact ⟨q, by simpa [settle] using h.symm⟩
      | trap c i l w n ls => right; left; simp only [issueEnv] at e; rw [e] at h; exact ⟨_, by simpa [settle] using h.symm⟩

/-- A word of a placed context always answers a next state. -/
theorem issue_total (h : s.ctx s.sel.ctx = some k) : ∃ u, issue st t d srcs body s = .next u := by
  unfold issue
  rw [h]
  dsimp only
  cases attempt st t d srcs body s s.sel.ctx k <;> exact ⟨_, rfl⟩

/-- A register result issued. -/
theorem issueReg_ready {dd : Spec} {lat : Nat} {f : Env → Word} (h : CanIssue s k st t (some dd) srcs) :
    Delivers s k st t dd lat (f (issueEnv s k st t srcs)) (issueReg st t dd srcs lat f s) := by
  refine ⟨_, issue_ready h, ?_, ?_⟩ <;> simp [Env.result, Ctx.fly, issueEnv]

/-- A word whose body raises. -/
theorem raises_of {c lvl kk : Nat} {info : Word} {wk : Bool} {ls : List Loc} (h : CanIssue s k st t d srcs)
    (hb : body (issueEnv s k st t srcs) = .trap c info lvl wk kk ls) : Raises s k st c (issue st t d srcs body s) := by
  rw [issue_ready h, hb]; exact ⟨_, rfl, rfl, rfl, rfl⟩

/-- A word whose body gives its context's record and leaves the rest of the package. -/
theorem issuesAs_of {k' : Ctx} {cost : Nat} (h : CanIssue s k st t d srcs)
    (hb : body (issueEnv s k st t srcs) = .ok ⟨s, k', cost, .none⟩) : IssuesAs s st cost k' (issue st t d srcs body s) := by
  rw [issue_ready h, hb]; rfl

/-- The same, with a property of the record. -/
theorem issues_of {k' : Ctx} {cost : Nat} {P : Ctx → Prop} (h : CanIssue s k st t d srcs)
    (hb : body (issueEnv s k st t srcs) = .ok ⟨s, k', cost, .none⟩) (hP : P (k'.retire st s.cycle cost .none)) :
    Issues s st cost (issue st t d srcs body s) P := by
  rw [issue_ready h, hb]; exact ⟨_, rfl, by simp, hP⟩

end Sys2Proof.Machine
end

