-- ==== Sys2Proof/Laws/PerInstr.lean ====
section
/-! SUPPORT. Lemmas by instruction: how many words an instruction has (02 R53 to R65). -/

open Sys2Proof

/-- The encoder gives a continuation to the 64-bit instructions and to no other (02 R55, R61, R62). -/
def Sys2Proof.Laws.WordCount.Statement (i : Instr) : Prop := (encode i).2.isSome = i.long

theorem Sys2Proof.Laws.WordCount.add (x0) (x1) (x2) : Sys2Proof.Laws.WordCount.Statement (.add x0 x1 x2) := rfl
theorem Sys2Proof.Laws.WordCount.sub (x0) (x1) (x2) : Sys2Proof.Laws.WordCount.Statement (.sub x0 x1 x2) := rfl
theorem Sys2Proof.Laws.WordCount.mul (x0) (x1) (x2) : Sys2Proof.Laws.WordCount.Statement (.mul x0 x1 x2) := rfl
theorem Sys2Proof.Laws.WordCount.mulh (x0) (x1) (x2) : Sys2Proof.Laws.WordCount.Statement (.mulh x0 x1 x2) := rfl
theorem Sys2Proof.Laws.WordCount.mulhu (x0) (x1) (x2) : Sys2Proof.Laws.WordCount.Statement (.mulhu x0 x1 x2) := rfl
theorem Sys2Proof.Laws.WordCount.div (x0) (x1) (x2) : Sys2Proof.Laws.WordCount.Statement (.div x0 x1 x2) := rfl
theorem Sys2Proof.Laws.WordCount.divu (x0) (x1) (x2) : Sys2Proof.Laws.WordCount.Statement (.divu x0 x1 x2) := rfl
theorem Sys2Proof.Laws.WordCount.rem (x0) (x1) (x2) : Sys2Proof.Laws.WordCount.Statement (.rem x0 x1 x2) := rfl
theorem Sys2Proof.Laws.WordCount.remu (x0) (x1) (x2) : Sys2Proof.Laws.WordCount.Statement (.remu x0 x1 x2) := rfl
theorem Sys2Proof.Laws.WordCount.and (x0) (x1) (x2) : Sys2Proof.Laws.WordCount.Statement (.and x0 x1 x2) := rfl
theorem Sys2Proof.Laws.WordCount.or (x0) (x1) (x2) : Sys2Proof.Laws.WordCount.Statement (.or x0 x1 x2) := rfl
theorem Sys2Proof.Laws.WordCount.xor (x0) (x1) (x2) : Sys2Proof.Laws.WordCount.Statement (.xor x0 x1 x2) := rfl
theorem Sys2Proof.Laws.WordCount.andn (x0) (x1) (x2) : Sys2Proof.Laws.WordCount.Statement (.andn x0 x1 x2) := rfl
theorem Sys2Proof.Laws.WordCount.shl (x0) (x1) (x2) : Sys2Proof.Laws.WordCount.Statement (.shl x0 x1 x2) := rfl
theorem Sys2Proof.Laws.WordCount.shr (x0) (x1) (x2) : Sys2Proof.Laws.WordCount.Statement (.shr x0 x1 x2) := rfl
theorem Sys2Proof.Laws.WordCount.sar (x0) (x1) (x2) : Sys2Proof.Laws.WordCount.Statement (.sar x0 x1 x2) := rfl
theorem Sys2Proof.Laws.WordCount.rol (x0) (x1) (x2) : Sys2Proof.Laws.WordCount.Statement (.rol x0 x1 x2) := rfl
theorem Sys2Proof.Laws.WordCount.ror (x0) (x1) (x2) : Sys2Proof.Laws.WordCount.Statement (.ror x0 x1 x2) := rfl
theorem Sys2Proof.Laws.WordCount.min (x0) (x1) (x2) : Sys2Proof.Laws.WordCount.Statement (.min x0 x1 x2) := rfl
theorem Sys2Proof.Laws.WordCount.max (x0) (x1) (x2) : Sys2Proof.Laws.WordCount.Statement (.max x0 x1 x2) := rfl
theorem Sys2Proof.Laws.WordCount.minu (x0) (x1) (x2) : Sys2Proof.Laws.WordCount.Statement (.minu x0 x1 x2) := rfl
theorem Sys2Proof.Laws.WordCount.maxu (x0) (x1) (x2) : Sys2Proof.Laws.WordCount.Statement (.maxu x0 x1 x2) := rfl
theorem Sys2Proof.Laws.WordCount.cmpeq (x0) (x1) (x2) : Sys2Proof.Laws.WordCount.Statement (.cmpeq x0 x1 x2) := rfl
theorem Sys2Proof.Laws.WordCount.cmpne (x0) (x1) (x2) : Sys2Proof.Laws.WordCount.Statement (.cmpne x0 x1 x2) := rfl
theorem Sys2Proof.Laws.WordCount.cmplt (x0) (x1) (x2) : Sys2Proof.Laws.WordCount.Statement (.cmplt x0 x1 x2) := rfl
theorem Sys2Proof.Laws.WordCount.cmpltu (x0) (x1) (x2) : Sys2Proof.Laws.WordCount.Statement (.cmpltu x0 x1 x2) := rfl
theorem Sys2Proof.Laws.WordCount.cmple (x0) (x1) (x2) : Sys2Proof.Laws.WordCount.Statement (.cmple x0 x1 x2) := rfl
theorem Sys2Proof.Laws.WordCount.cmpleu (x0) (x1) (x2) : Sys2Proof.Laws.WordCount.Statement (.cmpleu x0 x1 x2) := rfl
theorem Sys2Proof.Laws.WordCount.mov (x0) (x1) : Sys2Proof.Laws.WordCount.Statement (.mov x0 x1) := rfl
theorem Sys2Proof.Laws.WordCount.not (x0) (x1) : Sys2Proof.Laws.WordCount.Statement (.not x0 x1) := rfl
theorem Sys2Proof.Laws.WordCount.neg (x0) (x1) : Sys2Proof.Laws.WordCount.Statement (.neg x0 x1) := rfl
theorem Sys2Proof.Laws.WordCount.abs (x0) (x1) : Sys2Proof.Laws.WordCount.Statement (.abs x0 x1) := rfl
theorem Sys2Proof.Laws.WordCount.clz (x0) (x1) : Sys2Proof.Laws.WordCount.Statement (.clz x0 x1) := rfl
theorem Sys2Proof.Laws.WordCount.ctz (x0) (x1) : Sys2Proof.Laws.WordCount.Statement (.ctz x0 x1) := rfl
theorem Sys2Proof.Laws.WordCount.popc (x0) (x1) : Sys2Proof.Laws.WordCount.Statement (.popc x0 x1) := rfl
theorem Sys2Proof.Laws.WordCount.sextb (x0) (x1) : Sys2Proof.Laws.WordCount.Statement (.sextb x0 x1) := rfl
theorem Sys2Proof.Laws.WordCount.sexth (x0) (x1) : Sys2Proof.Laws.WordCount.Statement (.sexth x0 x1) := rfl
theorem Sys2Proof.Laws.WordCount.sextw (x0) (x1) : Sys2Proof.Laws.WordCount.Statement (.sextw x0 x1) := rfl
theorem Sys2Proof.Laws.WordCount.zextb (x0) (x1) : Sys2Proof.Laws.WordCount.Statement (.zextb x0 x1) := rfl
theorem Sys2Proof.Laws.WordCount.zexth (x0) (x1) : Sys2Proof.Laws.WordCount.Statement (.zexth x0 x1) := rfl
theorem Sys2Proof.Laws.WordCount.zextw (x0) (x1) : Sys2Proof.Laws.WordCount.Statement (.zextw x0 x1) := rfl
theorem Sys2Proof.Laws.WordCount.bswap (x0) (x1) : Sys2Proof.Laws.WordCount.Statement (.bswap x0 x1) := rfl
theorem Sys2Proof.Laws.WordCount.addi (x0) (x1) (x2) : Sys2Proof.Laws.WordCount.Statement (.addi x0 x1 x2) := rfl
theorem Sys2Proof.Laws.WordCount.andi (x0) (x1) (x2) : Sys2Proof.Laws.WordCount.Statement (.andi x0 x1 x2) := rfl
theorem Sys2Proof.Laws.WordCount.ori (x0) (x1) (x2) : Sys2Proof.Laws.WordCount.Statement (.ori x0 x1 x2) := rfl
theorem Sys2Proof.Laws.WordCount.xori (x0) (x1) (x2) : Sys2Proof.Laws.WordCount.Statement (.xori x0 x1 x2) := rfl
theorem Sys2Proof.Laws.WordCount.muli (x0) (x1) (x2) : Sys2Proof.Laws.WordCount.Statement (.muli x0 x1 x2) := rfl
theorem Sys2Proof.Laws.WordCount.shiShl (x0) (x1) (x2) : Sys2Proof.Laws.WordCount.Statement (.shiShl x0 x1 x2) := rfl
theorem Sys2Proof.Laws.WordCount.shiShr (x0) (x1) (x2) : Sys2Proof.Laws.WordCount.Statement (.shiShr x0 x1 x2) := rfl
theorem Sys2Proof.Laws.WordCount.shiSar (x0) (x1) (x2) : Sys2Proof.Laws.WordCount.Statement (.shiSar x0 x1 x2) := rfl
theorem Sys2Proof.Laws.WordCount.shiRol (x0) (x1) (x2) : Sys2Proof.Laws.WordCount.Statement (.shiRol x0 x1 x2) := rfl
theorem Sys2Proof.Laws.WordCount.li (x0) (x1) : Sys2Proof.Laws.WordCount.Statement (.li x0 x1) := rfl
theorem Sys2Proof.Laws.WordCount.lih (x0) (x1) : Sys2Proof.Laws.WordCount.Statement (.lih x0 x1) := rfl
theorem Sys2Proof.Laws.WordCount.lix (x0) (x1) : Sys2Proof.Laws.WordCount.Statement (.lix x0 x1) := rfl
theorem Sys2Proof.Laws.WordCount.bfx (x0) (x1) (x2) (x3) (x4) : Sys2Proof.Laws.WordCount.Statement (.bfx x0 x1 x2 x3 x4) := rfl
theorem Sys2Proof.Laws.WordCount.bfi (x0) (x1) (x2) (x3) : Sys2Proof.Laws.WordCount.Statement (.bfi x0 x1 x2 x3) := rfl
theorem Sys2Proof.Laws.WordCount.sel (x0) (x1) (x2) (x3) : Sys2Proof.Laws.WordCount.Statement (.sel x0 x1 x2 x3) := rfl
theorem Sys2Proof.Laws.WordCount.rgn (x0) (x1) (x2) (x3) : Sys2Proof.Laws.WordCount.Statement (.rgn x0 x1 x2 x3) := rfl
theorem Sys2Proof.Laws.WordCount.pset (x0) (x1) (x2) (x3) : Sys2Proof.Laws.WordCount.Statement (.pset x0 x1 x2 x3) := rfl
theorem Sys2Proof.Laws.WordCount.pseti (x0) (x1) (x2) (x3) : Sys2Proof.Laws.WordCount.Statement (.pseti x0 x1 x2 x3) := rfl
theorem Sys2Proof.Laws.WordCount.pand (x0) (x1) (x2) : Sys2Proof.Laws.WordCount.Statement (.pand x0 x1 x2) := rfl
theorem Sys2Proof.Laws.WordCount.por (x0) (x1) (x2) : Sys2Proof.Laws.WordCount.Statement (.por x0 x1 x2) := rfl
theorem Sys2Proof.Laws.WordCount.pxor (x0) (x1) (x2) : Sys2Proof.Laws.WordCount.Statement (.pxor x0 x1 x2) := rfl
theorem Sys2Proof.Laws.WordCount.pnot (x0) (x1) : Sys2Proof.Laws.WordCount.Statement (.pnot x0 x1) := rfl
theorem Sys2Proof.Laws.WordCount.br (x0 : _) : Sys2Proof.Laws.WordCount.Statement (.br x0) := rfl
theorem Sys2Proof.Laws.WordCount.brp (x0) (x1) (x2) : Sys2Proof.Laws.WordCount.Statement (.brp x0 x1 x2) := rfl
theorem Sys2Proof.Laws.WordCount.call (x0 : _) : Sys2Proof.Laws.WordCount.Statement (.call x0) := rfl
theorem Sys2Proof.Laws.WordCount.jmpi (x0 : _) : Sys2Proof.Laws.WordCount.Statement (.jmpi x0) := rfl
theorem Sys2Proof.Laws.WordCount.calli (x0 : _) : Sys2Proof.Laws.WordCount.Statement (.calli x0) := rfl
theorem Sys2Proof.Laws.WordCount.loop (x0) (x1) (x2) (x3) (x4) : Sys2Proof.Laws.WordCount.Statement (.loop x0 x1 x2 x3 x4) := rfl
theorem Sys2Proof.Laws.WordCount.lpipe (x0) (x1) (x2) (x3) (x4) (x5) (x6) (x7) : Sys2Proof.Laws.WordCount.Statement (.lpipe x0 x1 x2 x3 x4 x5 x6 x7) := rfl
theorem Sys2Proof.Laws.WordCount.lrd (x0) (x1) : Sys2Proof.Laws.WordCount.Statement (.lrd x0 x1) := rfl
theorem Sys2Proof.Laws.WordCount.lwr (x0) (x1) : Sys2Proof.Laws.WordCount.Statement (.lwr x0 x1) := rfl
theorem Sys2Proof.Laws.WordCount.lrdRsbot (x0 : _) : Sys2Proof.Laws.WordCount.Statement (.lrdRsbot x0) := rfl
theorem Sys2Proof.Laws.WordCount.lwrRsbot (x0 : _) : Sys2Proof.Laws.WordCount.Statement (.lwrRsbot x0) := rfl
theorem Sys2Proof.Laws.WordCount.rep (x0) (x1) (x2) (x3) : Sys2Proof.Laws.WordCount.Statement (.rep x0 x1 x2 x3) := rfl
theorem Sys2Proof.Laws.WordCount.ld (x0) (x1) (x2) : Sys2Proof.Laws.WordCount.Statement (.ld x0 x1 x2) := rfl
theorem Sys2Proof.Laws.WordCount.st (x0) (x1) (x2) (x3) : Sys2Proof.Laws.WordCount.Statement (.st x0 x1 x2 x3) := rfl
theorem Sys2Proof.Laws.WordCount.lds (x0) (x1) (x2) : Sys2Proof.Laws.WordCount.Statement (.lds x0 x1 x2) := rfl
theorem Sys2Proof.Laws.WordCount.sts (x0) (x1) (x2) : Sys2Proof.Laws.WordCount.Statement (.sts x0 x1 x2) := rfl
theorem Sys2Proof.Laws.WordCount.spld (x0) (x1) : Sys2Proof.Laws.WordCount.Statement (.spld x0 x1) := rfl
theorem Sys2Proof.Laws.WordCount.spst (x0) (x1) : Sys2Proof.Laws.WordCount.Statement (.spst x0 x1) := rfl
theorem Sys2Proof.Laws.WordCount.aadd (x0) (x1) (x2) (x3) : Sys2Proof.Laws.WordCount.Statement (.aadd x0 x1 x2 x3) := rfl
theorem Sys2Proof.Laws.WordCount.aand (x0) (x1) (x2) (x3) : Sys2Proof.Laws.WordCount.Statement (.aand x0 x1 x2 x3) := rfl
theorem Sys2Proof.Laws.WordCount.aor (x0) (x1) (x2) (x3) : Sys2Proof.Laws.WordCount.Statement (.aor x0 x1 x2 x3) := rfl
theorem Sys2Proof.Laws.WordCount.axor (x0) (x1) (x2) (x3) : Sys2Proof.Laws.WordCount.Statement (.axor x0 x1 x2 x3) := rfl
theorem Sys2Proof.Laws.WordCount.amin (x0) (x1) (x2) (x3) : Sys2Proof.Laws.WordCount.Statement (.amin x0 x1 x2 x3) := rfl
theorem Sys2Proof.Laws.WordCount.amax (x0) (x1) (x2) (x3) : Sys2Proof.Laws.WordCount.Statement (.amax x0 x1 x2 x3) := rfl
theorem Sys2Proof.Laws.WordCount.aminu (x0) (x1) (x2) (x3) : Sys2Proof.Laws.WordCount.Statement (.aminu x0 x1 x2 x3) := rfl
theorem Sys2Proof.Laws.WordCount.amaxu (x0) (x1) (x2) (x3) : Sys2Proof.Laws.WordCount.Statement (.amaxu x0 x1 x2 x3) := rfl
theorem Sys2Proof.Laws.WordCount.aswap (x0) (x1) (x2) (x3) : Sys2Proof.Laws.WordCount.Statement (.aswap x0 x1 x2 x3) := rfl
theorem Sys2Proof.Laws.WordCount.acas (x0) (x1) (x2) (x3) : Sys2Proof.Laws.WordCount.Statement (.acas x0 x1 x2 x3) := rfl
theorem Sys2Proof.Laws.WordCount.ald (x0) (x1) (x2) : Sys2Proof.Laws.WordCount.Statement (.ald x0 x1 x2) := rfl
theorem Sys2Proof.Laws.WordCount.ast (x0) (x1) (x2) (x3) : Sys2Proof.Laws.WordCount.Statement (.ast x0 x1 x2 x3) := rfl
theorem Sys2Proof.Laws.WordCount.swap (x0 : _) : Sys2Proof.Laws.WordCount.Statement (.swap x0) := rfl
theorem Sys2Proof.Laws.WordCount.fence (x0) (x1) : Sys2Proof.Laws.WordCount.Statement (.fence x0 x1) := rfl
theorem Sys2Proof.Laws.WordCount.bar (x0 : _) : Sys2Proof.Laws.WordCount.Statement (.bar x0) := rfl
theorem Sys2Proof.Laws.WordCount.waitc (x0 : _) : Sys2Proof.Laws.WordCount.Statement (.waitc x0) := rfl
theorem Sys2Proof.Laws.WordCount.waitk (x0 : _) : Sys2Proof.Laws.WordCount.Statement (.waitk x0) := rfl
theorem Sys2Proof.Laws.WordCount.sigk (x0 : _) : Sys2Proof.Laws.WordCount.Statement (.sigk x0) := rfl
theorem Sys2Proof.Laws.WordCount.epush (x0) (x1) (x2) : Sys2Proof.Laws.WordCount.Statement (.epush x0 x1 x2) := rfl
theorem Sys2Proof.Laws.WordCount.epop (x0) (x1) (x2) (x3) : Sys2Proof.Laws.WordCount.Statement (.epop x0 x1 x2 x3) := rfl
theorem Sys2Proof.Laws.WordCount.cbset (x0) (x1) : Sys2Proof.Laws.WordCount.Statement (.cbset x0 x1) := rfl
theorem Sys2Proof.Laws.WordCount.cbwait (x0) (x1) (x2) (x3) : Sys2Proof.Laws.WordCount.Statement (.cbwait x0 x1 x2 x3) := rfl
theorem Sys2Proof.Laws.WordCount.rdsys (x0) (x1) : Sys2Proof.Laws.WordCount.Statement (.rdsys x0 x1) := rfl
theorem Sys2Proof.Laws.WordCount.wrsys (x0) (x1) : Sys2Proof.Laws.WordCount.Statement (.wrsys x0 x1) := rfl
theorem Sys2Proof.Laws.WordCount.trap (x0) (x1) : Sys2Proof.Laws.WordCount.Statement (.trap x0 x1) := rfl
theorem Sys2Proof.Laws.WordCount.trapKExit (x0) (x1) : Sys2Proof.Laws.WordCount.Statement (.trapKExit x0 x1) := rfl
theorem Sys2Proof.Laws.WordCount.trapKSaved (x0) (x1) : Sys2Proof.Laws.WordCount.Statement (.trapKSaved x0 x1) := rfl
theorem Sys2Proof.Laws.WordCount.trapKService (x0) (x1) (x2) : Sys2Proof.Laws.WordCount.Statement (.trapKService x0 x1 x2) := rfl
theorem Sys2Proof.Laws.WordCount.rdcyc (x0 : _) : Sys2Proof.Laws.WordCount.Statement (.rdcyc x0) := rfl
theorem Sys2Proof.Laws.WordCount.bkpt (x0 : _) : Sys2Proof.Laws.WordCount.Statement (.bkpt x0) := rfl
theorem Sys2Proof.Laws.WordCount.saluAdd (x0) (x1) (x2) (x3) : Sys2Proof.Laws.WordCount.Statement (.saluAdd x0 x1 x2 x3) := rfl
theorem Sys2Proof.Laws.WordCount.saluSub (x0) (x1) (x2) (x3) : Sys2Proof.Laws.WordCount.Statement (.saluSub x0 x1 x2 x3) := rfl
theorem Sys2Proof.Laws.WordCount.saluAnd (x0) (x1) (x2) (x3) : Sys2Proof.Laws.WordCount.Statement (.saluAnd x0 x1 x2 x3) := rfl
theorem Sys2Proof.Laws.WordCount.saluOr (x0) (x1) (x2) (x3) : Sys2Proof.Laws.WordCount.Statement (.saluOr x0 x1 x2 x3) := rfl
theorem Sys2Proof.Laws.WordCount.saluXor (x0) (x1) (x2) (x3) : Sys2Proof.Laws.WordCount.Statement (.saluXor x0 x1 x2 x3) := rfl
theorem Sys2Proof.Laws.WordCount.saluShl (x0) (x1) (x2) (x3) : Sys2Proof.Laws.WordCount.Statement (.saluShl x0 x1 x2 x3) := rfl
theorem Sys2Proof.Laws.WordCount.saluShr (x0) (x1) (x2) (x3) : Sys2Proof.Laws.WordCount.Statement (.saluShr x0 x1 x2 x3) := rfl
theorem Sys2Proof.Laws.WordCount.saluMin (x0) (x1) (x2) (x3) : Sys2Proof.Laws.WordCount.Statement (.saluMin x0 x1 x2 x3) := rfl
theorem Sys2Proof.Laws.WordCount.saluMax (x0) (x1) (x2) (x3) : Sys2Proof.Laws.WordCount.Statement (.saluMax x0 x1 x2 x3) := rfl
theorem Sys2Proof.Laws.WordCount.saluMul (x0) (x1) (x2) (x3) : Sys2Proof.Laws.WordCount.Statement (.saluMul x0 x1 x2 x3) := rfl
theorem Sys2Proof.Laws.WordCount.saluMov (x0) (x1) (x2) : Sys2Proof.Laws.WordCount.Statement (.saluMov x0 x1 x2) := rfl
theorem Sys2Proof.Laws.WordCount.lxsAddi (x0) (x1) (x2) (x3) : Sys2Proof.Laws.WordCount.Statement (.lxsAddi x0 x1 x2 x3) := rfl
theorem Sys2Proof.Laws.WordCount.lxsLi (x0) (x1) (x2) : Sys2Proof.Laws.WordCount.Statement (.lxsLi x0 x1 x2) := rfl
theorem Sys2Proof.Laws.WordCount.lxsLih (x0) (x1) (x2) : Sys2Proof.Laws.WordCount.Statement (.lxsLih x0 x1 x2) := rfl
theorem Sys2Proof.Laws.WordCount.lxsRgn (x0) (x1) (x2) (x3) (x4) : Sys2Proof.Laws.WordCount.Statement (.lxsRgn x0 x1 x2 x3 x4) := rfl
theorem Sys2Proof.Laws.WordCount.lxsBfx (x0) (x1) (x2) (x3) (x4) : Sys2Proof.Laws.WordCount.Statement (.lxsBfx x0 x1 x2 x3 x4) := rfl
theorem Sys2Proof.Laws.WordCount.lxsPset (x0) (x1) (x2) (x3) (x4) : Sys2Proof.Laws.WordCount.Statement (.lxsPset x0 x1 x2 x3 x4) := rfl
theorem Sys2Proof.Laws.WordCount.lxsWaitc (x0) (x1) : Sys2Proof.Laws.WordCount.Statement (.lxsWaitc x0 x1) := rfl
theorem Sys2Proof.Laws.WordCount.lxsEpop (x0) (x1) (x2) (x3) (x4) : Sys2Proof.Laws.WordCount.Statement (.lxsEpop x0 x1 x2 x3 x4) := rfl
theorem Sys2Proof.Laws.WordCount.lxsCbwait (x0) (x1) (x2) (x3) (x4) : Sys2Proof.Laws.WordCount.Statement (.lxsCbwait x0 x1 x2 x3 x4) := rfl
theorem Sys2Proof.Laws.WordCount.lxsNop (x0 : _) : Sys2Proof.Laws.WordCount.Statement (.lxsNop x0) := rfl
theorem Sys2Proof.Laws.WordCount.lxsRep (x0) (x1) (x2) (x3) : Sys2Proof.Laws.WordCount.Statement (.lxsRep x0 x1 x2 x3) := rfl
theorem Sys2Proof.Laws.WordCount.ldt (x0) (x1) (x2) (x3) : Sys2Proof.Laws.WordCount.Statement (.ldt x0 x1 x2 x3) := rfl
theorem Sys2Proof.Laws.WordCount.ldtc (x0) (x1) (x2) (x3) (x4) : Sys2Proof.Laws.WordCount.Statement (.ldtc x0 x1 x2 x3 x4) := rfl
theorem Sys2Proof.Laws.WordCount.cfetch (x0) (x1) (x2) (x3) (x4) (x5) (x6) (x7) (x8) (x9) (x10) : Sys2Proof.Laws.WordCount.Statement (.cfetch x0 x1 x2 x3 x4 x5 x6 x7 x8 x9 x10) := rfl
theorem Sys2Proof.Laws.WordCount.cqfetch (x0) (x1) (x2) (x3) (x4) (x5) (x6) (x7) (x8) (x9) (x10) : Sys2Proof.Laws.WordCount.Statement (.cqfetch x0 x1 x2 x3 x4 x5 x6 x7 x8 x9 x10) := rfl
theorem Sys2Proof.Laws.WordCount.stt (x0) (x1) (x2) (x3) : Sys2Proof.Laws.WordCount.Statement (.stt x0 x1 x2 x3) := rfl
theorem Sys2Proof.Laws.WordCount.sttc (x0) (x1) (x2) (x3) (x4) : Sys2Proof.Laws.WordCount.Statement (.sttc x0 x1 x2 x3 x4) := rfl
theorem Sys2Proof.Laws.WordCount.cstore (x0) (x1) (x2) (x3) (x4) (x5) (x6) (x7) (x8) (x9) (x10) : Sys2Proof.Laws.WordCount.Statement (.cstore x0 x1 x2 x3 x4 x5 x6 x7 x8 x9 x10) := rfl
theorem Sys2Proof.Laws.WordCount.csend (x0) (x1) (x2) (x3) (x4) (x5) (x6) (x7) (x8) : Sys2Proof.Laws.WordCount.Statement (.csend x0 x1 x2 x3 x4 x5 x6 x7 x8) := rfl
theorem Sys2Proof.Laws.WordCount.vadd (x0) (x1) (x2) (x3) : Sys2Proof.Laws.WordCount.Statement (.vadd x0 x1 x2 x3) := rfl
theorem Sys2Proof.Laws.WordCount.vsub (x0) (x1) (x2) (x3) : Sys2Proof.Laws.WordCount.Statement (.vsub x0 x1 x2 x3) := rfl
theorem Sys2Proof.Laws.WordCount.vmul (x0) (x1) (x2) (x3) : Sys2Proof.Laws.WordCount.Statement (.vmul x0 x1 x2 x3) := rfl
theorem Sys2Proof.Laws.WordCount.vdiv (x0) (x1) (x2) (x3) : Sys2Proof.Laws.WordCount.Statement (.vdiv x0 x1 x2 x3) := rfl
theorem Sys2Proof.Laws.WordCount.vmin (x0) (x1) (x2) (x3) : Sys2Proof.Laws.WordCount.Statement (.vmin x0 x1 x2 x3) := rfl
theorem Sys2Proof.Laws.WordCount.vmax (x0) (x1) (x2) (x3) : Sys2Proof.Laws.WordCount.Statement (.vmax x0 x1 x2 x3) := rfl
theorem Sys2Proof.Laws.WordCount.vand (x0) (x1) (x2) (x3) : Sys2Proof.Laws.WordCount.Statement (.vand x0 x1 x2 x3) := rfl
theorem Sys2Proof.Laws.WordCount.vor (x0) (x1) (x2) (x3) : Sys2Proof.Laws.WordCount.Statement (.vor x0 x1 x2 x3) := rfl
theorem Sys2Proof.Laws.WordCount.vxor (x0) (x1) (x2) (x3) : Sys2Proof.Laws.WordCount.Statement (.vxor x0 x1 x2 x3) := rfl
theorem Sys2Proof.Laws.WordCount.vshl (x0) (x1) (x2) (x3) : Sys2Proof.Laws.WordCount.Statement (.vshl x0 x1 x2 x3) := rfl
theorem Sys2Proof.Laws.WordCount.vshr (x0) (x1) (x2) (x3) : Sys2Proof.Laws.WordCount.Statement (.vshr x0 x1 x2 x3) := rfl
theorem Sys2Proof.Laws.WordCount.vsar (x0) (x1) (x2) (x3) : Sys2Proof.Laws.WordCount.Statement (.vsar x0 x1 x2 x3) := rfl
theorem Sys2Proof.Laws.WordCount.vadds (x0) (x1) (x2) (x3) : Sys2Proof.Laws.WordCount.Statement (.vadds x0 x1 x2 x3) := rfl
theorem Sys2Proof.Laws.WordCount.vsubs (x0) (x1) (x2) (x3) : Sys2Proof.Laws.WordCount.Statement (.vsubs x0 x1 x2 x3) := rfl
theorem Sys2Proof.Laws.WordCount.vavg (x0) (x1) (x2) (x3) : Sys2Proof.Laws.WordCount.Statement (.vavg x0 x1 x2 x3) := rfl
theorem Sys2Proof.Laws.WordCount.vfma (x0) (x1) (x2) (x3) : Sys2Proof.Laws.WordCount.Statement (.vfma x0 x1 x2 x3) := rfl
theorem Sys2Proof.Laws.WordCount.vabs (x0) (x1) (x2) : Sys2Proof.Laws.WordCount.Statement (.vabs x0 x1 x2) := rfl
theorem Sys2Proof.Laws.WordCount.vneg (x0) (x1) (x2) : Sys2Proof.Laws.WordCount.Statement (.vneg x0 x1 x2) := rfl
theorem Sys2Proof.Laws.WordCount.vnot (x0) (x1) (x2) : Sys2Proof.Laws.WordCount.Statement (.vnot x0 x1 x2) := rfl
theorem Sys2Proof.Laws.WordCount.vcpy (x0) (x1) (x2) : Sys2Proof.Laws.WordCount.Statement (.vcpy x0 x1 x2) := rfl
theorem Sys2Proof.Laws.WordCount.vfill (x0) (x1) (x2) : Sys2Proof.Laws.WordCount.Statement (.vfill x0 x1 x2) := rfl
theorem Sys2Proof.Laws.WordCount.vrsq (x0) (x1) (x2) : Sys2Proof.Laws.WordCount.Statement (.vrsq x0 x1 x2) := rfl
theorem Sys2Proof.Laws.WordCount.vrcp (x0) (x1) (x2) : Sys2Proof.Laws.WordCount.Statement (.vrcp x0 x1 x2) := rfl
theorem Sys2Proof.Laws.WordCount.vcvt (x0) (x1) (x2) (x3) (x4) : Sys2Proof.Laws.WordCount.Statement (.vcvt x0 x1 x2 x3 x4) := rfl
theorem Sys2Proof.Laws.WordCount.vredSum (x0) (x1) (x2) : Sys2Proof.Laws.WordCount.Statement (.vredSum x0 x1 x2) := rfl
theorem Sys2Proof.Laws.WordCount.vredMax (x0) (x1) (x2) : Sys2Proof.Laws.WordCount.Statement (.vredMax x0 x1 x2) := rfl
theorem Sys2Proof.Laws.WordCount.vredMin (x0) (x1) (x2) : Sys2Proof.Laws.WordCount.Statement (.vredMin x0 x1 x2) := rfl
theorem Sys2Proof.Laws.WordCount.vredArgmax (x0) (x1) (x2) : Sys2Proof.Laws.WordCount.Statement (.vredArgmax x0 x1 x2) := rfl
theorem Sys2Proof.Laws.WordCount.vredArgmin (x0) (x1) (x2) : Sys2Proof.Laws.WordCount.Statement (.vredArgmin x0 x1 x2) := rfl
theorem Sys2Proof.Laws.WordCount.vscanSum (x0) (x1) (x2) (x3) : Sys2Proof.Laws.WordCount.Statement (.vscanSum x0 x1 x2 x3) := rfl
theorem Sys2Proof.Laws.WordCount.vscanMax (x0) (x1) (x2) (x3) : Sys2Proof.Laws.WordCount.Statement (.vscanMax x0 x1 x2 x3) := rfl
theorem Sys2Proof.Laws.WordCount.vscanMin (x0) (x1) (x2) (x3) : Sys2Proof.Laws.WordCount.Statement (.vscanMin x0 x1 x2 x3) := rfl
theorem Sys2Proof.Laws.WordCount.vsel (x0) (x1) (x2) (x3) (x4) : Sys2Proof.Laws.WordCount.Statement (.vsel x0 x1 x2 x3 x4) := rfl
theorem Sys2Proof.Laws.WordCount.vcmp (x0) (x1) (x2) (x3) (x4) (x5) : Sys2Proof.Laws.WordCount.Statement (.vcmp x0 x1 x2 x3 x4 x5) := rfl
theorem Sys2Proof.Laws.WordCount.part (x0) (x1) (x2) (x3) : Sys2Proof.Laws.WordCount.Statement (.part x0 x1 x2 x3) := rfl
theorem Sys2Proof.Laws.WordCount.vgath (x0) (x1) (x2) (x3) : Sys2Proof.Laws.WordCount.Statement (.vgath x0 x1 x2 x3) := rfl
theorem Sys2Proof.Laws.WordCount.vscat (x0) (x1) (x2) (x3) : Sys2Proof.Laws.WordCount.Statement (.vscat x0 x1 x2 x3) := rfl
theorem Sys2Proof.Laws.WordCount.vquant (x0) (x1) (x2) (x3) (x4) : Sys2Proof.Laws.WordCount.Statement (.vquant x0 x1 x2 x3 x4) := rfl
theorem Sys2Proof.Laws.WordCount.vdeq (x0) (x1) (x2) (x3) : Sys2Proof.Laws.WordCount.Statement (.vdeq x0 x1 x2 x3) := rfl
theorem Sys2Proof.Laws.WordCount.vpermRev (x0) (x1) (x2) : Sys2Proof.Laws.WordCount.Statement (.vpermRev x0 x1 x2) := rfl
theorem Sys2Proof.Laws.WordCount.vpermTrn (x0) (x1) (x2) (x3) : Sys2Proof.Laws.WordCount.Statement (.vpermTrn x0 x1 x2 x3) := rfl
theorem Sys2Proof.Laws.WordCount.vpermZip (x0) (x1) (x2) : Sys2Proof.Laws.WordCount.Statement (.vpermZip x0 x1 x2) := rfl
theorem Sys2Proof.Laws.WordCount.vpermUnzip (x0) (x1) (x2) : Sys2Proof.Laws.WordCount.Statement (.vpermUnzip x0 x1 x2) := rfl
theorem Sys2Proof.Laws.WordCount.vpermRot (x0) (x1) (x2) (x3) : Sys2Proof.Laws.WordCount.Statement (.vpermRot x0 x1 x2 x3) := rfl
theorem Sys2Proof.Laws.WordCount.mma (x0) (x1) (x2) (x3) (x4) (x5) (x6) (x7) (x8) (x9) (x10) (x11) : Sys2Proof.Laws.WordCount.Statement (.mma x0 x1 x2 x3 x4 x5 x6 x7 x8 x9 x10 x11) := rfl
theorem Sys2Proof.Laws.WordCount.mmat (x0) (x1) (x2) (x3) (x4) (x5) (x6) (x7) (x8) (x9) (x10) (x11) : Sys2Proof.Laws.WordCount.Statement (.mmat x0 x1 x2 x3 x4 x5 x6 x7 x8 x9 x10 x11) := rfl
theorem Sys2Proof.Laws.WordCount.mmac (x0) (x1) (x2) (x3) (x4) (x5) (x6) (x7) (x8) (x9) (x10) (x11) : Sys2Proof.Laws.WordCount.Statement (.mmac x0 x1 x2 x3 x4 x5 x6 x7 x8 x9 x10 x11) := rfl
theorem Sys2Proof.Laws.WordCount.accrd (x0) (x1) (x2) (x3) (x4) (x5) (x6) (x7) : Sys2Proof.Laws.WordCount.Statement (.accrd x0 x1 x2 x3 x4 x5 x6 x7) := rfl
theorem Sys2Proof.Laws.WordCount.accwr (x0) (x1) (x2) (x3) (x4) (x5) (x6) : Sys2Proof.Laws.WordCount.Statement (.accwr x0 x1 x2 x3 x4 x5 x6) := rfl
theorem Sys2Proof.Laws.WordCount.accz (x0) (x1) (x2) (x3) : Sys2Proof.Laws.WordCount.Statement (.accz x0 x1 x2 x3) := rfl
theorem Sys2Proof.Laws.WordCount.apeek (x0) (x1) (x2) (x3) (x4) (x5) (x6) (x7) : Sys2Proof.Laws.WordCount.Statement (.apeek x0 x1 x2 x3 x4 x5 x6 x7) := rfl
theorem Sys2Proof.Laws.WordCount.mstat (x0) (x1) (x2) (x3) (x4) : Sys2Proof.Laws.WordCount.Statement (.mstat x0 x1 x2 x3 x4) := rfl
theorem Sys2Proof.Laws.WordCount.maskRange (x0) (x1) (x2) (x3) : Sys2Proof.Laws.WordCount.Statement (.maskRange x0 x1 x2 x3) := rfl
theorem Sys2Proof.Laws.WordCount.maskRegion (x0) (x1) (x2) (x3) : Sys2Proof.Laws.WordCount.Statement (.maskRegion x0 x1 x2 x3) := rfl
theorem Sys2Proof.Laws.WordCount.ftsel (x0) (x1) : Sys2Proof.Laws.WordCount.Statement (.ftsel x0 x1) := rfl
theorem Sys2Proof.Laws.WordCount.bdset (x0) (x1) (x2) : Sys2Proof.Laws.WordCount.Statement (.bdset x0 x1 x2) := rfl
theorem Sys2Proof.Laws.WordCount.bdsetLd (x0) (x1) (x2) : Sys2Proof.Laws.WordCount.Statement (.bdsetLd x0 x1 x2) := rfl
theorem Sys2Proof.Laws.WordCount.bdsetLdw (x0) (x1) (x2) : Sys2Proof.Laws.WordCount.Statement (.bdsetLdw x0 x1 x2) := rfl
theorem Sys2Proof.Laws.WordCount.bdsetSt (x0) (x1) : Sys2Proof.Laws.WordCount.Statement (.bdsetSt x0 x1) := rfl
theorem Sys2Proof.Laws.WordCount.bdsetStw (x0) (x1) : Sys2Proof.Laws.WordCount.Statement (.bdsetStw x0 x1) := rfl
theorem Sys2Proof.Laws.WordCount.bdsetAck (x0 : _) : Sys2Proof.Laws.WordCount.Statement (.bdsetAck x0) := rfl
theorem Sys2Proof.Laws.WordCount.bdsetClr (x0 : _) : Sys2Proof.Laws.WordCount.Statement (.bdsetClr x0) := rfl
theorem Sys2Proof.Laws.WordCount.tcon (x0) (x1) (x2) (x3) (x4) (x5) (x6) (x7) (x8) (x9) (x10) (x11) : Sys2Proof.Laws.WordCount.Statement (.tcon x0 x1 x2 x3 x4 x5 x6 x7 x8 x9 x10 x11) := rfl
theorem Sys2Proof.Laws.WordCount.cplan (x0) (x1) (x2) (x3) : Sys2Proof.Laws.WordCount.Statement (.cplan x0 x1 x2 x3) := rfl
theorem Sys2Proof.Laws.WordCount.crdRot (x0) (x1) (x2) (x3) : Sys2Proof.Laws.WordCount.Statement (.crdRot x0 x1 x2 x3) := rfl
theorem Sys2Proof.Laws.WordCount.crdVec (x0) (x1) (x2) (x3) : Sys2Proof.Laws.WordCount.Statement (.crdVec x0 x1 x2 x3) := rfl
theorem Sys2Proof.Laws.WordCount.crdHrot (x0) (x1) (x2) (x3) : Sys2Proof.Laws.WordCount.Statement (.crdHrot x0 x1 x2 x3) := rfl
theorem Sys2Proof.Laws.WordCount.crdHvec (x0) (x1) (x2) (x3) : Sys2Proof.Laws.WordCount.Statement (.crdHvec x0 x1 x2 x3) := rfl
theorem Sys2Proof.Laws.WordCount.crdLin (x0) (x1) (x2) (x3) : Sys2Proof.Laws.WordCount.Statement (.crdLin x0 x1 x2 x3) := rfl
theorem Sys2Proof.Laws.WordCount.cbld (x0) (x1) (x2) : Sys2Proof.Laws.WordCount.Statement (.cbld x0 x1 x2) := rfl
theorem Sys2Proof.Laws.WordCount.cbldClr (x0) (x1) : Sys2Proof.Laws.WordCount.Statement (.cbldClr x0 x1) := rfl
theorem Sys2Proof.Laws.WordCount.xfgo (x0) (x1) (x2) : Sys2Proof.Laws.WordCount.Statement (.xfgo x0 x1 x2) := rfl
theorem Sys2Proof.Laws.WordCount.txloop (x0) (x1) (x2) : Sys2Proof.Laws.WordCount.Statement (.txloop x0 x1 x2) := rfl
theorem Sys2Proof.Laws.WordCount.txld (x0) (x1) (x2) (x3) (x4) : Sys2Proof.Laws.WordCount.Statement (.txld x0 x1 x2 x3 x4) := rfl
theorem Sys2Proof.Laws.WordCount.txst (x0) (x1) (x2) (x3) (x4) (x5) : Sys2Proof.Laws.WordCount.Statement (.txst x0 x1 x2 x3 x4 x5) := rfl
theorem Sys2Proof.Laws.WordCount.txopAdd (x0) (x1) (x2) : Sys2Proof.Laws.WordCount.Statement (.txopAdd x0 x1 x2) := rfl
theorem Sys2Proof.Laws.WordCount.txopSub (x0) (x1) (x2) : Sys2Proof.Laws.WordCount.Statement (.txopSub x0 x1 x2) := rfl
theorem Sys2Proof.Laws.WordCount.txopMul (x0) (x1) (x2) : Sys2Proof.Laws.WordCount.Statement (.txopMul x0 x1 x2) := rfl
theorem Sys2Proof.Laws.WordCount.txopFma (x0) (x1) (x2) : Sys2Proof.Laws.WordCount.Statement (.txopFma x0 x1 x2) := rfl
theorem Sys2Proof.Laws.WordCount.txopMax (x0) (x1) (x2) : Sys2Proof.Laws.WordCount.Statement (.txopMax x0 x1 x2) := rfl
theorem Sys2Proof.Laws.WordCount.txopMin (x0) (x1) (x2) : Sys2Proof.Laws.WordCount.Statement (.txopMin x0 x1 x2) := rfl
theorem Sys2Proof.Laws.WordCount.txopRelu (x0) (x1) : Sys2Proof.Laws.WordCount.Statement (.txopRelu x0 x1) := rfl
theorem Sys2Proof.Laws.WordCount.txopAbs (x0) (x1) : Sys2Proof.Laws.WordCount.Statement (.txopAbs x0 x1) := rfl
theorem Sys2Proof.Laws.WordCount.txopSplat (x0) (x1) : Sys2Proof.Laws.WordCount.Statement (.txopSplat x0 x1) := rfl
theorem Sys2Proof.Laws.WordCount.txpermRev (x0) (x1) : Sys2Proof.Laws.WordCount.Statement (.txpermRev x0 x1) := rfl
theorem Sys2Proof.Laws.WordCount.txpermRot (x0) (x1) (x2) : Sys2Proof.Laws.WordCount.Statement (.txpermRot x0 x1 x2) := rfl
theorem Sys2Proof.Laws.WordCount.txpermZip (x0) (x1) : Sys2Proof.Laws.WordCount.Statement (.txpermZip x0 x1) := rfl
theorem Sys2Proof.Laws.WordCount.txpermUnzip (x0) (x1) : Sys2Proof.Laws.WordCount.Statement (.txpermUnzip x0 x1) := rfl
theorem Sys2Proof.Laws.WordCount.txcbEnlarge (x0) (x1) (x2) : Sys2Proof.Laws.WordCount.Statement (.txcbEnlarge x0 x1 x2) := rfl
theorem Sys2Proof.Laws.WordCount.txcbReduce (x0) (x1) (x2) : Sys2Proof.Laws.WordCount.Statement (.txcbReduce x0 x1 x2) := rfl
theorem Sys2Proof.Laws.WordCount.txsig (x0 : _) : Sys2Proof.Laws.WordCount.Statement (.txsig x0) := rfl
theorem Sys2Proof.Laws.WordCount.txwait (x0 : _) : Sys2Proof.Laws.WordCount.Statement (.txwait x0) := rfl
theorem Sys2Proof.Laws.WordCount.txaddi (x0) (x1) (x2) : Sys2Proof.Laws.WordCount.Statement (.txaddi x0 x1 x2) := rfl
theorem Sys2Proof.Laws.WordCount.txli (x0) (x1) : Sys2Proof.Laws.WordCount.Statement (.txli x0 x1) := rfl
theorem Sys2Proof.Laws.WordCount.wrsysTag (x0) (x1) : Sys2Proof.Laws.WordCount.Statement (.wrsysTag x0 x1) := rfl
theorem Sys2Proof.Laws.WordCount.wrsysBndcap (x0 : _) : Sys2Proof.Laws.WordCount.Statement (.wrsysBndcap x0) := rfl
theorem Sys2Proof.Laws.WordCount.wrsysTlbinv (x0 : _) : Sys2Proof.Laws.WordCount.Statement (.wrsysTlbinv x0) := rfl
theorem Sys2Proof.Laws.WordCount.wrsysDbuf (x0) (x1) : Sys2Proof.Laws.WordCount.Statement (.wrsysDbuf x0 x1) := rfl
theorem Sys2Proof.Laws.WordCount.wrsysBd (x0) (x1) : Sys2Proof.Laws.WordCount.Statement (.wrsysBd x0 x1) := rfl
theorem Sys2Proof.Laws.WordCount.wrsysEvcnt (x0) (x1) : Sys2Proof.Laws.WordCount.Statement (.wrsysEvcnt x0 x1) := rfl
theorem Sys2Proof.Laws.WordCount.wrsysEvstat (x0 : _) : Sys2Proof.Laws.WordCount.Statement (.wrsysEvstat x0) := rfl
theorem Sys2Proof.Laws.WordCount.ret : Sys2Proof.Laws.WordCount.Statement .ret := rfl
theorem Sys2Proof.Laws.WordCount.lexit : Sys2Proof.Laws.WordCount.Statement .lexit := rfl
theorem Sys2Proof.Laws.WordCount.vote : Sys2Proof.Laws.WordCount.Statement .vote := rfl
theorem Sys2Proof.Laws.WordCount.fix : Sys2Proof.Laws.WordCount.Statement .fix := rfl
theorem Sys2Proof.Laws.WordCount.yield : Sys2Proof.Laws.WordCount.Statement .yield := rfl
theorem Sys2Proof.Laws.WordCount.eret : Sys2Proof.Laws.WordCount.Statement .eret := rfl
theorem Sys2Proof.Laws.WordCount.eretSkip : Sys2Proof.Laws.WordCount.Statement .eretSkip := rfl
theorem Sys2Proof.Laws.WordCount.nop : Sys2Proof.Laws.WordCount.Statement .nop := rfl
theorem Sys2Proof.Laws.WordCount.txhalt : Sys2Proof.Laws.WordCount.Statement .txhalt := rfl
theorem Sys2Proof.Laws.WordCount.wrsysSpbase (x0) (x1) (x2) : Sys2Proof.Laws.WordCount.Statement (.wrsysSpbase x0 x1 x2) := rfl
theorem Sys2Proof.Laws.WordCount.wrsysAccset (x0) (x1) : Sys2Proof.Laws.WordCount.Statement (.wrsysAccset x0 x1) := rfl
theorem Sys2Proof.Laws.WordCount.wrsysSlot (x0) (x1) (x2) : Sys2Proof.Laws.WordCount.Statement (.wrsysSlot x0 x1 x2) := rfl
theorem Sys2Proof.Laws.WordCount.wrsysRecall (x0) (x1) : Sys2Proof.Laws.WordCount.Statement (.wrsysRecall x0 x1) := rfl
theorem Sys2Proof.Laws.WordCount.wrsysCtxarea (x0) (x1) : Sys2Proof.Laws.WordCount.Statement (.wrsysCtxarea x0 x1) := rfl
theorem Sys2Proof.Laws.WordCount.lineFetch (x0) (x1) : Sys2Proof.Laws.WordCount.Statement (.lineFetch x0 x1) := rfl
theorem Sys2Proof.Laws.WordCount.lineDelivery (x0 : _) : Sys2Proof.Laws.WordCount.Statement (.lineDelivery x0) := rfl
theorem Sys2Proof.Laws.WordCount.resultLanding (x0 : _) : Sys2Proof.Laws.WordCount.Statement (.resultLanding x0) := rfl
theorem Sys2Proof.Laws.WordCount.regionComplete (x0) (x1) : Sys2Proof.Laws.WordCount.Statement (.regionComplete x0 x1) := rfl
theorem Sys2Proof.Laws.WordCount.eventWindowClose (x0) (x1) : Sys2Proof.Laws.WordCount.Statement (.eventWindowClose x0 x1) := rfl
theorem Sys2Proof.Laws.WordCount.tileLoadComplete (x0) (x1) : Sys2Proof.Laws.WordCount.Statement (.tileLoadComplete x0 x1) := rfl
theorem Sys2Proof.Laws.WordCount.tileReadEnd (x0) (x1) : Sys2Proof.Laws.WordCount.Statement (.tileReadEnd x0 x1) := rfl
theorem Sys2Proof.Laws.WordCount.ldEntryPost (x0 : _) : Sys2Proof.Laws.WordCount.Statement (.ldEntryPost x0) := rfl
theorem Sys2Proof.Laws.WordCount.atomicEffect (x0) (x1) : Sys2Proof.Laws.WordCount.Statement (.atomicEffect x0 x1) := rfl
theorem Sys2Proof.Laws.WordCount.fixPublication (x0 : _) : Sys2Proof.Laws.WordCount.Statement (.fixPublication x0) := rfl
theorem Sys2Proof.Laws.WordCount.barRelease (x0) (x1) : Sys2Proof.Laws.WordCount.Statement (.barRelease x0 x1) := rfl
theorem Sys2Proof.Laws.WordCount.pageWalk (x0) (x1) : Sys2Proof.Laws.WordCount.Statement (.pageWalk x0 x1) := rfl
theorem Sys2Proof.Laws.WordCount.pageScrub (x0) (x1) : Sys2Proof.Laws.WordCount.Statement (.pageScrub x0 x1) := rfl
theorem Sys2Proof.Laws.WordCount.matrixDispatch (x0) (x1) : Sys2Proof.Laws.WordCount.Statement (.matrixDispatch x0 x1) := rfl
theorem Sys2Proof.Laws.WordCount.arrayFree (x0) (x1) : Sys2Proof.Laws.WordCount.Statement (.arrayFree x0 x1) := rfl
theorem Sys2Proof.Laws.WordCount.blockBoundary (x0) (x1) : Sys2Proof.Laws.WordCount.Statement (.blockBoundary x0 x1) := rfl
theorem Sys2Proof.Laws.WordCount.matrixComplete (x0 : _) : Sys2Proof.Laws.WordCount.Statement (.matrixComplete x0) := rfl
theorem Sys2Proof.Laws.WordCount.stripStep (x0 : _) : Sys2Proof.Laws.WordCount.Statement (.stripStep x0) := rfl
theorem Sys2Proof.Laws.WordCount.boundaryMoveEnd (x0 : _) : Sys2Proof.Laws.WordCount.Statement (.boundaryMoveEnd x0) := rfl
theorem Sys2Proof.Laws.WordCount.cordicBatch (x0 : _) : Sys2Proof.Laws.WordCount.Statement (.cordicBatch x0) := rfl
theorem Sys2Proof.Laws.WordCount.cordicComplete (x0 : _) : Sys2Proof.Laws.WordCount.Statement (.cordicComplete x0) := rfl
theorem Sys2Proof.Laws.WordCount.quantiserComplete (x0 : _) : Sys2Proof.Laws.WordCount.Statement (.quantiserComplete x0) := rfl
theorem Sys2Proof.Laws.WordCount.xfRunStart (x0 : _) : Sys2Proof.Laws.WordCount.Statement (.xfRunStart x0) := rfl
theorem Sys2Proof.Laws.WordCount.courierChunk (x0) (x1) : Sys2Proof.Laws.WordCount.Statement (.courierChunk x0 x1) := rfl
theorem Sys2Proof.Laws.WordCount.courierComplete (x0) (x1) : Sys2Proof.Laws.WordCount.Statement (.courierComplete x0 x1) := rfl
theorem Sys2Proof.Laws.WordCount.csendReceive (x0 : _) : Sys2Proof.Laws.WordCount.Statement (.csendReceive x0) := rfl
theorem Sys2Proof.Laws.WordCount.csendAcknowledgement (x0) (x1) (x2) (x3) : Sys2Proof.Laws.WordCount.Statement (.csendAcknowledgement x0 x1 x2 x3) := rfl
theorem Sys2Proof.Laws.WordCount.promiseMissed (x0) (x1) : Sys2Proof.Laws.WordCount.Statement (.promiseMissed x0 x1) := rfl
theorem Sys2Proof.Laws.WordCount.trapEntry (x0 : _) : Sys2Proof.Laws.WordCount.Statement (.trapEntry x0) := rfl
theorem Sys2Proof.Laws.WordCount.kernelReply (x0) (x1) : Sys2Proof.Laws.WordCount.Statement (.kernelReply x0 x1) := rfl
theorem Sys2Proof.Laws.WordCount.watchdog (x0 : _) : Sys2Proof.Laws.WordCount.Statement (.watchdog x0) := rfl
theorem Sys2Proof.Laws.WordCount.sliceEndNotice (x0 : _) : Sys2Proof.Laws.WordCount.Statement (.sliceEndNotice x0) := rfl
theorem Sys2Proof.Laws.WordCount.saveBudgetExpiry (x0 : _) : Sys2Proof.Laws.WordCount.Statement (.saveBudgetExpiry x0) := rfl
theorem Sys2Proof.Laws.WordCount.lightSave (x0 : _) : Sys2Proof.Laws.WordCount.Statement (.lightSave x0) := rfl
theorem Sys2Proof.Laws.WordCount.restore (x0) (x1) (x2) (x3) : Sys2Proof.Laws.WordCount.Statement (.restore x0 x1 x2 x3) := rfl
theorem Sys2Proof.Laws.WordCount.recallSlice (x0 : _) : Sys2Proof.Laws.WordCount.Statement (.recallSlice x0) := rfl
theorem Sys2Proof.Laws.WordCount.recallDeadline (x0 : _) : Sys2Proof.Laws.WordCount.Statement (.recallDeadline x0) := rfl
theorem Sys2Proof.Laws.WordCount.contextLaunch (x0) (x1) : Sys2Proof.Laws.WordCount.Statement (.contextLaunch x0 x1) := rfl
theorem Sys2Proof.Laws.WordCount.launchNotify (x0) (x1) (x2) (x3) : Sys2Proof.Laws.WordCount.Statement (.launchNotify x0 x1 x2 x3) := rfl
theorem Sys2Proof.Laws.WordCount.slotRelease (x0) (x1) : Sys2Proof.Laws.WordCount.Statement (.slotRelease x0 x1) := rfl
theorem Sys2Proof.Laws.WordCount.checkerCheck (x0) (x1) (x2) : Sys2Proof.Laws.WordCount.Statement (.checkerCheck x0 x1 x2) := rfl
theorem Sys2Proof.Laws.WordCount.patrolScrub (x0 : _) : Sys2Proof.Laws.WordCount.Statement (.patrolScrub x0) := rfl
theorem Sys2Proof.Laws.WordCount.kernelRestart (x0 : _) : Sys2Proof.Laws.WordCount.Statement (.kernelRestart x0) := rfl
theorem Sys2Proof.Laws.WordCount.pairedCompare (x0) (x1) : Sys2Proof.Laws.WordCount.Statement (.pairedCompare x0 x1) := rfl
theorem Sys2Proof.Laws.WordCount.contextDrowsy (x0 : _) : Sys2Proof.Laws.WordCount.Statement (.contextDrowsy x0) := rfl
theorem Sys2Proof.Laws.WordCount.stateWake (x0 : _) : Sys2Proof.Laws.WordCount.Statement (.stateWake x0) := rfl
theorem Sys2Proof.Laws.WordCount.debuggerRead (x0) (x1) (x2) : Sys2Proof.Laws.WordCount.Statement (.debuggerRead x0 x1 x2) := rfl
theorem Sys2Proof.Laws.WordCount.sliceDrained (x0 : _) : Sys2Proof.Laws.WordCount.Statement (.sliceDrained x0) := rfl
theorem Sys2Proof.Laws.WordCount.contactSheetSample : Sys2Proof.Laws.WordCount.Statement .contactSheetSample := rfl
theorem Sys2Proof.Laws.WordCount.powerLimit (x0 : _) : Sys2Proof.Laws.WordCount.Statement (.powerLimit x0) := rfl
theorem Sys2Proof.Laws.WordCount.thermalDrain (x0 : _) : Sys2Proof.Laws.WordCount.Statement (.thermalDrain x0) := rfl
theorem Sys2Proof.Laws.WordCount.thermalPowerOff (x0 : _) : Sys2Proof.Laws.WordCount.Statement (.thermalPowerOff x0) := rfl
theorem Sys2Proof.Laws.WordCount.powerOnReset (x0) (x1) (x2) (x3) : Sys2Proof.Laws.WordCount.Statement (.powerOnReset x0 x1 x2 x3) := rfl
theorem Sys2Proof.Laws.WordCount.kernelHeartbeat : Sys2Proof.Laws.WordCount.Statement .kernelHeartbeat := rfl
theorem Sys2Proof.Laws.WordCount.heartbeatTimeout : Sys2Proof.Laws.WordCount.Statement .heartbeatTimeout := rfl
theorem Sys2Proof.Laws.WordCount.updateCommit : Sys2Proof.Laws.WordCount.Statement .updateCommit := rfl
theorem Sys2Proof.Laws.WordCount.updateRollback : Sys2Proof.Laws.WordCount.Statement .updateRollback := rfl
theorem Sys2Proof.Laws.WordCount.imageStageDone : Sys2Proof.Laws.WordCount.Statement .imageStageDone := rfl
theorem Sys2Proof.Laws.WordCount.laneFailure (x0 : _) : Sys2Proof.Laws.WordCount.Statement (.laneFailure x0) := rfl
theorem Sys2Proof.Laws.WordCount.portDown (x0 : _) : Sys2Proof.Laws.WordCount.Statement (.portDown x0) := rfl
theorem Sys2Proof.Laws.WordCount.flitArrival (x0) (x1) (x2) (x3) : Sys2Proof.Laws.WordCount.Statement (.flitArrival x0 x1 x2 x3) := rfl
theorem Sys2Proof.Laws.WordCount.hostMemoryRead (x0) (x1) : Sys2Proof.Laws.WordCount.Statement (.hostMemoryRead x0 x1) := rfl
theorem Sys2Proof.Laws.WordCount.hostMemoryWrite (x0) (x1) : Sys2Proof.Laws.WordCount.Statement (.hostMemoryWrite x0 x1) := rfl
theorem Sys2Proof.Laws.WordCount.rootPortDma (x0) (x1) (x2) (x3) : Sys2Proof.Laws.WordCount.Statement (.rootPortDma x0 x1 x2 x3) := rfl
theorem Sys2Proof.Laws.WordCount.contextWindowRead (x0) (x1) (x2) : Sys2Proof.Laws.WordCount.Statement (.contextWindowRead x0 x1 x2) := rfl
theorem Sys2Proof.Laws.WordCount.contextWindowWrite (x0) (x1) (x2) (x3) : Sys2Proof.Laws.WordCount.Statement (.contextWindowWrite x0 x1 x2 x3) := rfl
theorem Sys2Proof.Laws.WordCount.interruptCauseClear (x0 : _) : Sys2Proof.Laws.WordCount.Statement (.interruptCauseClear x0) := rfl
theorem Sys2Proof.Laws.WordCount.readGeneration (x0 : _) : Sys2Proof.Laws.WordCount.Statement (.readGeneration x0) := rfl
theorem Sys2Proof.Laws.WordCount.drainSlice (x0) (x1) : Sys2Proof.Laws.WordCount.Statement (.drainSlice x0 x1) := rfl
theorem Sys2Proof.Laws.WordCount.drainPackage (x0 : _) : Sys2Proof.Laws.WordCount.Statement (.drainPackage x0) := rfl
theorem Sys2Proof.Laws.WordCount.reopenSlice (x0) (x1) : Sys2Proof.Laws.WordCount.Statement (.reopenSlice x0 x1) := rfl
theorem Sys2Proof.Laws.WordCount.reopenPackage (x0 : _) : Sys2Proof.Laws.WordCount.Statement (.reopenPackage x0) := rfl
theorem Sys2Proof.Laws.WordCount.haltContext (x0) (x1) : Sys2Proof.Laws.WordCount.Statement (.haltContext x0 x1) := rfl
theorem Sys2Proof.Laws.WordCount.resumeContext (x0) (x1) : Sys2Proof.Laws.WordCount.Statement (.resumeContext x0 x1) := rfl
theorem Sys2Proof.Laws.WordCount.grantWindow (x0) (x1) : Sys2Proof.Laws.WordCount.Statement (.grantWindow x0 x1) := rfl
theorem Sys2Proof.Laws.WordCount.stageImage (x0) (x1) : Sys2Proof.Laws.WordCount.Statement (.stageImage x0 x1) := rfl
theorem Sys2Proof.Laws.WordCount.liveUpdate (x0 : _) : Sys2Proof.Laws.WordCount.Statement (.liveUpdate x0) := rfl
theorem Sys2Proof.Laws.WordCount.setPowerCap (x0) (x1) : Sys2Proof.Laws.WordCount.Statement (.setPowerCap x0 x1) := rfl
theorem Sys2Proof.Laws.WordCount.resetPackage (x0 : _) : Sys2Proof.Laws.WordCount.Statement (.resetPackage x0) := rfl
theorem Sys2Proof.Laws.WordCount.armInjector (x0) (x1) (x2) (x3) : Sys2Proof.Laws.WordCount.Statement (.armInjector x0 x1 x2 x3) := rfl
theorem Sys2Proof.Laws.WordCount.getVersion : Sys2Proof.Laws.WordCount.Statement .getVersion := rfl
theorem Sys2Proof.Laws.WordCount.getCapabilities : Sys2Proof.Laws.WordCount.Statement .getCapabilities := rfl
theorem Sys2Proof.Laws.WordCount.negotiateAlgorithms (x0 : _) : Sys2Proof.Laws.WordCount.Statement (.negotiateAlgorithms x0) := rfl
theorem Sys2Proof.Laws.WordCount.getDigests : Sys2Proof.Laws.WordCount.Statement .getDigests := rfl
theorem Sys2Proof.Laws.WordCount.getCertificate (x0 : _) : Sys2Proof.Laws.WordCount.Statement (.getCertificate x0) := rfl
theorem Sys2Proof.Laws.WordCount.challenge (x0 : _) : Sys2Proof.Laws.WordCount.Statement (.challenge x0) := rfl
theorem Sys2Proof.Laws.WordCount.getMeasurements (x0 : _) : Sys2Proof.Laws.WordCount.Statement (.getMeasurements x0) := rfl
theorem Sys2Proof.Laws.WordCount.illegalInstruction (x0 : _) : Sys2Proof.Laws.WordCount.Statement (.illegalInstruction x0) := rfl
theorem Sys2Proof.Laws.WordCount.softError (x0) (x1) : Sys2Proof.Laws.WordCount.Statement (.softError x0 x1) := rfl
theorem Sys2Proof.Laws.WordCount.coreSelfTestPassed (x0 : _) : Sys2Proof.Laws.WordCount.Statement (.coreSelfTestPassed x0) := rfl
theorem Sys2Proof.Laws.WordCount.allottedShareZeroed (x0 : _) : Sys2Proof.Laws.WordCount.Statement (.allottedShareZeroed x0) := rfl
theorem Sys2Proof.Laws.WordCount.kernelEndsContext (x0 : _) : Sys2Proof.Laws.WordCount.Statement (.kernelEndsContext x0) := rfl
theorem Sys2Proof.Laws.WordCount.applicationCoreAccess (x0) (x1) (x2) : Sys2Proof.Laws.WordCount.Statement (.applicationCoreAccess x0 x1 x2) := rfl
end

