-- ==== Sys2Proof/Tests/Slice0.lean ====
section
/-! SUPPORT. Tests of the model: ill-formed terms that the checks refuse, words written out from the encoding tables of 02, worked
examples of the spec, and for every obligation states and operands that meet its hypotheses. -/

namespace Sys2Proof.Tests

open Sys2Proof Sys2Proof.Machine

-- one test at a time: each that runs beside others holds a stack of its own
set_option Elab.async false

/-! Well-formedness: one ill-formed term for each check (02 R44, R49, R50, R56 to R60 and each word's own rule) -/

/-- 02 R49, R50: specifiers 1 to 15 and 24 to 27 are no destination, L and S have no second pipe; LIH needs a register that it can read. -/
theorem test_wf_refuses_specifiers :
    Instr.wf .c (.add 1 32 32) = false ∧ Instr.wf .c (.add 27 32 32) = false ∧ Instr.wf .l (.saluAdd 0 29 32 32) = false ∧
    Instr.wf .s (.saluAdd 0 32 29 32) = false ∧ Instr.wf .c (.lih 0 5) = false ∧ Instr.wf .c (.acas 0 0 32 63) = false ∧
    Instr.wf .x (.crdRot 0 32 62 40) = false ∧ Instr.wf .x (.crdVec 0 63 32 40) = false ∧ Instr.wf .c (.add 29 29 16) = true := by decide

/-- 02 R44: L pushes and pops no previous neighbour, S no next one. -/
theorem test_wf_refuses_tokens :
    Instr.wf .l (.lxsNop 0x8) = false ∧ Instr.wf .l (.lxsNop 0x2) = false ∧ Instr.wf .s (.lxsNop 0x4) = false ∧
    Instr.wf .s (.lxsNop 0x1) = false ∧ Instr.wf .x (.lxsNop 0xF) = true ∧ Instr.wf .c (.lxsNop 0) = false := by decide

/-- A word belongs to its own streams (02 R61 to R63); a step that is no word belongs to none. -/
theorem test_wf_refuses_streams :
    Instr.wf .l (.add 32 32 32) = false ∧ Instr.wf .c (.lxsRep 0 0 0 0) = false ∧ Instr.wf .s (.ldt 0 0 32 0) = false ∧
    Instr.wf .l (.stt 0 32 0 0) = false ∧ Instr.wf .l (.vadd 0 32 32 32) = false ∧ Instr.wf .c (.lineFetch 0 0) = false ∧
    Instr.wfSeq (.add 32 32 32) = false ∧ Instr.wf .x .txhalt = false := by decide

/-- Fields of C's words out of their range (03 R96 to R99, 04 R111, R112, R126, 11 R340 to R346, 03 R82, 12 R362, R363). -/
theorem test_wf_refuses_scalar_fields :
    Instr.wf .c (.bfx 32 32 0 63 1) = false ∧ Instr.wf .c (.bfi 32 32 0 63) = true ∧ Instr.wf .c (.rgn 32 32 32 12) = false ∧
    Instr.wf .c (.pset 0 32 32 12) = false ∧ Instr.wf .c (.pseti 0 32 12 0) = false ∧ Instr.wf .c (.loop 3 0 1 0 1) = false ∧
    Instr.wf .c (.loop 0 32 1 0 1) = false ∧ Instr.wf .c (.loop 0 32 0 0 1) = false ∧ Instr.wf .c (.lpipe 0 0 0 1 0 0 1 1) = false ∧
    Instr.wf .c (.lrd 32 3) = false ∧ Instr.wf .c (.ld 32 7 0) = false ∧ Instr.wf .c (.st 32 32 6 0) = false ∧
    Instr.wf .c (.aadd 6 0 32 32) = false ∧ Instr.wf .c (.ald 0 2 32) = false ∧ Instr.wf .c (.ast 0 1 32 32) = false ∧
    Instr.wf .c (.fence 0 0) = false ∧ Instr.wf .c (.epop 32 6 1 0) = false ∧ Instr.wf .c (.epop 32 0 0 1) = false ∧
    Instr.wf .c (.cbwait 32 0 0 1) = false ∧ Instr.wf .c (.rdsys 32 4) = false ∧ Instr.wf .c (.wrsys 32 0x049) = false ∧
    Instr.wf .c (.trapKService 32 32 1) = false := by decide

/-- Fields of the engines' words out of their range (05 R167, R179, 07 R225, R239, 08 R261, 09 R285 to R298, 10 R308, R309). -/
theorem test_wf_refuses_engine_fields :
    Instr.wf .x (.vcvt 0 32 32 0 5) = false ∧ Instr.wf .x (.vpermTrn 0 32 32 13) = false ∧ Instr.wf .x (.mma 0 0 0 0 1 0 0 3 0 0 0 0) = false ∧
    Instr.wf .x (.mma 0 1 0 0 1 0 0 0 1 0 0 0) = false ∧ Instr.wf .x (.mma 0 0 1 0 1 1 0 0 0 0 0 0) = false ∧
    Instr.wf .x (.mmat 0 0 0 0 7 0 0 0 0 0 0 0) = false ∧ Instr.wf .x (.mmat 0 0 3 0 2 1 0 0 0 0 0 0) = false ∧
    Instr.wf .x (.mmac 0 0 0 0 63 0 0 0 0 0 0 0) = false ∧ Instr.wf .x (.accrd 0 32 0 0 0 0 1 1) = false ∧ Instr.wf .x (.accz 0 0 1 1) = false ∧
    Instr.wf .x (.mstat 0 32 0 1 0) = false ∧ Instr.wf .x (.tcon 0 32 32 0 0 0 0 0 1 0 0 0) = false ∧
    Instr.wf .x (.tcon 0 32 0 0 0 0 0 0 2 0 0 0) = false ∧ Instr.wf .x (.tcon 0 32 0 0 0 0 0 0 1 1 0 0) = false ∧
    Instr.wf .l (.cfetch 0 32 32 33 0 0 0 0 0 0 0) = false ∧ Instr.wf .l (.cfetch 0 32 32 0 0 0 0 0 2 0 0) = false ∧
    Instr.wf .l (.cfetch 0 32 32 0 0 0 0 0 0 1 0) = false ∧ Instr.wf .s (.cstore 0 32 32 0 0 0 0 0 1 0 0) = false ∧
    Instr.wf .s (.csend 0 32 63 0 0 0 0 0 0) = false ∧ Instr.wfSeq (.txloop 4 0 1) = false ∧ Instr.wfSeq (.txloop 0 0 0) = false ∧
    Instr.wfSeq (.txld 0 0 0 0 7) = false ∧ Instr.wfSeq (.txst 0 0 0 1 0 5) = false ∧ Instr.wfSeq (.txcbReduce 0 15 0) = false := by decide

/-! Words written out field by field from the formats and the maps of 02 R53 to R64 -/

/-- Format A of C (02 R53). -/
def wA (major : BitVec 6) (d a b : BitVec 6) (func : BitVec 8) : W32 := major ++ d ++ a ++ b ++ func

/-- Format I of C (02 R53). -/
def wI (major : BitVec 6) (d a : BitVec 6) (imm : BitVec 14) : W32 := major ++ d ++ a ++ imm

/-- Format A of L, X and S (02 R54). -/
def vA (tokens : BitVec 4) (major : BitVec 6) (d a b : BitVec 6) (func : BitVec 4) : W32 := tokens ++ major ++ d ++ a ++ b ++ func

/-- Format TA of the sequencer (02 R64). -/
def tA (major : BitVec 6) (d a b : BitVec 4) (func : BitVec 14) : W32 := major ++ d ++ a ++ b ++ func

/-- The scalar families of C. -/
theorem test_decode_c_scalar :
    decode .c (wA 0x01 35 33 34 0x1B) none = some (.cmpleu 35 33 34) ∧ decode .c (wA 0x01 35 33 34 0x1C) none = none ∧
    decode .c (wA 0x02 35 33 0 0x0D) none = some (.bswap 35 33) ∧ decode .c (wA 0x02 35 33 1 0x0D) none = none ∧
    decode .c (wI 0x0F 40 41 0x2000) none = some (.muli 40 41 0x2000) ∧ decode .c (wI 0x07 40 41 0x00BF) none = some (.shiSar 40 41 63) ∧
    decode .c (wI 0x07 40 41 0x0100) none = none ∧ decode .c (0x08#6 ++ 32#6 ++ 0xFFFFE#20) none = some (.li 32 0xFFFFE) ∧
    decode .c (0x0A#6 ++ 32#6 ++ 0x00001#20) none = some (.lix 32 1) ∧ decode .c (wA 0x0D 32 33 34 7) none = some (.sel 32 33 34 7) ∧
    decode .c (wA 0x12 7 8 15 2) none = some (.pxor 7 8 15) ∧ decode .c (wA 0x10 5 33 34 11) none = some (.pset 5 33 34 11) ∧
    decode .c (wA 0x13 0 0 0 0) none = none ∧ decode .c (wA 0x3F 0 0 0 0) none = none := by decide

/-- C's control words, loads, stores and atomics. -/
theorem test_decode_c_control_memory :
    decode .c (wA 0x17 0 0 0 0) none = some .ret ∧ decode .c (wA 0x18 0 34 0 0) none = some (.jmpi 34) ∧
    decode .c (wA 0x1D 32 0 0x0F 0) none = some (.lrdRsbot 32) ∧ decode .c (wA 0x1D 0 33 0x0F 1) none = some (.lwrRsbot 33) ∧
    decode .c (wI 0x20 0 34 (6#3 ++ 0x7F8#11)) none = some (.ld 34 6 0x7F8) ∧ decode .c (wI 0x21 33 34 (5#3 ++ 8#11)) none = some (.st 33 34 5 8) ∧
    decode .c (wI 0x24 33 0 511) none = some (.spld 33 511) ∧ decode .c (wI 0x25 0 33 7) none = some (.spst 33 7) ∧
    decode .c (0x28#6 ++ 3#3 ++ 2#2 ++ 0#1 ++ 33#6 ++ 34#6 ++ 0x09#8) none = some (.acas 3 2 33 34) ∧
    decode .c 0xA229C00A none = some (.ald 4 1 39) ∧ decode .c 0xA249E90B none = some (.ast 4 2 39 41) ∧
    decode .c (0x28#6 ++ 6#3 ++ 2#2 ++ 0#1 ++ 33#6 ++ 34#6 ++ 0x00#8) none = none ∧
    decode .c (0x28#6 ++ 0#3 ++ 0#2 ++ 1#1 ++ 33#6 ++ 34#6 ++ 0x00#8) none = none ∧
    decode .c (wA 0x2C 0 0 0 0) none = some .fix ∧ decode .c (wA 0x2F 0 33 0 0) none = some (.bar 33) ∧
    decode .c (wA 0x3E 0 0 0 0) none = some .nop ∧ decode .c (wA 0x3E 0 0 0 1) none = none := by decide

/-- The words of L, X and S. -/
theorem test_decode_lxs :
    decode .s (vA 0xA 0x01 36 37 38 0xA) none = none ∧ decode .s (vA 0xA 0x01 36 37 0 0xA) none = some (.saluMov 0xA 36 37) ∧
    decode .l (0x5#4 ++ 0x02#6 ++ 36#6 ++ 37#6 ++ 0x3FF#10) none = some (.lxsAddi 5 36 37 0x3FF) ∧
    decode .l (0x1#4 ++ 0x04#6 ++ 36#6 ++ 0x8000#16) none = some (.lxsLih 1 36 0x8000) ∧
    decode .x (vA 0 0x11 36 37 38 0) none = some (.vfma 0 36 37 38) ∧ decode .x (vA 0 0x12 36 37 0 6) none = some (.vrcp 0 36 37) ∧
    decode .x (vA 0 0x14 36 37 0 4) none = some (.vredArgmin 0 36 37) ∧ decode .x (vA 0 0x14 36 37 0 5) none = none ∧
    decode .x (vA 0 0x2D 36 37 44 4) none = some (.crdLin 0 36 37 44) ∧ decode .x (vA 0 0x1E 0 0 0 0) none = none ∧
    decode .l (vA 0 0x14 0 0 0 0) none = none ∧ decode .s (vA 0 0x0D 0 0 0 0) none = none ∧
    decode .x (vA 0 0x10 36 37 38 0) (some 0) = none := by decide

/-- The words of the sequencer. -/
theorem test_decode_sequencer :
    decodeSeq (0x0A#6 ++ 3#4 ++ 0x3FFFFF#22) = some (.txli 3 0x3FFFFF) ∧ decodeSeq (0x09#6 ++ 3#4 ++ 15#4 ++ 5#18) = some (.txaddi 3 15 5) ∧
    decodeSeq (tA 0x0B 0 0 0 0) = some .txhalt ∧ decodeSeq (tA 0x0B 0 0 0 1) = none ∧ decodeSeq (tA 0x0C 0 0 0 0) = none ∧
    decodeSeq (tA 0x07 7 0 0 0) = some (.txsig 7) := by decide

/-- 02, Encoding examples: the header 0x00453210 routes C, L, X with a continuation, and S; a continuation in lane 1 or after an empty lane
is an illegal line, and a pad line conforms only with zero lanes. -/
theorem test_lanes_routed :
    let ws : List W32 := [0x00453210, 0xC1, 0xC2, 0xC3, 0xC4, 0xC5, 0, 0]
    lineOk ws = true ∧ lanesFor .c ws = [(1, 0xC1, none)] ∧ lanesFor .l ws = [(2, 0xC2, none)] ∧
    lanesFor .x ws = [(3, 0xC3, some 0xC4)] ∧ lanesFor .s ws = [(5, 0xC5, none)] ∧
    lineOk [0x00000050, 1, 0, 0, 0, 0, 0, 0] = false ∧ lineOk [0x00005010, 1, 0, 0, 0, 0, 0, 0] = false ∧
    lineOk [1, 0, 0, 0, 0, 0, 0, 0] = true ∧ lineOk [1, 0, 0, 0, 0, 0, 0, 1] = false := by decide

/-- The decoder reads a row of the table as its instruction, and a step runs the word that withFetchWord places. -/
theorem test_table_word : decodeTableWord 32 0x06386200 = some (.add 35 33 34) ∧ decodeTableWord 32 0 = none := by decide

/-- Words that the spec writes in full beside their assembly (04, 10, 11, 12, Encoding examples). -/
theorem test_decode_spec_examples :
    decode .c 0xC4098000 none = some (.waitc 38) ∧ decode .x 0x02009800 none = some (.lxsWaitc 0 38) ∧
    decode .c 0xD2394002 none = some (.epush 35 37 2) ∧ decode .c 0x8009D800 none = some (.ld 39 3 0) ∧
    decode .c 0x8699D008 none = some (.st 41 39 2 8) ∧ decode .c 0x8A598003 none = some (.lds 37 38 3) ∧
    decode .c 0xB0000000 none = some .fix ∧ decode .c 0xB4088000 none = some (.swap 34) ∧
    decode .c 0xB800001C none = some (.fence 3 4) ∧ decode .c 0xBC08C000 none = some (.bar 35) ∧
    decode .c 0xE8088080 none = some (.trapKExit 0 34) ∧ decode .c 0xE8060005 none = some (.trap 24 5) ∧
    decode .c 0xE2400008 none = some (.rdsys 36 8) ∧ decode .c 0xE4094009 none = some (.wrsys 37 9) ∧
    decode .c 0xF2400000 none = some (.rdcyc 36) ∧ decode .c 0xF4000007 none = some (.bkpt 7) := by decide

/-- 10, Encoding examples: the two lanes of a cfetch. -/
theorem test_decode_spec_cfetch :
    decode .l 0x04A69000 (some 0x00000843) = some (.cfetch 0 38 36 0 3 0x21 0 0 0 0 0) := by decide

/-! States that meet the hypotheses of the obligations: context 0 of core 0 at cycle 100 -/

/-- A lane at lane 1 of the line at 0x1000, the last of its stream in the line. -/
def lane1 : Lane := ⟨0x1004, 0, none, false, none, false⟩

/-- A stream with that lane as its next word. -/
def waiting : StreamState := { StreamState.reset with queue := [.lane lane1] }

/-- A tenant context with every pipe and counter declared, a partition of 64 KiB, two accumulator units and translation on. -/
def base : Ctx := { Ctx.reset with
  codeHi := 0x10000, nspill := 2, dpipes := [.cl, .cx, .lx, .xs, .xc, .sc], dctrs := [.lx, .xl, .xs, .sx], dtokens := [(0, .ctxToSeq), (1, .seqToCtx)]
  lt := { Light.reset with
    c := waiting, l := waiting, x := waiting, s := waiting, line := 0x1000, ctrs := Vector.replicate 4 ⟨1, 0⟩
    sys := { SysRegs.reset with spsize := 0x10000, accset := 0x10, ptroot := 1, ctxarea := 4 } } }

/-- A package with context 0 as `k`, at cycle 100, stream `st` of it selected, the first 64 KiB of its addresses cached, and
cluster 0 in its slice. -/
def on (k : Ctx) (st : Strm) : State :=
  { State.reset with
    cycle := 100, ctxs := [(0, k)], sel := ⟨0, st, false⟩, clusters := [(0, { Cluster.reset with slice := some 0 })]
    tlb := [⟨0, 0, 0x10000, 0x10000, true, true, true⟩] }

/-- `k` with light state changed. -/
def lit (k : Ctx) (f : Light → Light) : Ctx := { k with lt := f k.lt }

/-- `k` with system registers changed. -/
def sysd (k : Ctx) (f : SysRegs → SysRegs) : Ctx := lit k fun l => { l with sys := f l.sys }

/-- `k` with main registers of every stream set. -/
def regs (k : Ctx) (vs : List (Nat × Word)) : Ctx :=
  let put (ss : StreamState) : StreamState := { ss with g := vs.foldl (fun g v => g.setIfInBounds v.1 v.2) ss.g }
  lit k fun l => { l with c := put l.c, l := put l.l, x := put l.x, s := put l.s }

/-- A region descriptor (05 R147). -/
def rgnWord (base count stride ty layout : Nat) : Word := BitVec.ofNat 64 (base + stride * 2 ^ 24 + count * 2 ^ 40 + ty * 2 ^ 56 + layout * 2 ^ 60)

/-- The issue conditions, as one test. -/
theorem can {s : State} {k : Ctx} {st : Strm} {t : Tok} {d : Option Spec} {srcs : List Spec} (p : s.ctx s.sel.ctx = some k)
    (b : (!k.squashed st && k.syncOk st t d srcs && k.syncReady st t d srcs &&
      !srcs.any (s.poisonedReg s.sel.ctx st k)) = true) : CanIssue s k st t d srcs := by
  simp only [Bool.and_eq_true, Bool.not_eq_true'] at b
  exact ⟨p, b.1.1.1, b.1.1.2, b.1.2, b.2⟩

/-- The conditions on a region operand, as one test. -/
theorem legal {k : Ctx} {r : Rgn} {A : Nat → Bool} (b : (decide (r.ty ≤ 11) && decide (r.layout ≤ 2) && A r.ty &&
      (!subByte r.ty || (decide (r.stride = 1) && decide (r.layout = 0))) && (r.ty != 9 || decide (r.count % 32 = 0)) && decide (r.base % r.align = 0) &&
      decide (0 ≤ r.extent.1 ∧ r.extent.2 ≤ (k.spSize : Int))) = true) : RgnLegal k r A := by
  simp only [Bool.and_eq_true, decide_eq_true_eq, Bool.or_eq_true, Bool.not_eq_true', bne_iff_ne] at b
  obtain ⟨⟨⟨⟨⟨⟨h1, h2⟩, h3⟩, h4⟩, h5⟩, h6⟩, h7⟩ := b
  refine ⟨h1, h2, h3, fun h => ?_, fun h => ?_, h6, fun _ => h7⟩
  · rcases h4 with h4 | h4
    · simp [h] at h4
    · exact h4
  · rcases h5 with h5 | h5
    · exact absurd h h5
    · exact h5

/-- The conditions on a scratchpad access, as one test. -/
theorem free {s : State} {k : Ctx} {st : Strm} {reads writes : List (Nat × Nat)} (b : (!k.zeroing && k.crdRanges.isEmpty && k.quantRanges.isEmpty &&
      (s.spMarks s.sel.ctx k reads).isEmpty && (k.governing reads writes).w.isEmpty && (k.governing reads writes).r.isEmpty &&
      (k.governing reads writes).u.isEmpty) = true) : AccessOk s k st reads writes := by
  simp only [Bool.and_eq_true, Bool.not_eq_true', List.isEmpty_iff] at b
  obtain ⟨⟨⟨⟨⟨⟨h1, h2⟩, h0⟩, h3⟩, h4⟩, h5⟩, h6⟩ := b
  exact ⟨⟨by simp [h4, h5, h6], by simp [h4], by simp [h5], by simp [h6]⟩, h1, fun _ => by simp [h2, rangesMeet], fun _ => by simp [h0, rangesMeet], h3⟩

/-- What a test reads of an answer: a field of the context selected, where the answer is a next state. -/
def look {α : Type} (o : Host.Outcome State Fault Refusal) (id : Nat) (f : Ctx → α) : Option α :=
  match o with
  | .next t => (t.ctx id).map f
  | _ => none

/-- Whether the answer raises a fault of this code in context 0. -/
def faults (o : Host.Outcome State Fault Refusal) : Option (List Nat) := look o 0 fun k => k.lt.faults.map (·.code)

/-! 03: scalar words -/

/-- `base` with predicate 0 of C and spill slot 1 marked. -/
def marked : Ctx := lit base fun l => { l with bad := [.p .c 0, .spill 1] }

/-- CThreeOperandResults, CTwoOperandResults and CFieldsSelectAndRead: predicates of good and of marked data among them. -/
theorem witness_scalar : CanIssue (on base .c) base .c 0 (some 33) [34, 35] ∧ CanIssue (on base .c) base .c 0 (some 33) [34] ∧
    CanIssue (on base .c) base .c 0 (some 29) [] ∧ (on base .c).poisonedReg 0 .c base 33 = false ∧ PredGood base .c 0 ∧
    ¬PredGood marked .c 0 ∧ CanIssue (on marked .c) marked .c 0 (some 33) [34, 35] :=
  ⟨can rfl (by decide +kernel), can rfl (by decide +kernel), can rfl (by decide +kernel), by decide +kernel, by unfold PredGood; decide +kernel,
    by unfold PredGood; decide +kernel, can rfl (by decide +kernel)⟩

/-- 03 R91: the corners of division, run as steps of C. -/
theorem test_division_corners :
    let k := regs base [(1, 0x8000000000000000), (2, 0xFFFFFFFFFFFFFFFF), (3, 0), (4, 0xFFFFFFFFFFFFFFF9), (5, 3)]
    let val (i : Instr) := look (exec i (on k .c)) 0 fun k => k.lt.flights.map fun f => (f.val, f.land)
    val (.div 32 33 34) = some [(0x8000000000000000, 112)] ∧ val (.rem 32 33 34) = some [(0, 112)] ∧
    val (.div 32 34 35) = some [(0xFFFFFFFFFFFFFFFF, 112)] ∧ val (.remu 32 33 35) = some [(0x8000000000000000, 112)] ∧
    val (.rem 32 36 37) = some [(0xFFFFFFFFFFFFFFFF, 112)] := by decide +kernel

/-- A pipelined level of two stages, at its first iteration, in C. -/
def piped : Ctx := lit base fun l => { l with c := l.c.setView 0 (some ⟨true, 2, 5, 0x1000, 0x1020, Frame.start, false, none, 0, 0, 0⟩) }

/-- CPredicates: predicates 0 and 7, a stage predicate that is defined and one that is not. -/
theorem witness_predicates : CanIssue (on base .c) base .c 0 none [34, 35] ∧ CanIssue (on base .c) base .c 0 none [34] ∧
    CanIssue (on piped .c) piped .c 0 none [] ∧ (piped.strm .c).stg 0 = some true ∧ (piped.strm .c).stg 7 = some false ∧ (base.strm .c).stg 0 = none :=
  ⟨can rfl (by decide +kernel), can rfl (by decide +kernel), can rfl (by decide +kernel), by decide +kernel, by decide +kernel, by decide +kernel⟩

/-- LxsScalarResults: X with every token bit, L and S with those that they have. -/
theorem witness_lxs_scalar : CanIssue (on base .x) base .x 0xF (some 33) [34, 35] ∧ CanIssue (on base .l) base .l 0x5 (some 33) [34] ∧
    CanIssue (on base .s) base .s 0xA (some 33) [] ∧ (on base .s).poisonedReg 0 .s base 33 = false :=
  ⟨can rfl (by decide +kernel), can rfl (by decide +kernel), can rfl (by decide +kernel), by decide +kernel⟩

/-- 02 R45, R46: a word of L with push-next takes one place, and its token is visible when its result lands. -/
theorem test_token_pushed_at_landing :
    look (exec (.saluMul 0x4 33 34 35) (on base .l)) 0 (fun k => (k.lt.ctr .lx, k.lt.flights.map (·.land))) = some (⟨1, 1⟩, [103]) := by
  decide +kernel

/-! Steps (02 R36, R45, R66, 09 R283) -/

/-- `k` with this word as the next one of C. -/
def wordC (k : Ctx) (w : W32) : Ctx := lit k fun l => { l with c := { l.c with queue := [.lane { lane1 with word := w }] } }

/-- A run of context 0 on the sequencer of core 0, at word 0 of a transform, in an outermost loop. -/
def run0 : SeqRun := ⟨0, 7, 0, 0, Vector.replicate 16 0x10, Vector.replicate 4 (List.replicate 128 0x3F800000), [], 0, false, 0, []⟩

/-- The package with that run under way. -/
def running (k : Ctx) (r : SeqRun) (w : W32) : State :=
  ({ on k .x with sel := ⟨0, .x, true⟩ }).setCore 0 { Core.reset with seq := ⟨some 0, [w], some r, []⟩ }

/-- StepRunsWord: a word that decodes, one that does not, one that is marked, and the sequencer's word. -/
theorem witness_step :
    (let k := wordC base 0xF8000000
     let s := { on k .c with agenda := [.issue 0 .c] }
     s.mgmt.powered = true ∧ s.due.isNone = true ∧ s.stopsNow 0 k .c = false ∧ s.mayIssue k .c = true ∧ k.drowsy = false ∧
       (k.lane .c).bad = false ∧ k.nextInstr .c = some .nop ∧ (wordC base 0).nextInstr .c = none ∧ (k.strm .c).rep = none ∧ (k.strm .c).vote = none ∧
       ((lit base fun l => { l with c := { l.c with queue := [.lane { lane1 with bad := true }] } }).lane .c).bad = true) ∧
    (let s := { running base run0 0x28C00000 with agenda := [.seq 0] }
     s.due.isNone = true ∧ base.onCore = true ∧ run0.gives = false ∧ run0.pc < 1024 ∧
       decodeSeq ((s.core 0).seq.imem.getD 0 0) = some (.txli 3 0)) := by decide +kernel

/-- The next step after reset runs the word that is placed: the destination of ADD is one cycle away. -/
theorem test_step_runs_placed_word :
    (match step (State.reset.withFetchWord 32 0x06386200) with
     | .next t => (t.ctx 0).map fun k => k.lt.flights.map fun f => (f.tgt, f.land)
     | _ => none) = some [(.g 3, 1)] := by decide +kernel

/-- StepAlwaysCompletes: with power and without it; CycleCountsUp: the end of a cycle, with nothing due; MemoryFormKept: memory as after reset, and not empty. -/
theorem witness_steps : (on base .c).mgmt.powered = true ∧ State.reset.mem.wf = true ∧ (Memory.put [] 5 7).wf = true ∧
    (({ State.reset with agenda := [.tick] } : State).due.isNone = true ∧ State.reset.mgmt.powered = true) ∧
    (match step { State.reset with agenda := [.tick] } with
     | .next t => some t.cycle
     | _ => none) = some 1 ∧
    (match step { State.reset with mgmt := { Mgmt.reset with powered := false } } with
     | .fault .powerRemoved => true
     | _ => false) = true := by decide +kernel

/-! 04: transfers, loops and prefixes -/

theorem no_level_stays (l : Lane) (t : Nat) : StaysInBody base l t := by
  intro lv r h
  rw [show base.lt.c.innermost = none by decide +kernel] at h
  cases h

/-- CBranches: to a line without a level; inside and outside the body of a level; taken and not; a target that is no line; through a register; a
predicate of marked data. -/
theorem witness_branches :
    (CanIssue (on base .c) base .c 0 none [] ∧ base.lane .c = lane1 ∧ lane1.later = false ∧ (0x1004 : Int) + 4 * (0x3FFFFF : BitVec 22).toInt = (0x1000 : Nat) ∧
      StaysInBody base lane1 0x1000 ∧ (base.strm .c).p[0] = decide ((0 : BitVec 1) = 1) ∧ ¬(base.strm .c).p[0] = decide ((1 : BitVec 1) = 1)) ∧
    (CanIssue (on piped .c) piped .c 0 none [] ∧ StaysInBody piped lane1 0x1020 ∧ ¬StaysInBody piped lane1 0x1040) ∧
    (let k := regs base [(2, 0xFFFF000000001020)]
     CanIssue (on k .c) k .c 0 none [34] ∧ (src (on k .c) k .c 34).toNat % 2 ^ 48 = 0x1020) ∧
    (CanIssue (on marked .c) marked .c 0 none [] ∧ PredGood base .c 0 ∧ ¬PredGood marked .c 0) := by
  have hp : piped.lt.c.innermost = some (0, ⟨true, 2, 5, 0x1000, 0x1020, Frame.start, false, none, 0, 0, 0⟩) := by decide +kernel
  refine ⟨⟨can rfl (by decide +kernel), by decide +kernel, rfl, by decide, no_level_stays _ _, by decide +kernel, by decide +kernel⟩,
    ⟨can rfl (by decide +kernel), ?_, ?_⟩, ⟨can rfl (by decide +kernel), by decide +kernel⟩,
    ⟨can rfl (by decide +kernel), by unfold PredGood; decide +kernel, by unfold PredGood; decide +kernel⟩⟩
  · intro lv r h
    rw [hp] at h
    cases h
    decide
  · intro h
    exact absurd (h _ _ hp).2.2.2 (by decide)

/-- `base` with this return stack and call depth. -/
def called (st : List Nat) (depth : Nat) : Ctx := lit base fun l => { l with rstack := st, depth := depth }

/-- CCallsAndReturn: room, a full return stack, the greatest depth; RET with an entry, with a level, at depth 0, with no entry. -/
theorem witness_calls :
    (CanIssue (on base .c) base .c 0 none [] ∧ LastInLine base lane1 ∧ (0x1004 : Int) + 4 * (7 : BitVec 22).toInt = (0x1020 : Nat) ∧
      base.lt.depth ≠ 65535 ∧ base.lt.rstack.length ≠ 16) ∧
    (let k := called (List.replicate 16 0x20) 16
     CanIssue (on k .c) k .c 0 none [34] ∧ LastInLine k lane1 ∧ k.lt.depth ≠ 65535 ∧ k.lt.rstack.length = 16) ∧
    (let k := called [] 65535
     CanIssue (on k .c) k .c 0 none [] ∧ LastInLine k lane1 ∧ k.lt.depth = 65535) ∧
    (let k := called [0x40, 0x20] 2
     CanIssue (on k .c) k .c 0 none [] ∧ LastInLine k lane1 ∧ k.lt.c.innermost = none ∧ k.lt.depth ≠ 0 ∧ k.lt.rstack = 0x40 :: [0x20]) ∧
    (LastInLine piped lane1 ∧ piped.lt.c.innermost ≠ none) ∧
    (base.lt.c.innermost = none ∧ base.lt.depth = 0) ∧
    ((called [] 1).lt.c.innermost = none ∧ (called [] 1).lt.depth ≠ 0 ∧ (called [] 1).lt.rstack = []) := by
  refine ⟨⟨can rfl (by decide +kernel), ⟨rfl, rfl⟩, by decide, by decide, by decide⟩, ⟨can rfl (by decide +kernel), ⟨rfl, rfl⟩, by decide +kernel, by decide +kernel⟩,
    ⟨can rfl (by decide +kernel), ⟨rfl, rfl⟩, rfl⟩, ⟨can rfl (by decide +kernel), ⟨rfl, rfl⟩, by decide +kernel, by decide +kernel, rfl⟩,
    ⟨⟨rfl, rfl⟩, by decide +kernel⟩, ⟨by decide +kernel, rfl⟩, ⟨by decide +kernel, by decide +kernel, rfl⟩⟩

/-- 04 R131: a return goes to the line after the call. -/
theorem test_call_pushes_next_line :
    look (exec (.call 7) (on base .c)) 0 (fun k => (k.lt.rstack, k.lt.next, k.lt.depth)) = some ([0x1020], some 0x1020, 1) ∧
    look (exec .ret (on (called [0x40, 0x20] 2) .c)) 0 (fun k => (k.lt.rstack, k.lt.next, k.lt.depth)) = some ([0x20], some 0x40, 1) := by
  decide +kernel

/-- A plain level 1 of another frame that holds 20 lines. -/
def held : Ctx := lit base fun l => { l with c := l.c.setView 1 (some ⟨false, 1, 5, 0x8000, 0x8260, ⟨1, false⟩, false, none, 0, 0, 0⟩) }

/-- A plain level 2 around the line at 0x1000. -/
def plain : Ctx := lit base fun l => { l with c := l.c.setView 2 (some ⟨false, 1, 3, 0x1000, 0x1060, Frame.start, false, none, 0, 0, 0⟩) }

/-- CLoops: an outermost level of 32 lines, the greatest count, a nested level, a pipelined level with a stage map; count 0; a full loop
buffer; an active level, one outside the body of the enclosing level; LEXIT of a plain and of a pipelined level, and of none. -/
theorem witness_loops :
    (CanIssue (on base .c) base .c 0 none [] ∧ LastInLine base lane1 ∧ base.lt.c.view 0 = none ∧ base.lt.c.innermost = none ∧
      base.lt.c.heldLines + (31 + 1) ≤ 32) ∧
    (let k := regs base [(3, 0xFFFFFFFF)]
     CanIssue (on k .c) k .c 0 none [35] ∧ LastInLine k lane1 ∧ (src (on k .c) k .c 35).toNat ≤ 2 ^ 32 - 1) ∧
    (CanIssue (on plain .c) plain .c 0 none [] ∧ LastInLine plain lane1 ∧ plain.lt.c.view 0 = none ∧
      plain.lt.c.innermost = some (2, ⟨false, 1, 3, 0x1000, 0x1060, Frame.start, false, none, 0, 0, 0⟩) ∧ plain.lt.c.view 2 ≠ none) ∧
    (match (on base .c).stageMap (base.syncTake .c 0 []) 0x2000 0x1020 2 3 with
     | .ok rows => rows.length == 2
     | _ => false) = true ∧
    (CanIssue (on held .c) held .c 0 none [] ∧ LastInLine held lane1 ∧ held.lt.c.view 0 = none ∧ held.lt.c.innermost = none ∧
      ¬held.lt.c.heldLines + (31 + 1) ≤ 32) ∧
    (CanIssue (on piped .c) piped .c 0 none [] ∧ piped.lt.c.innermost ≠ none) := by
  refine ⟨⟨can rfl (by decide +kernel), ⟨rfl, rfl⟩, by decide +kernel, by decide +kernel, by decide +kernel⟩,
    ⟨can rfl (by decide +kernel), ⟨rfl, rfl⟩, by decide +kernel⟩,
    ⟨can rfl (by decide +kernel), ⟨rfl, rfl⟩, by decide +kernel, by decide +kernel, by decide +kernel⟩, by decide +kernel,
    ⟨can rfl (by decide +kernel), ⟨rfl, rfl⟩, by decide +kernel, by decide +kernel, by decide +kernel⟩,
    ⟨can rfl (by decide +kernel), by decide +kernel⟩⟩

/-- CLoopRegisters: a legal and three illegal entries; an oldest entry and none; a level at the bounds of its fields, and none. -/
theorem witness_loop_registers :
    (let k := regs (called [0x40, 0x20] 2) [(2, 0xFFFFFFFFFFE0), (3, 0x1000000000000), (4, 0x21)]
     CanIssue (on k .c) k .c 0 none [34] ∧ CanIssue (on k .c) k .c 0 (some 33) [] ∧ k.lt.rstack = [0x40] ++ [0x20] ∧
      (src (on k .c) k .c 34).toNat % 32 = 0 ∧ (src (on k .c) k .c 34).toNat < 2 ^ 48 ∧ ¬(src (on k .c) k .c 35).toNat < 2 ^ 48 ∧
      ¬(src (on k .c) k .c 36).toNat % 32 = 0) ∧
    (CanIssue (on base .c) base .c 0 (some 33) [] ∧ base.lt.rstack = []) ∧
    piped.lt.c.view 0 = some ⟨true, 2, 5, 0x1000, 0x1020, Frame.start, false, none, 0, 0, 0⟩ ∧ piped.lt.c.view 2 = none ∧
    (⟨.c, 100, 0, .rsbot, 0x20, false, []⟩ : Flight).tgt = .rsbot := by
  refine ⟨⟨can rfl (by decide +kernel), can rfl (by decide +kernel), rfl, by decide +kernel, by decide +kernel, by decide +kernel, by decide +kernel⟩,
    ⟨can rfl (by decide +kernel), rfl⟩, by decide +kernel, by decide +kernel, rfl⟩

/-- PrefixesAndHints: C; X with every token bit, S with none; a debugger attached or not. -/
theorem witness_prefixes : CanIssue (on base .c) base .c 0 none [] ∧ CanIssue (on base .x) base .x 0xF none [] ∧ CanIssue (on base .s) base .s 0 none [] ∧
    base.lt.frame = none ∧ base.lt.sys.dbgctl.getLsbD 0 = false ∧ (sysd base fun r => { r with dbgctl := 1 }).lt.sys.dbgctl.getLsbD 0 = true :=
  ⟨can rfl (by decide +kernel), can rfl (by decide +kernel), can rfl (by decide +kernel), rfl, by decide, by decide +kernel⟩

/-- 03 R85, R87: a REP of two repetitions leaves C's next word under the prefix, and the word runs twice. -/
theorem test_rep_repeats :
    look (exec (.rep 1 1 1 2) (on base .c)) 0 (fun k => k.lt.c.rep) = some (some ⟨3, 1, 1, 1, 0, false, []⟩) := by decide +kernel

/-! 11: device memory -/

/-- Tables at 0x1000 to 0x4000 that map 0x10000 to the page at 0x20000, readable, and 0x20000 to a scrub-pending one. -/
def tables : Memory :=
  ((((Memory.writeNat [] 0x1000 8 0x2001).writeNat 0x2000 8 0x3001).writeNat 0x3000 8 0x4001).writeNat 0x4008 8 0x20007).writeNat 0x4010 8 0x30027

/-- Translation: addresses at the bounds; a walk under way; a walk to a page, to a scrub-pending page; a first entry that is not valid. -/
theorem witness_translation :
    let s := { State.reset with mem := tables }
    let ok (t : Att Nat) : Option Nat := match t with
      | .ok pa => some pa
      | .wait _ => some 1
      | .trap c .. => some (c + 2 ^ 60)
    2 ^ 48 ≤ (2 ^ 48 : Nat) ∧ s.cached 0x1001 0x12345 = none ∧ (0x1001 : Word).getLsbD 0 = true ∧
    ok (s.translate 0 0x1001 0x12345 .read) = some 0x22345 ∧ ok (s.translate 0 0x1001 0x20000 .read) = some 1 ∧
    ok (s.translate 0 0x1001 0x12345 .write) = some (0x0A + 2 ^ 60) ∧ ok (s.translate 0 0x1001 0xFFFFFFFFFFFF .read) = some (0x09 + 2 ^ 60) ∧
    ok (s.translate 0 0x1001 (2 ^ 48) .read) = some (0x09 + 2 ^ 60) ∧ ok (s.translate 0 0x1000 0x12345 .read) = some (0x09 + 2 ^ 60) ∧
    bit (s.mem.readNat 0x1FF8 8) 0 = false ∧ s.walkWaits 0 0x1001 0x12345 = false ∧
    { s with walks := [⟨0, 0x12345, 0x1001, 0, 0, 3, 0x1000⟩] }.walkWaits 0 0x1001 0x12345 = true := by decide +kernel

/-- `base` with addresses in its registers: aligned, misaligned, not mapped; and with a snapshot of one word. -/
def addrs : Ctx := { regs base [(1, 0x100), (2, 0x101), (3, 0x20000), (4, 0xFFF8)] with snaps := [⟨0x10108, 0x1122334455667788⟩] }

/-- CLoadEffect, CStoreEffect: the first and the last word of a page, a word with a snapshot, a misaligned address, one that is not mapped, a
full FIFO, a store buffer with room and one without. -/
theorem witness_loads_stores :
    CanIssue (on addrs .c) addrs .c 0 none [33] ∧ CanIssue (on addrs .c) addrs .c 0 none [32, 33] ∧
    (on addrs .c).dataAddr addrs 0x100 .read = .ok 0x10100 ∧ (on addrs .c).dataAddr addrs 0xFFF8 .write = .ok 0x1FFF8 ∧
    (on addrs .c).dataAddr addrs 0x20000 .read = .trap 0x09 0x20000 3 true 0 [] ∧ (on addrs .c).dataAddr addrs 0x20000 .write = .trap 0x09 0x20000 3 true 0 [] ∧
    (src (on addrs .c) addrs .c 33).toNat = 0x100 ∧ (src (on addrs .c) addrs .c 34).toNat % 8 ≠ 0 ∧ RoomIn addrs .ld ∧
    addrs.snaps.find? (fun y => y.pa == 0x10108) = some ⟨0x10108, 0x1122334455667788⟩ ∧ addrs.snaps.find? (fun y => y.pa == 0x10100) = none ∧
    addrs.lt.stores = [] ∧ addrs.frags = [] ∧ (on addrs .c).pubs = [] ∧ addrs.sbw = 4 ∧
    (let k := lit addrs fun l => l.setFifo .ld ⟨[], 32⟩
     CanIssue (on k .c) k .c 0 none [33] ∧ ¬RoomIn k .ld) ∧
    (let k := sysd addrs fun r => { r with ctxarea := 0 }
     CanIssue (on k .c) k .c 0 none [32, 33] ∧ k.sbw = 0 ∧ (overlay [] (storeEntry 3 0x100 0x10100 5)).length = 1) := by
  refine ⟨can rfl (by decide +kernel), can rfl (by decide +kernel), rfl, rfl, rfl, rfl, by decide +kernel, by decide +kernel, by unfold RoomIn; decide +kernel,
    rfl, rfl, rfl, rfl, rfl, by decide +kernel, ⟨can rfl (by decide +kernel), by unfold RoomIn; decide +kernel⟩,
    ⟨can rfl (by decide +kernel), by decide +kernel, by decide +kernel⟩⟩

/-- 11 R323, R326: a load of the byte after lo4 and hi4 stores reads both nibbles; R341: a load gives what the snapshot holds. -/
theorem test_store_buffer_and_snapshot :
    overWord (overlay (overlay [] (storeEntry 4 0x101 0x10101 0xA)) (storeEntry 5 0x101 0x10101 0xB)) 0x10100 0xFFFF = 0xBAFF ∧
    look (exec (.ld 33 4 8) (on addrs .c)) 0 (fun k => k.loads.map (·.val)) = some [0x88] ∧
    look (exec (.ld 33 2 12) (on addrs .c)) 0 (fun k => k.loads.map (·.val)) = some [0x11223344] := by decide +kernel

/-- StoreBufferReads: a byte at the end of the word, the whole word, a nibble. -/
theorem witness_store_bytes : (0x10107 % 8 + 1 ≤ 8 ∧ 0x10100 % 8 + 8 ≤ 8) ∧ (3 ≤ 5 ∧ 5 ≤ 5) := by decide

/-- `base` with scratchpad offsets in its registers: in the middle, the last word, misaligned, outside. -/
def offs : Ctx := regs base [(1, 0x100), (2, 0xFFF8), (3, 0x101), (4, 0x10000)]

/-- CScratchpadAccess: the last word of the partition, a misaligned offset and one outside; the last spill slot, marked and not, and the one after it. -/
theorem witness_scratchpad :
    CanIssue (on offs .c) offs .c 0 (some 32) [34] ∧ CanIssue (on offs .c) offs .c 0 none [32, 34] ∧ OffOk offs 0xFFF8 8 ∧
    AccessOk (on offs .c) offs .c [(0xFFF8, 0x10000)] [] ∧ AccessOk (on offs .c) offs .c [] [(0xFFF8, 0x10000)] ∧ (offs.pends = [] ∧ offs.engineWrites = []) ∧
    (src (on offs .c) offs .c 34).toNat = 0xFFF8 ∧ (src (on offs .c) offs .c 35).toNat % 8 ≠ 0 ∧
    offs.spSize < (src (on offs .c) offs .c 36).toNat + 8 ∧ (1 : BitVec 14).toNat < offs.nspill ∧ offs.nspill ≤ (2 : BitVec 14).toNat ∧
    (offs.lt.bad.contains (.spill 1) = false ∧ marked.lt.bad.contains (.spill 1) = true ∧ (1 : BitVec 14).toNat < marked.nspill ∧
      CanIssue (on marked .c) marked .c 0 (some 32) []) ∧
    CanIssue (on offs .c) offs .c 0 (some 32) [] ∧ CanIssue (on offs .c) offs .c 0 none [34] :=
  ⟨can rfl (by decide +kernel), can rfl (by decide +kernel), by unfold OffOk; decide +kernel, free (by decide +kernel), free (by decide +kernel), ⟨rfl, rfl⟩,
    by decide +kernel, by decide +kernel, by decide +kernel, by decide, by decide,
    ⟨by decide, by decide, by decide, can rfl (by decide +kernel)⟩, can rfl (by decide +kernel), can rfl (by decide +kernel)⟩

/-- CAtomicsAndFence: an aligned word, a misaligned one, one that is not mapped, a full FIFO. -/
theorem witness_atomics :
    CanIssue (on addrs .c) addrs .c 0 none [33, 34] ∧ CanIssue (on addrs .c) addrs .c 0 none [33, 34, 34 + 1] ∧ CanIssue (on addrs .c) addrs .c 0 none [33] ∧
    (on addrs .c).dataAddr addrs 0x100 .readWrite = .ok 0x10100 ∧ (on addrs .c).dataAddr addrs 0x20000 .readWrite = .trap 0x09 0x20000 3 true 0 [] ∧
    RoomIn addrs .atom ∧ (src (on addrs .c) addrs .c 34).toNat % 8 ≠ 0 ∧ CanIssue (on addrs .c) addrs .c 0 none [] ∧
    (let k := lit addrs fun l => l.setFifo .atom ⟨[], 16⟩
     CanIssue (on k .c) k .c 0 none [33] ∧ ¬RoomIn k .atom) := by
  refine ⟨can rfl (by decide +kernel), can rfl (by decide +kernel), can rfl (by decide +kernel), rfl, rfl, by unfold RoomIn; decide +kernel, by decide +kernel,
    can rfl (by decide +kernel), can rfl (by decide +kernel), by unfold RoomIn; decide +kernel⟩

/-- `base` with two atomics in flight: the oldest has taken effect, the other has not. -/
def atoms2 : Ctx := { base with atoms := [⟨0, 0, 0, 0x10100, 1, 0, some ⟨5, [], []⟩, 0, none, 0⟩, ⟨9, 0, 0, 0x10108, 5, 7, none, 0, none, 1⟩] }

/-- A courier store of 8 KiB in flight that has not moved. -/
def cmd0 : Cmd := { (default : Cmd) with kind := .store, len := 8192, size := 8192, final := 110, postmark := 112, first := 100, slot := 3, begun := true, admitted := true }

/-- AtomicTakesEffect: one that takes effect, on a good word and on a marked one; a release behind a command; the oldest one, which posts. -/
theorem witness_atomic_effect :
    (on atoms2 .c).ctx 0 = some atoms2 ∧ atoms2.atoms[1]? = some ⟨9, 0, 0, 0x10108, 5, 7, none, 0, none, 1⟩ ∧ (on atoms2 .c).mem.wf = true ∧
    (on atoms2 .c).atomReady 0 atoms2 1 = true ∧ (on atoms2 .c).poison.contains (.dev (0x10108 / 8)) = false ∧
    atoms2.atoms[0]? = some ⟨0, 0, 0, 0x10100, 1, 0, some ⟨5, [], []⟩, 0, none, 0⟩ ∧
    { on atoms2 .c with poison := [.dev (0x10108 / 8)] }.poison.contains (.dev (0x10108 / 8)) = true ∧
    (let k := { atoms2 with atoms := [⟨0, 2, 0, 0x10100, 1, 0, none, 0, none, 1⟩], cmds := [cmd0] }
     (∃ c ∈ k.cmds, c.ord < 1) ∧ ∀ c ∈ k.cmds, c.paused = false) := by
  refine ⟨rfl, by decide +kernel, by decide +kernel, by decide +kernel, by decide +kernel, by decide +kernel, by decide +kernel, by decide +kernel⟩

/-- 11 R343: a compare and swap that finds what it expects writes its new value, one that does not leaves the word. -/
theorem test_compare_and_swap :
    let m (w : Nat) := match exec (.atomicEffect 0 1) { on atoms2 .c with mem := Memory.writeNat [] 0x10108 8 w } with
      | .next t => t.mem.readNat 0x10108 8
      | _ => 0
    m 5 = 7 ∧ m 6 = 6 := by decide +kernel

/-- `base` with one word in its store buffer. -/
def stored : Ctx := lit base fun l => { l with stores := [⟨0x100, 0x10100, 0x000F, 0xAABB⟩] }

/-- CFixAndSwap: an empty buffer and one that holds a word; a pair that is declared and one that is not; the publication. -/
theorem witness_fix :
    (CanIssue (on base .c) base .c 0 none [] ∧ base.lt.stores = [] ∧ base.atoms = [] ∧ Calm base) ∧
    (CanIssue (on stored .c) stored .c 0 none [] ∧ stored.lt.stores ≠ []) ∧
    (let k := sysd (regs base [(1, 1), (2, 2)]) fun r => { r with dbuf := r.dbuf.setIfInBounds 0 (BitVec.twoPow 64 48) }
     CanIssue (on k .c) k .c 0 none [33] ∧ CanIssue (on k .c) k .c 0 none [34] ∧ k.lt.hold = .none ∧
      (∀ j < 4, (src (on k .c) k .c 33).toNat % 16 / 2 ^ j % 2 = 1 → (k.lt.sys.dbuf[j]?.getD 0).getLsbD 48 = true) ∧
      ¬∀ j < 4, (src (on k .c) k .c 34).toNat % 16 / 2 ^ j % 2 = 1 → (k.lt.sys.dbuf[j]?.getD 0).getLsbD 48 = true) ∧
    (let k := lit stored fun l => { l with hold := .fix }
     (on k .c).ctx 0 = some k ∧ k.res = .resident ∧ k.lt.hold = .fix ∧ (on k .c).overtaken 0 k = false ∧ (k.strm .c).lastIssue < (on k .c).cycle ∧
      k.atoms = [] ∧ (on k .c).mem.wf = true ∧ k.lt.stores.Nodup ∧ Calm k) ∧
    (let k := lit stored fun l => { l with hold := .swap 1 }
     (on k .c).ctx 0 = some k ∧ k.lt.hold = .swap 1 ∧ (on k .c).overtaken 0 k = false ∧
       (match exec (.fixPublication 0) (on k .c) with
         | .next t => (t.ctx 0).map fun k => (k.lt.hold == .none, k.lt.sys.dbuf[0]?, k.lt.stores.length)
         | _ => none) = some (true, some (BitVec.twoPow 64 49), 0)) ∧
    (let k := lit stored fun l => { l with hold := .barFix 3 2 }
     (on k .c).ctx 0 = some k ∧ k.lt.hold = .barFix 3 2 ∧ (((on k .c).slice k.slice).barrier 3).release = none ∧
       (match exec (.fixPublication 0) (on k .c) with
         | .next t => (((t.slice k.slice).barrier 3).n, ((t.slice k.slice).barrier 3).arrived, ((t.slice k.slice).barrier 3).release)
         | _ => (0, [], none)) = (2, [0], none)) := by
  refine ⟨⟨can rfl (by decide +kernel), rfl, rfl, by unfold Calm; decide⟩, ⟨can rfl (by decide +kernel), by decide +kernel⟩,
    ⟨can rfl (by decide +kernel), can rfl (by decide +kernel), rfl, by decide +kernel, by decide +kernel⟩,
    ⟨rfl, rfl, rfl, by decide +kernel, by decide +kernel, rfl, by decide +kernel, by decide +kernel, by unfold Calm; decide⟩,
    ⟨rfl, rfl, by decide +kernel, by decide +kernel⟩, ⟨rfl, rfl, by decide +kernel, by decide +kernel⟩⟩

/-- 11 R324: publication writes the nibbles that were stored, and no others of their word. -/
theorem test_publication_writes_nibbles :
    (match exec (.fixPublication 0) { on (lit stored fun l => { l with hold := .fix }) .c with mem := Memory.writeNat [] 0x10100 8 0x1111111111111111 } with
     | .next t => t.mem.readNat 0x10100 8
     | _ => 0) = 0x111111111111AABB := by decide +kernel

/-- CBarrier: the least and the greatest count, a count of 0 and one of 769, a count that differs from the generation's; with buffered stores. -/
theorem witness_barrier :
    (let k := regs base [(1, 1), (2, 0x30300), (3, 0), (4, 0x301)]
     let n (v : Spec) := (src (on k .c) k .c v).toNat % 2 ^ 16
     CanIssue (on k .c) k .c 0 none [33] ∧ CanIssue (on k .c) k .c 0 none [34] ∧ n 33 = 1 ∧ n 34 = 768 ∧ n 35 = 0 ∧ n 36 = 769 ∧ k.lt.hold = .none ∧
      ((on k .c).slice k.slice).barrier 3 = ⟨0, [], none, 0⟩) ∧
    (let k := regs stored [(1, 1)]
     CanIssue (on k .c) k .c 0 none [33] ∧ k.lt.stores ≠ []) ∧
    (let s := (on base .c).setSlice 0 { Slice.reset with barriers := Slice.reset.barriers.setIfInBounds 0 ⟨2, [5], none, 0⟩ }
     ((s.slice 0).barrier 0).arrived ≠ [] ∧ ((s.slice 0).barrier 0).release = none ∧ ((s.slice 0).barrier 0).n ≠ 1) := by
  refine ⟨⟨can rfl (by decide +kernel), can rfl (by decide +kernel), by decide +kernel, by decide +kernel, by decide +kernel, by decide +kernel, rfl, by decide +kernel⟩,
    ⟨can rfl (by decide +kernel), by decide +kernel⟩, by decide +kernel⟩

/-! Result FIFOs, barriers, tokens, system registers, traps (03, 07, 09, 12) -/

/-- `base` with one entry in each result FIFO. -/
def filled (bad : List Loc) : Ctx := lit base fun l => { l with fifos := Vector.replicate 6 ⟨[⟨0x8123456789ABC0DE, bad, []⟩], 0⟩ }

/-- PopsResultFifo: an entry, a marked entry, none. -/
theorem witness_pops :
    (CanIssue (on (filled []) .c) (filled []) .c 0 (some 33) [] ∧ CanIssue (on (filled []) .x) (filled []) .x 0xF (some 33) [] ∧
      ((filled []).lt.fifo .tx).entries = ⟨0x8123456789ABC0DE, [], []⟩ :: []) ∧
    (CanIssue (on (filled [.dev 0]) .c) (filled [.dev 0]) .c 0 (some 33) [] ∧ ((filled [.dev 0]).lt.fifo .ld).entries = ⟨0x8123456789ABC0DE, [.dev 0], []⟩ :: []) ∧
    (CanIssue (on base .s) base .s 0 (some 33) [] ∧ (base.lt.fifo .co).entries = []) :=
  ⟨⟨can rfl (by decide +kernel), can rfl (by decide +kernel), rfl⟩, ⟨can rfl (by decide +kernel), rfl⟩, can rfl (by decide +kernel), rfl⟩

/-- 07 R244: MSTAT of field 1 gives bits 23:12 of the status word; 03 R82: EPOP in mode f of an empty FIFO gives 0 and a false predicate. -/
theorem test_pop_fields :
    look (exec (.mstat 0 33 0 0 1) (on (filled []) .x)) 0 (fun k => k.lt.flights.map fun f => f.val) = some [0xABC] ∧
    look (exec (.epop 33 2 1 2) (on base .c)) 0 (fun k => k.lt.flights.map fun f => (f.tgt, f.val)) = some [(.g 1, 0), (.pred 2, 0)] := by
  decide +kernel

/-- `base` with barrier 7 in this phase and values in its registers. -/
def barr (p : CbPhase) : Ctx := lit (regs base [(1, 255), (2, 256), (3, 0)]) fun l => l.setCbar 7 { CBar.reset with phase := p, count := 2, done := 2 }

/-- CompletionBarriers: 0, 255 and 256 members; a barrier in each phase. -/
theorem witness_barriers :
    CanIssue (on (barr .complete) .c) (barr .complete) .c 0 none [33] ∧ CanIssue (on (barr .armed) .x) (barr .armed) .x 0xF (some 33) [] ∧
    CanIssue (on (barr .complete) .c) (barr .complete) .c 0 (some 33) [] ∧
    (src (on (barr .idle) .c) (barr .idle) .c 33).toNat = 255 ∧ (src (on (barr .idle) .c) (barr .idle) .c 34).toNat = 256 ∧
    (src (on (barr .idle) .c) (barr .idle) .c 35).toNat = 0 ∧
    ([CbPhase.idle, .armed, .complete, .error].map fun p => ((barr p).lt.cbar 7).phase) = [CbPhase.idle, .armed, .complete, .error] ∧
    ((barr .idle).lt.cbar 7).done < 2 ^ 8 ∧ ((barr .idle).lt.cbar 7).count < 2 ^ 8 ∧ ((barr .idle).lt.cbar 7).fault < 2 ^ 8 ∧
    ((barr .idle).lt.cbar 7).index < 2 ^ 16 ∧ ((barr .idle).lt.cbar 7).ftag < 2 ^ 8 :=
  ⟨can rfl (by decide +kernel), can rfl (by decide +kernel), can rfl (by decide +kernel), by decide +kernel⟩

/-- A command that has not completed, due by cycle 90. -/
def pendingCmd : Cmd := { (default : Cmd) with postmark := 90 }

/-- WaitsAndSignals: a cycle that has come and one that has not, the present one; a stream that waits; a command that has not completed; tokens at 0, between and at 255;
each direction. -/
theorem witness_waits :
    (let k := regs base [(1, 100), (2, 101), (3, 0)]
     CanIssue (on k .c) k .c 0 none [33] ∧ CanIssue (on k .x) k .x 0xF none [34] ∧ k.lt.frame = none ∧ (k.strm .c).wait = none ∧
      (src (on k .c) k .c 33).toNat ≤ (on k .c).cycle ∧ (∀ c ∈ k.cmds, c.postmark ≤ 100 → c.event = true) ∧ ¬(src (on k .c) k .c 34).toNat ≤ (on k .c).cycle) ∧
    (let k := lit base fun l => { l with c := { l.c with wait := some 100 }, x := { l.x with wait := some 101 } }
     (on k .x).ctx 0 = some k ∧ (k.strm .c).wait = some 100 ∧ (k.strm .x).wait = some 101) ∧
    (¬∀ c ∈ { base with cmds := [pendingCmd] }.cmds, c.postmark ≤ 100 → c.event = true) ∧
    CanIssue (on base .c) base .c 0 none [] ∧ Sparse.get base.dtokens 1 = some .seqToCtx ∧ Sparse.get base.dtokens 0 = some .ctxToSeq ∧
    Sparse.get base.dtokens 7 = none ∧ base.lt.tk[1]?.getD 0 = 0 ∧ ((lit base fun l => { l with tk := l.tk.setIfInBounds 0 255 }).lt.tk[0]?.getD 0) = 255 ∧
    (let k := lit base fun l => { l with owed := l.owed.setIfInBounds 0 1 }
     (k.lt.owed[0]?.getD 0) = 1 ∧ look (exec (.sigk 0) (on k .c)) 0 (fun k => (k.lt.owed[0]?, k.lt.tk[0]?)) = some (some 0, base.lt.tk[0]?)) := by
  refine ⟨⟨can rfl (by decide +kernel), can rfl (by decide +kernel), rfl, rfl, by decide +kernel, by decide +kernel, by decide +kernel⟩, ⟨rfl, rfl, rfl⟩,
    by decide +kernel, can rfl (by decide +kernel), by decide +kernel⟩

/-- 10 R307: a WAITC whose cycle has not come holds its stream with the value it has read. -/
theorem test_waitc_holds :
    let k := regs base [(2, 101)]
    look (exec (.waitc 34) (on k .c)) 0 (fun k => (k.lt.c.wait, k.lt.c.queue.length)) = some (some 101, 1) ∧
    look (exec (.waitc 34) { on (lit k fun l => { l with c := { l.c with wait := some 101 } }) .c with cycle := 101 }) 0 (fun k =>
      (k.lt.c.wait, k.lt.c.queue.length)) = some (none, 0) := by decide +kernel

/-- `base` at kernel level. -/
def kern : Ctx := { base with kernelLvl := true }

/-- CSystemRegisters: a register of each kind, at each level; reserved bits set and clear; a tag that the context holds and one that it does not. -/
theorem witness_system_registers :
    (CanIssue (on base .c) base .c 0 (some 33) [] ∧ CanIssue (on kern .c) kern .c 0 (some 33) [] ∧ CanIssue (on base .c) base .c 0 none [33] ∧
      CanIssue (on kern .c) kern .c 0 none [33]) ∧
    (kern.kernelLvl = true ∧ base.kernelLvl = false ∧ base.lt.sys.tagown.getLsbD 31 = false ∧
      (sysd base fun r => { r with tagown := 0x80000000 }).lt.sys.tagown.getLsbD 31 = true) ∧
    (sysOwnRow 0x008 = false ∧ sysValueOk 0x008 7 = true ∧ sysValueOk 0x008 8 = false ∧ sysOwnRow 0x001 = false ∧ sysOwnRow 0x060 = false ∧
      sysValueOk 0x060 0 = true ∧ (on kern .c).kernelWriteOk 0 kern 0x060 0 = true ∧ sysOwnRow 0x00D = false ∧ sysOwnRow 0x0FF = false) :=
  ⟨⟨can rfl (by decide +kernel), can rfl (by decide +kernel), can rfl (by decide +kernel), can rfl (by decide +kernel)⟩, by decide +kernel, by decide +kernel⟩

/-- SystemWriteReads: a legal value for a register of each kind; a tag that passes and one that stays. -/
theorem witness_system_writes : sysValueOk 0x000 7 = true ∧ sysValueOk 0x049 0xFF = true ∧ sysValueOk 0x04C 0 = true ∧ sysValueOk 0x030 0xFFFFFFFF = true ∧
    sysValueOk 0x080 0 = true ∧ sysValueOk 0x048 0 = true ∧ sysValueOk 0x063 0x80000001 = true ∧ (base.lt.sys.tagown ^^^ 0x80000001).getLsbD 31 = true ∧
    (base.lt.sys.tagown ^^^ 0x80000001).getLsbD 30 = false := by decide +kernel

/-- `base` with an enabled tag 3 over its first 512 bytes, and values for tag 31 in its registers. -/
def tagged : Ctx := regs (sysd base fun r => { r with
    tagown := 0x80000008, tags := (r.tags.setIfInBounds 3 { Tag.reset with en := true }) })
  [(1, 0x100000001), (2, 0x10000007F), (3, 0x100000080), (4, 0x100000000000)]

/-- CRegisterWrites, tags: held and not; legal, busy, outside the partition by one block, reserved bits set. -/
theorem witness_tag_writes :
    CanIssue (on tagged .c) tagged .c 0 none [33] ∧ tagged.lt.sys.tagown.getLsbD 31 = true ∧ ¬(tagged.kernelLvl = true ∨ tagged.lt.sys.tagown.getLsbD 0 = true) ∧
    tagged.tagBusy 31 = false ∧ (let k := sysd tagged fun r => { r with tags := r.tags.setIfInBounds 31 { Tag.reset with wadm := 1 } }
      k.tagBusy 31 = true ∧ k.lt.sys.tagown.getLsbD 31 = true) ∧
    (src (on tagged .c) tagged .c 33).toNat < 2 ^ 44 ∧ (src (on tagged .c) tagged .c 33).getLsbD 32 = true ∧ 2 * 512 ≤ tagged.spSize ∧
    (∀ j < 32, j ≠ 31 → (tagged.tagAt j).en = true → 2 * 512 ≤ (tagged.tagAt j).range.1 ∨ (tagged.tagAt j).range.2 ≤ 512) ∧
    (src (on tagged .c) tagged .c 34).toNat % 2 ^ 12 * 512 + 512 ≤ tagged.spSize ∧ tagged.spSize < (src (on tagged .c) tagged .c 35).toNat % 2 ^ 12 * 512 + 512 ∧
    2 ^ 44 ≤ (src (on tagged .c) tagged .c 36).toNat ∧
    (let k := sysd tagged fun r => { r with tags := r.tags.setIfInBounds 3 { Tag.reset with base := 1, en := true } }
     (k.tagAt 3).en = true ∧ (k.tagAt 3).range = (512, 1024) ∧ k.tagBusy 31 = false ∧
       look (exec (.wrsysTag 31 33) (on k .c)) 0 (fun k => k.lt.faults.map (·.code)) = some [0x02]) :=
  ⟨can rfl (by decide +kernel), by decide +kernel⟩

/-- CRegisterWrites, the others: values at the bounds of each register; a boundary that has settled and one that has not. -/
theorem witness_register_writes :
    (let k := regs base [(1, 0xFF), (2, 0x100), (3, 4096), (4, 0), (5, 0x3000000000000), (6, 0x4000000000000), (7, 2), (8, 3), (9, 0x10)]
     let v (n : Spec) := (src (on k .c) k .c n).toNat
     CanIssue (on k .c) k .c 0 none [33] ∧ v 33 < 2 ^ 8 ∧ 2 ^ 8 ≤ v 34 ∧ v 35 ≤ 4096 ∧ v 36 = 0 ∧ v 37 < 2 ^ 50 ∧ 2 ^ 50 ≤ v 38 ∧
      v 39 % 2 ^ 4 ≤ k.accCnt ∧ ¬v 40 % 2 ^ 4 ≤ k.accCnt ∧ ¬v 41 / 2 ^ 4 % 2 ^ 12 = 0 ∧ k.mats = [] ∧ k.pends = [] ∧
      k.unitsBusy (k.accCnt - Nat.max 2 k.bndUnits) k.accCnt = false ∧ (k.lt.sys.bndshape.getLsbD 48 = false) ∧ 0 + 2 * 1 ≤ 2 ^ 32) ∧
    (let k := regs (sysd base fun r => { r with dbuf := r.dbuf.setIfInBounds 1 (BitVec.ofNat 64 (2 ^ 48 + 2 ^ 32 + 7)) })
       [(1, 2 ^ 48 + 2 ^ 32 + 5), (2, 2 ^ 48 + 2 ^ 32 + 6), (3, 2 ^ 48 + 2 ^ 32 + 2 ^ 32 - 1)]
     CanIssue (on k .c) k .c 0 none [33] ∧
       [33, 34, 35].map (fun a => look (exec (.wrsysDbuf 0 a) (on k .c)) 0 (fun k => k.lt.faults.map (·.code))) = [some [], some [0x02], some [0x02]]) ∧
    (let k := { base with mats := [{ (default : MatOp) with kind := .tcon }] }
     ¬(∀ m ∈ k.mats, m.kind ≠ .tcon ∧ m.kind ≠ .cplan) ∧ CanIssue (on k .c) k .c 0 none [33]) ∧
    (let k := regs kern [(1, 0x10000 + 16)]
     let v := (src (on k .c) k .c 33).toNat
     k.kernelLvl = true ∧ CanIssue (on k .c) k .c 0 none [33] ∧ v / 2 ^ 6 % 2 ^ 10 = 0 ∧ v < 2 ^ 48 ∧ 16 ≤ v % 2 ^ 6 ∧ v % 2 ^ 6 ≤ 48 ∧
      v / 2 ^ 16 % 2 ^ 32 * 2 ^ 16 % 2 ^ (v % 2 ^ 6) = 0 ∧ (on k .c).walksIn 0x10000 (2 ^ 16) = false ∧
      { on k .c with walks := [⟨0, 0x12345, 0x1001, 0, 0, 2, 0x1000⟩] }.walksIn 0x10000 (2 ^ 16) = true) := by
  refine ⟨⟨can rfl (by decide +kernel), by decide +kernel⟩, ⟨can rfl (by decide +kernel), by decide +kernel⟩, ⟨by decide +kernel, can rfl (by decide +kernel)⟩, ⟨rfl, can rfl (by decide +kernel), by decide +kernel⟩⟩

/-- CTraps: a token left and none; the kernel there and not; a slice-end notice and none, with and without work in the engines. -/
theorem witness_traps :
    CanIssue (on base .c) base .c 0 none [33] ∧ CanIssue (on base .c) base .c 0 (some 33) [33] ∧ (base.lt.ctr .lx).vis ≠ 0 ∧
    (let k := lit base fun l => { l with ctrs := Light.reset.ctrs }
     CanIssue (on k .c) k .c 0 none [33] ∧ (∀ c : Ctr, (k.lt.ctr c).vis = 0) ∧ ∀ p : Pipe, (k.syncTake .c 0 [33]).lt.pipe p = []) ∧
    base.notice = none ∧ (on base .c).kernelDown = false ∧ { on base .c with mgmt := { Mgmt.reset with boot := .safelight } }.kernelDown = true ∧
    (let k := { base with notice := some 90, cmds := [cmd0] }
     CanIssue (on k .c) k .c 0 none [33] ∧ k.notice ≠ none ∧ (on k .c).atWork 0 k = true) ∧
    (let k := { base with notice := some 90 }
     CanIssue (on k .c) k .c 0 none [33] ∧ k.notice ≠ none ∧ k.engineBusy = false ∧ (on k .c).running 0 = false ∧ k.pends = []) := by
  refine ⟨can rfl (by decide +kernel), can rfl (by decide +kernel), by decide +kernel, ⟨can rfl (by decide +kernel), ?_, ?_⟩, rfl, by decide +kernel, by decide +kernel,
    ⟨can rfl (by decide +kernel), by decide +kernel⟩, ⟨can rfl (by decide +kernel), by decide +kernel⟩⟩
  · intro c; cases c <;> rfl
  · intro p; cases p <;> rfl

/-- `base` with a handler enabled at 0x3000 and a fault raised. -/
def faulted (code : Nat) : Ctx := lit (sysd base fun r => { r with tvec := 0x3001 }) fun l =>
  { l with faults := [⟨.l, code, true, false, 0x1004, 0x77, 5, 2, 0, false, 0, 99, none, [], 0⟩] }

/-- TrapEntryToHandler and KernelEndsAndReplies: a fault of each of the codes that a tenant may take, one that it may not. -/
theorem witness_trap_entry :
    (∀ code ∈ [0x09, 0x0B, 0x0D, 0x10, 0x19, 0x1C, 0x1D, 0x02], (on (faulted code) .c).ctx 0 = some (faulted code) ∧
      (faulted code).nextFault = some ⟨.l, code, true, false, 0x1004, 0x77, 5, 2, 0, false, 0, 99, none, [], 0⟩ ∧ (faulted code).trapReady 100 = true) ∧
    (faulted 0x09).lt.sys.tvec.getLsbD 0 = true ∧ (faulted 0x09).lt.frame = none ∧ (match (on (faulted 0x09) .c).frameAt (faulted 0x09) with
      | .ok (some pa) => pa == 0x10000
      | _ => false) = true ∧
    (match { on (faulted 0x09) .c with tlb := [] }.frameAt (faulted 0x09) with
      | .ok none => true
      | _ => false) = true ∧ (on (faulted 0x09) .c).mem.wf = true ∧ (on (faulted 0x02) .c).kernelDown = false ∧
    (faulted 0x02).handlerTakes 0x02 = false ∧ base.handlerTakes 0x09 = false ∧ (faulted 0x11).handlerTakes 0x11 = false ∧
    (let r : SeqRun := ⟨0, 5, 0, 7, Vector.replicate 16 0, Vector.replicate 4 [], [], 0, false, 0, []⟩
     let s := (on (faulted 0x11) .c).setCore 0 { (on (faulted 0x11) .c).core 0 with seq := { (on (faulted 0x11) .c).core 0 |>.seq with run := some r } }
     look (exec (.trapEntry 0) s) 0 (fun k => k.xfRun.map fun r => (r.pc, r.gives)) = some (some (7, true))) ∧
    (let k := lit base fun l => { l with hold := .kernel 2 5 (.g 31) }
     (on k .c).ctx 0 = some k ∧ k.lt.hold = .kernel 2 5 (.g 31) ∧ k.res = .resident) := by
  refine ⟨?_, rfl, rfl, by decide +kernel, by decide +kernel, by decide +kernel, by decide +kernel, by decide +kernel, by decide +kernel, by decide +kernel, by decide +kernel, ⟨rfl, rfl, rfl⟩⟩
  intro code _
  exact ⟨rfl, rfl, rfl⟩

/-- The frame of a handler entered for a fault of L at the line at 0x1000. -/
def frame0 : TrapFrame where
  q := Vector.replicate 4 (Vector.replicate 16 1)
  p := Vector.replicate 4 (Vector.replicate 8 true)
  queues := Vector.replicate 4 [.lane lane1]
  reps := Vector.replicate 4 none
  votes := Vector.replicate 4 none
  waits := Vector.replicate 4 none
  frames := Vector.replicate 4 Frame.start
  views := Vector.replicate 4 StreamState.reset.views
  pipes := Vector.replicate 6 [3]
  ctrs := Vector.replicate 4 ⟨2, 0⟩
  line := 0x1000
  next := none
  depth := 0
  strm := .l
  sync := true
  byInstr := true
  ord := 0
  bad := []

/-- `base` in that handler: L, X and S still have a word to issue, or not. -/
def lagging : Ctx := lit base fun l => { l with frame := some frame0, ctrs := Light.reset.ctrs }
def handling : Ctx := lit lagging fun l => { l with l := StreamState.reset, x := StreamState.reset, s := StreamState.reset }

/-- TrapReturn: no frame; a handler that may return; one that waits for its streams; one at another depth, one with a level, one with a token left. -/
theorem witness_trap_return :
    (CanIssue (on base .c) base .c 0 none [] ∧ (base.lane .c).later = false ∧ base.lt.frame = none) ∧
    (CanIssue (on handling .c) handling .c 0 none [] ∧ (handling.lane .c).later = false ∧ handling.lt.frame = some frame0 ∧
      handling.lt.c.innermost = none ∧ handling.lt.depth = frame0.depth ∧ (∀ c : Ctr, handling.lt.ctr c = ⟨0, 0⟩) ∧ (∀ p : Pipe, handling.lt.pipe p = []) ∧
      (∀ p : Pipe, ∀ x ∈ handling.lt.flights, x.tgt ≠ .pipe p) ∧ handling.lt.flights = [] ∧ ∀ st, st ≠ .c → laneCount (handling.strm st).queue = 0) ∧
    (CanIssue (on lagging .c) lagging .c 0 none [] ∧ lagging.lt.frame = some frame0 ∧ lagging.lt.c.innermost = none ∧ lagging.lt.depth = frame0.depth ∧
      (∀ c : Ctr, lagging.lt.ctr c = ⟨0, 0⟩) ∧ (∀ p : Pipe, lagging.lt.pipe p = [] ∧ ∀ x ∈ lagging.lt.flights, x.tgt ≠ .pipe p) ∧
      lagging.handlerDone = false) ∧
    (lit handling fun l => { l with depth := 1 }).lt.depth ≠ frame0.depth ∧ (lit handling fun l => { l with c := piped.lt.c }).lt.c.innermost ≠ none ∧
    ¬(lit handling fun l => { l with ctrs := base.lt.ctrs }).lt.ctr .lx = ⟨0, 0⟩ := by
  refine ⟨⟨can rfl (by decide +kernel), rfl, rfl⟩,
    ⟨can rfl (by decide +kernel), rfl, rfl, by decide +kernel, rfl, ?_, ?_, fun _ _ h => by simp [handling, lagging, lit, base, Light.reset] at h, rfl, ?_⟩,
    ⟨can rfl (by decide +kernel), rfl, by decide +kernel, rfl, ?_, fun p => ⟨by cases p <;> rfl, fun _ h => by simp [lagging, lit, base, Light.reset] at h⟩,
      by decide +kernel⟩,
    by decide, by decide +kernel, by decide +kernel⟩
  · intro c; cases c <;> rfl
  · intro p; cases p <;> rfl
  · intro st h; cases st <;> first | exact absurd rfl h | rfl
  · intro c; cases c <;> rfl

/-- 12 R358, R361: entry of a trap saves the queue, and ERET.SKIP gives it back without the word that trapped. -/
theorem test_trap_and_return :
    look (exec (.trapEntry 0) (on (faulted 0x09) .c)) 0 (fun k => (k.lt.next, k.lt.sys.tpc, k.lt.sys.tcause.toNat % 4096)) =
      some (some 0x3000, 0x1004, 0x09 + 2 ^ 8 + 2 ^ 10 + 2 ^ 11) ∧
    look (exec .eretSkip (on handling .c)) 0 (fun k => (k.lt.l.queue.length, k.lt.x.queue.length, k.lt.line)) = some (0, 1, 0x1000) := by
  decide +kernel

/-! 05: region words -/

/-- The region that a register of X describes. -/
def rg (k : Ctx) (v : Spec) : Rgn := Rgn.ofWord (src (on k .x) k .x v)

/-- `base` with regions of four elements of a type in its registers g1 and g2, one of one element in g3, one of INT32 in g4, one of UINT8 in g5, one that
ends with the partition in g6. -/
def vecs (ty : Nat) : Ctx := regs base [(1, rgnWord 0 4 1 ty 0), (2, rgnWord 0x100 4 1 ty 0), (3, rgnWord 0x200 1 0 ty 0),
  (4, rgnWord 0x300 4 1 10 0), (5, rgnWord 0x400 4 1 6 0), (6, rgnWord (0x10000 - 4 * typeBits ty / 8) 4 1 ty 0)]

/-- Every region test of a triple of operands, as one test. -/
def okRgn (k : Ctx) (v : Spec) (A : Nat → Bool) : Bool :=
  let r := rg k v
  decide (r.ty ≤ 11) && decide (r.layout ≤ 2) && A r.ty && (!subByte r.ty || (decide (r.stride = 1) && decide (r.layout = 0))) &&
    (r.ty != 9 || decide (r.count % 32 = 0)) && decide (r.base % r.align = 0) && decide (0 ≤ r.extent.1 ∧ r.extent.2 ≤ (k.spSize : Int))

theorem rgn_of {k : Ctx} {v : Spec} {A : Nat → Bool} (b : okRgn k v A = true) : RgnLegal k (rg k v) A := legal b

theorem src_of {k : Ctx} {v : Spec} {A : Nat → Bool} {n : Nat} (b : okRgn k v A = true) (c : (rg k v).count = n ∨ (rg k v).count = 1) :
    SrcLegal k (rg k v) A n := ⟨legal b, c⟩

/-- RegionElements: each layout, a stride below 0, and a base that ends its run. -/
theorem witness_region_elements :
    ([rgnWord 0x1F0 3 1 0 1, rgnWord 0x3F0 3 0xFFFF 1 2, rgnWord 0 3 2 11 0].all fun r => decide ((Rgn.ofWord r).ty ≤ 11) &&
      !subByte (Rgn.ofWord r).ty && decide ((Rgn.ofWord r).layout ≤ 2) && decide ((Rgn.ofWord r).count = 3)) = true ∧ (base.pends = [] ∧ base.engineWrites = []) ∧ ((on base .x).core 0).sp.wf = true ∧
    (Rgn.ofWord (rgnWord 0x3F0 3 0xFFFF 1 2)).stride = -1 ∧ (0x3F0 : Int) + 2 * -1 * (2 : Nat) = (0x3EC : Nat) := by
  refine ⟨by decide +kernel, ⟨rfl, rfl⟩, by decide +kernel, by decide +kernel, by decide⟩

/-- 05 R148: SWZ and ROT move a chunk within its own run. -/
theorem test_layouts : layoutOff 1 0x2F0 = 0x2E0 ∧ layoutOff 2 0x3F0 = 0x200 ∧ layoutOff 0 0x3F0 = 0x3F0 := by decide

/-- VectorArithmetic: computing integers, floats and every computing type, a source of one element, a destination that ends with the partition. -/
theorem witness_vector_arithmetic :
    (let k := vecs 5
     CanIssue (on k .x) k .x 0xF none [33, 34, 35] ∧ RgnLegal k (rg k 33) isCompInt ∧ SrcLegal k (rg k 34) isCompInt 4 ∧ SrcLegal k (rg k 35) isCompInt 4 ∧
      (rg k 34).ty = (rg k 33).ty ∧ (rg k 35).ty = (rg k 33).ty ∧
      AccessOk (on k .x) k .x ((rg k 34 :: rg k 35 :: []).flatMap Rgn.ranges) (rg k 33).ranges) ∧
    (let k := vecs 0
     CanIssue (on k .x) k .x 0 none [38, 34, 35] ∧ RgnLegal k (rg k 38) (fun ty => ty ≤ 2) ∧ SrcLegal k (rg k 34) (fun ty => ty ≤ 2) 4 ∧
      SrcLegal k (rg k 35) (fun ty => ty ≤ 2) 4 ∧ (rg k 34).ty = (rg k 38).ty ∧ fmtOf (rg k 38).ty = some fp32 ∧
      AccessOk (on k .x) k .x ((rg k 34 :: rg k 35 :: [rg k 38]).flatMap Rgn.ranges) (rg k 38).ranges) ∧
    (let k := vecs 11
     RgnLegal k (rg k 33) isComputing ∧ SrcLegal k (rg k 34) isComputing 4 ∧ fmtOf (rg k 33).ty = none) :=
  ⟨⟨can rfl (by decide +kernel), rgn_of (by decide +kernel), src_of (by decide +kernel) (by decide +kernel), src_of (by decide +kernel) (by decide +kernel),
      by decide +kernel, by decide +kernel, free (by decide +kernel)⟩,
    ⟨can rfl (by decide +kernel), rgn_of (by decide +kernel), src_of (by decide +kernel) (by decide +kernel), src_of (by decide +kernel) (by decide +kernel),
      by decide +kernel, rfl, free (by decide +kernel)⟩,
    ⟨rgn_of (by decide +kernel), src_of (by decide +kernel) (by decide +kernel), rfl⟩⟩

/-- The bytes that one word leaves to be written to its destination, where every source element is zero but for those of `sp`. -/
def written (i : Instr) (k : Ctx) (sp : Memory) : Option (List (List (Nat × Byte))) :=
  look (exec i ((on k .x).setCore 0 { Core.reset with sp := sp })) 0 fun k => k.pends.map fun p => p.writes.map fun w => (w.1, w.2.1)

/-- 05 R163: VADDS clamps where VADD wraps; 06 R193: the FP32 sum is rounded once. -/
theorem test_vector_sums :
    written (.vadds 0 33 34 35) (vecs 5) [(0x100, 100), (0x102, 0x9C), (0x200, 100)] = some [[(0, 127), (1, 100), (2, 0), (3, 100)]] ∧
    written (.vadd 0 33 34 35) (vecs 5) [(0x100, 100), (0x102, 0x9C), (0x200, 100)] = some [[(0, 200), (1, 100), (2, 0), (3, 100)]] ∧
    (written (.vadd 0 33 34 35) (vecs 0) [(0x102, 0x80), (0x103, 0x3F), (0x203, 0x40)]).map (·.map (·.take 4)) =
      some [[(0, 0), (1, 0), (2, 0x40), (3, 0x40)]] := by decide +kernel

/-- VectorSelectAndConvert: legal regions of each class, with and without the alternative forms. -/
theorem witness_select_convert :
    (let k := vecs 1
     CanIssue (on k .x) k .x 0 none [33, 34] ∧ RgnLegal k (rg k 33) isComputing ∧ SrcLegal k (rg k 34) isComputing 4 ∧
      RgnLegal k (rg k 33) (fun ty => ty ≤ 2) ∧ SrcLegal k (rg k 34) (fun ty => ty ≤ 2) 4 ∧ RgnLegal k (rg k 33) (fun _ => true) ∧
      SrcLegal k (rg k 34) (fun _ => true) 4 ∧ (rg k 34).ty = (rg k 33).ty ∧ fmtOf (rg k 33).ty = some bf16 ∧
      RgnLegal k (rg k 33) (fun ty => ty != 9) ∧ SrcLegal k (rg k 34) (fun ty => ty != 9) 4 ∧ (rg k 33).ty ≤ 4 ∧
      AccessOk (on k .x) k .x (rg k 34).ranges (rg k 33).ranges ∧ AccessOk (on k .x) k .x [] (rg k 33).ranges) ∧
    (let k := vecs 6
     CanIssue (on k .x) k .x 0 none [33, 34, 36, 36 + 1] ∧ RgnLegal k (rg k 33) (fun ty => ty != 9) ∧ SrcLegal k (rg k 37) (fun ty => ty == 5 || ty == 6) 4 ∧
      CanIssue (on k .x) k .x 0 none [33, 34, 35] ∧ RgnLegal k (rg k 33) (fun ty => ty == 5 || ty == 6) ∧ SrcLegal k (rg k 35) isComputing 4 ∧
      (rg k 35).ty = (rg k 34).ty ∧ AccessOk (on k .x) k .x ([rg k 34, rg k 35, rg k 37].flatMap Rgn.ranges) (rg k 33).ranges ∧
      AccessOk (on k .x) k .x ([rg k 34, rg k 35].flatMap Rgn.ranges) (rg k 33).ranges) := by
  refine ⟨⟨can rfl (by decide +kernel), rgn_of (by decide +kernel), src_of (by decide +kernel) (by decide +kernel), rgn_of (by decide +kernel),
      src_of (by decide +kernel) (by decide +kernel), rgn_of (by decide +kernel), src_of (by decide +kernel) (by decide +kernel), by decide +kernel, rfl,
      rgn_of (by decide +kernel), src_of (by decide +kernel) (by decide +kernel), by decide +kernel, free (by decide +kernel), free (by decide +kernel)⟩,
    ⟨can rfl (by decide +kernel), rgn_of (by decide +kernel), src_of (by decide +kernel) (by decide +kernel), can rfl (by decide +kernel),
      rgn_of (by decide +kernel), src_of (by decide +kernel) (by decide +kernel), by decide +kernel, free (by decide +kernel), free (by decide +kernel)⟩⟩

/-- 05 R166, R167: a conversion of 1.5 to INT8 rounds to even; the square root of 4 inverted is 0.5. -/
theorem test_convert_and_root :
    written (.vcvt 0 37 34 0 1) (vecs 0) [(0x102, 0xC0), (0x103, 0x3F)] = some [[(0x400, 2), (0x401, 0), (0x402, 0), (0x403, 0)]] ∧
    (written (.vrsq 0 33 34) (vecs 0) [(0x102, 0x80), (0x103, 0x40)]).map (·.map (·.take 4)) =
      some [[(0, 0), (1, 0), (2, 0), (3, 0x3F)]] := by decide +kernel

/-- VectorWholeRegion: reductions, scans, PART, gather and scatter with indices inside and outside, permutations of four elements. -/
theorem witness_whole_region :
    (let k := vecs 10
     CanIssue (on k .x) k .x 0 none [33, 34] ∧ RgnLegal k (rg k 33) isComputing ∧ RgnLegal k (rg k 34) isComputing ∧ 1 ≤ (rg k 33).count ∧
      isFloat (rg k 34).ty = isFloat (rg k 33).ty ∧ (rg k 34).ty = (rg k 33).ty ∧ RgnLegal k (rg k 33) (fun ty => ty == 10) ∧
      (rg k 34).count = (rg k 33).count ∧ AccessOk (on k .x) k .x (rg k 34).ranges { rg k 33 with count := 1 }.ranges ∧
      AccessOk (on k .x) k .x (rg k 34).ranges (rg k 33).ranges ∧
      CanIssue (on k .x) k .x 0 (some 32) [34, 36] ∧ RgnLegal k (rg k 34) (fun ty => ty != 9) ∧ RgnLegal k (rg k 36) (fun ty => ty == 10) ∧
      (rg k 36).count = (rg k 34).count ∧ k.xQuiet = true ∧ AccessOk (on k .x) k .x (rg k 34).ranges (rg k 36).ranges) ∧
    (let k := vecs 6
     let is := (((on k .x).view 0 k .x).at_ 1).elems (rg k 36)
     CanIssue (on k .x) k .x 0 none [33, 34, 36] ∧ RgnLegal k (rg k 33) (fun ty => ty ≤ 6 || ty == 10 || ty == 11) ∧
      RgnLegal k (rg k 34) (fun ty => ty ≤ 6 || ty == 10 || ty == 11) ∧ RgnLegal k (rg k 36) (fun ty => ty == 10 || ty == 11) ∧
      (rg k 34).ty = (rg k 33).ty ∧ AccessOk (on k .x) k .x ((rg k 36).ranges ++ (rg k 34).ranges) (rg k 33).ranges ∧
      (rg k 36).count = (rg k 33).count ∧ (rg k 36).count = (rg k 34).count ∧ (∀ i ∈ is.map (fun x => (intOf 10 x).1), 0 ≤ i ∧ i < (4 : Nat)) ∧
      (rg k 33).count % 2 ^ (1 : BitVec 6).toNat = 0 ∧ (rg k 33).count % 2 = 0) ∧
    (let s := (on (vecs 6) .x).setCore 0 { Core.reset with sp := [(0x303, 0x80)] }
     ¬∀ i ∈ (((s.view 0 (vecs 6) .x).at_ 1).elems (rg (vecs 6) 36)).map (fun x => (intOf 10 x).1), 0 ≤ i ∧ i < (4 : Nat)) := by
  refine ⟨⟨can rfl (by decide +kernel), rgn_of (by decide +kernel), rgn_of (by decide +kernel), by decide +kernel, by decide +kernel, by decide +kernel,
      rgn_of (by decide +kernel), by decide +kernel, free (by decide +kernel), free (by decide +kernel), can rfl (by decide +kernel), rgn_of (by decide +kernel),
      rgn_of (by decide +kernel), by decide +kernel, by decide +kernel, free (by decide +kernel)⟩,
    ⟨can rfl (by decide +kernel), rgn_of (by decide +kernel), rgn_of (by decide +kernel), rgn_of (by decide +kernel), by decide +kernel, free (by decide +kernel),
      by decide +kernel, by decide +kernel, by decide +kernel, by decide +kernel, by decide +kernel⟩, by decide +kernel⟩

/-- 05 R172: PART puts the indices of true elements first and counts them; R179: ROT by one. -/
theorem test_part_and_rotate :
    look (exec (.part 0 32 37 36) ((on (vecs 6) .x).setCore 0 { Core.reset with sp := [(0x401, 1), (0x403, 9)] })) 0 (fun k =>
      (k.lt.flights.map (·.val), k.pends.map fun p => (p.writes.filter fun w => w.1 % 4 = 0).map fun w => w.2.1)) = some ([2], [[1, 3, 0, 2]]) ∧
    written (.vpermRot 0 33 34 1) (vecs 6) [(0x100, 10), (0x101, 11), (0x102, 12), (0x103, 13)] = some [[(0, 11), (1, 12), (2, 13), (3, 10)]] := by
  decide +kernel

/-! 05 to 10: words that hand work to the engines -/

/-- A full tile register whose first bytes are 1.0 in BF16. -/
def tile1 : Tile := ⟨.full, 0, [(0, 0x80), (1, 0x3F)]⟩

/-- `base` with full tile registers 0 to 3, formats BF16 by BF16, TERN by INT8 and FP32 by CB4, loaded codebooks, barrier 0 armed for one member, slots of
three paths, and operands for the engines' words. -/
def eng : Ctx :=
  let k := regs base [(1, rgnWord 0 32 1 0 0), (2, rgnWord 0x1000 32 1 0 0), (3, rgnWord 0x2000 32 1 0 0), (4, 0x0510), (5, rgnWord 0x3000 32 1 9 0),
    (6, 0x1000), (7, 0x0000101000000000), (8, rgnWord 0x4000 16 1 1 0), (9, 0x28), (10, 0x4000000000010000), (11, 0x0000000010000000), (12, 0x20000),
    (13, rgnWord 0x5000 16 1 6 0), (14, 0x8000000000000003), (15, 0x3FF)]
  { k with tiles := Vector.replicate 8 tile1
           lt := { k.lt with
             books := Vector.replicate 4 ⟨true, List.replicate 16 0x3F80⟩, cbars := Vector.replicate 8 { CBar.reset with phase := .armed, count := 1 }
             sys := { k.lt.sys with
               ft := (k.lt.sys.ft.setIfInBounds 0 0x11).setIfInBounds 1 0x58 |>.setIfInBounds 2 0x91
               slots := (k.lt.sys.slots.setIfInBounds 0 (BitVec.ofNat 64 (4 + 4 * 2 ^ 16 + 3 * 2 ^ 41))).setIfInBounds 1
                 (BitVec.ofNat 64 (5 + 4 * 2 ^ 16 + 3 * 2 ^ 41)) |>.setIfInBounds 2 (BitVec.ofNat 64 (1 + 4 * 2 ^ 16 + 3 * 2 ^ 41)) } } }

/-- MatrixWordsQueue, the words of tile registers: formats at their bounds, the last unit of the run and the one after it, operands full, a place in
ret.mx. -/
theorem witness_matrix_words :
    CanIssue (on eng .x) eng .x 0xF none [] ∧ (eng.lt.sys.ft[0]).toNat = 0x11 ∧ (eng.lt.sys.ft[1]).toNat = 0x58 ∧ (eng.lt.sys.ft[2]).toNat = 0x91 ∧
    CbarOpen eng 0 ∧ RoomIn eng .mx ∧ eng.mats.length < 8 ∧ eng.zeroing = false ∧ (eng.tile 0).st = .full ∧ (eng.tile 7).st = .full ∧
    eng.bookBusy 0 = false ∧ (eng.book 0).loaded = true ∧ 1 + 0 + eng.bndUnits < eng.accCnt ∧ ¬2 + 0 + eng.bndUnits < eng.accCnt ∧
    (let k := sysd eng fun r => { r with ftlink := 0x300 }
     k.lt.sys.ftlink.toNat % 4 ≠ 3 ∧ (((k.strm .x).index 0 + 0) % 3 = 0) ∧ CanIssue (on k .x) k .x 0 none []) := by
  refine ⟨can rfl (by decide +kernel), by decide +kernel, by decide +kernel, by decide +kernel, ⟨by decide +kernel, by decide +kernel⟩,
    by unfold RoomIn; decide +kernel, by decide, rfl, by decide +kernel, by decide +kernel, by decide +kernel, by decide +kernel, by decide +kernel,
    by decide +kernel, ⟨by decide +kernel, by decide +kernel, can rfl (by decide +kernel)⟩⟩

/-- MatrixWordsQueue, the words with an SRAM operand or a frame: rows and columns legal; a frame in a tile register; steps 0 to 1. -/
theorem witness_strip_words :
    (let o := SramTile.ofWords (src (on eng .x) eng .x 38) (src (on eng .x) eng .x 39)
     CanIssue (on eng .x) eng .x 0 none [38, 38 + 1] ∧ o.sizeOk = true ∧ ∀ r < o.rows, eng.lt.colmask[0].getLsbD r = true → o.row 0 r % 16 = 0) ∧
    (let w := src (on eng .x) eng .x 46
     CanIssue (on eng .x) eng .x 0 none [46, 40] ∧ CanIssue (on eng .x) eng .x 0 none [46] ∧ w.toNat / 2 ^ 62 = 2 ∧ w.toNat % 8 = 3 ∧
      frameWordOk w 1 ((1 * 1 - 1) * (w.toNat / 2 ^ 50 % 2 ^ 12 + 1) + 1 - 1) = true ∧ (∀ j < 4, eng.bookBusy j = false) ∧
      ((eng.lt.sys.bd[0]).toNat % 2 ^ 13 = 1)) ∧
    (let k := regs (sysd eng fun r => { r with bd := r.bd.setIfInBounds 2 16 }) [(1, 0x10000), (2, 0)]
     (rg k 40).count = (k.lt.sys.bd[2]).toNat % 2 ^ 13 ∧ RgnLegal k (rg k 40) (· == 1) ∧ AccessOk (on k .x) k .x (rg k 40).ranges [] ∧
      CanIssue (on k .x) k .x 0 none [34, 33] ∧ (src (on k .x) k .x 33).toNat % 2 ^ 16 < (src (on k .x) k .x 33).toNat / 2 ^ 16 % 2 ^ 16 ∧
      (src (on k .x) k .x 34).toNat / 2 ^ 62 ≤ 1 ∧ (src (on k .x) k .x 34).toNat % 2 ^ 48 % 16 = 0) := by
  refine ⟨⟨can rfl (by decide +kernel), by decide +kernel, by decide +kernel⟩,
    ⟨can rfl (by decide +kernel), can rfl (by decide +kernel), by decide +kernel⟩,
    ⟨by decide +kernel, rgn_of (by decide +kernel), free (by decide +kernel), can rfl (by decide +kernel), by decide +kernel⟩⟩

/-- 07 R225: an MMA joins the matrix queue with two blocks for BF16, and reserves a place in ret.mx. -/
theorem test_mma_queued :
    look (exec (.mma 0 0 0 0 1 1 0 0 0 0 0 0x55) (on eng .x)) 0 (fun k => (k.mats.map fun m => (m.tag, m.bind.nblk), (k.lt.fifo .mx).res,
      (k.tile 1).st, (k.lt.cbar 0).members)) = some ([(0x55, 2)], 1, .draining, 1) := by decide +kernel

/-- EngineWordsQueue: CORDIC words at 4 and 40 iterations and outside; a run; VQUANT, VDEQ, direct, governed by a tag and behind one that waits; CBLD of 16 elements and of 32; full FIFOs. -/
theorem witness_engine_words :
    (let k := eng
     CanIssue (on k .x) k .x 0xF none ([33, 33 + 1, 34, 34 + 1] ++ [34 + 2] ++ [41]) ∧ CanIssue (on k .x) k .x 0 none ([33, 33 + 1, 33, 33 + 1] ++ [] ++ [41]) ∧
      RgnLegal k (rg k 33) (fun ty => ty == 0) ∧ RgnLegal k (rg k 34) (fun ty => ty == 0 || (rg k 34).count == 0) ∧
      SrcLegal k (rg k 35) (fun ty => ty == 0) 32 ∧ (src (on k .x) k .x 41).toNat % 2 ^ 6 = 40 ∧ RoomIn k .cr ∧ RoomIn k .tx ∧
      (src (on k .x) k .x 36).toNat % 2 ^ 6 = 16 ∧ ¬4 ≤ (src (on k .x) k .x 40).toNat % 2 ^ 6) ∧
    (let k := eng
     CanIssue (on k .x) k .x 0 none [36, 41] ∧ k.xf = [] ∧ k.xfRun = none ∧ (on k .x).running 0 = false ∧ k.xfFault = false) ∧
    (let k := eng
     CanIssue (on k .x) k .x 0 none [37, 33] ∧ (rg k 33).count = (rg k 37).count ∧ RgnLegal k (rg k 37) (fun ty => ty == 9) ∧ RgnLegal k (rg k 33) isFloat ∧
      RoomIn k .mx ∧ k.zeroing = false ∧ rangesMeet ((rg k 33).ranges ++ (rg k 37).ranges) k.crdRanges = false ∧
      (k.governing (rg k 33).ranges (rg k 37).ranges).isNone = true ∧ k.quants = [] ∧ (on k .x).spMarks 0 k (rg k 33).ranges = [] ∧
      k.bookBusy 3 = false ∧ (k.book 3).loaded = true ∧ (base.book 3).loaded = false ∧
      ((sysd k fun r => { r with tags := r.tags.setIfInBounds 3 { Tag.reset with en := true } }).governing (rg k 33).ranges (rg k 37).ranges).isNone = false ∧
      ¬∀ q ∈ { k with quants := [{ (default : QuantOp) with waits := true }] }.quants, q.waits = false) ∧
    (let k := regs eng [(1, rgnWord 0 32 1 1 0)]
     CanIssue (on k .x) k .x 0 none [40] ∧ RgnLegal k (rg k 40) (fun ty => ty == 1) ∧ (rg k 40).count = 16 ∧ AccessOk (on k .x) k .x (rg k 40).ranges [] ∧
      RgnLegal k (rg k 33) (fun ty => ty == 1) ∧ (rg k 33).count ≠ 16 ∧ AccessOk (on k .x) k .x [] [] ∧ CanIssue (on k .x) k .x 0 none []) ∧
    (let k := lit eng fun l => { l with fifos := Vector.replicate 6 ⟨[], 32⟩ }
     ¬RoomIn k .cr ∧ ¬RoomIn k .tx) := by
  refine ⟨⟨can rfl (by decide +kernel), can rfl (by decide +kernel), rgn_of (by decide +kernel), rgn_of (by decide +kernel),
      src_of (by decide +kernel) (by decide +kernel), by decide +kernel, by unfold RoomIn; decide +kernel, by unfold RoomIn; decide +kernel,
      by decide +kernel, by decide +kernel⟩,
    ⟨can rfl (by decide +kernel), rfl, rfl, by decide +kernel, rfl⟩,
    ⟨can rfl (by decide +kernel), by decide +kernel, rgn_of (by decide +kernel), rgn_of (by decide +kernel), by unfold RoomIn; decide +kernel,
      rfl, by decide +kernel⟩,
    ⟨can rfl (by decide +kernel), rgn_of (by decide +kernel), by decide +kernel, free (by decide +kernel), rgn_of (by decide +kernel), by decide +kernel,
      free (by decide +kernel), can rfl (by decide +kernel)⟩, by unfold RoomIn; decide +kernel⟩

/-- XRegisterWords: masks that end at element 128 and beyond, a region of 16 bytes, format links off and at their bounds, bonds at theirs; the boundary's
forms with room and without, a valid boundary. -/
theorem witness_x_registers :
    (let k := regs base [(1, 0x8000), (2, 0x7F00 + 1), (3, 3), (4, 0x1000), (5, 0x1100), (6, 4096), (7, rgnWord 0x5000 16 1 6 0), (8, 0x17F + 0x100)]
     let v (n : Spec) := (src (on k .x) k .x n).toNat
     CanIssue (on k .x) k .x 0xF none [33] ∧ CanIssue (on k .l) k .l 0 none [33, 34] ∧ v 33 % 2 ^ 7 + v 33 / 2 ^ 8 % 2 ^ 8 = 128 ∧
      v 34 % 2 ^ 7 + v 34 / 2 ^ 8 % 2 ^ 8 = 128 ∧ 128 < v 40 % 2 ^ 7 + v 40 / 2 ^ 8 % 2 ^ 8 ∧ v 35 % 4 = 3 ∧ v 36 / 2 ^ 8 % 2 ^ 5 = 16 ∧ v 37 / 2 ^ 8 % 2 ^ 5 = 17 ∧
      v 38 = 4096 ∧ RgnLegal k (rg k 39) (fun ty => ty == 6) ∧ (rg k 39).count = 16 ∧ k.xQuiet = true ∧ AccessOk (on k .x) k .x (rg k 39).ranges []) ∧
    (let k := { regs (sysd base fun r => { r with bndcap := 0x80001, bndshape := BitVec.twoPow 64 48 }) [(1, 2), (2, rgnWord 0 8 1 0 0), (3, rgnWord 0x100 10 1 0 0),
        (4, rgnWord 0 2 1 0 0)] with bnd := [(1, 0), (2, 0)] }
     CanIssue (on k .x) k .x 0 none [33, 34] ∧ k.bndReady = true ∧ capacity k.lt.sys.bndcap = 8 ∧ RgnLegal k (rg k 34) (fun ty => ty == 0 || ty == 1) ∧
      AccessOk (on k .x) k .x (rg k 34).ranges [] ∧ (rg k 34).count % (2 * 2) = 0 ∧ 8 < (rg k 35).count ∧ RgnLegal k (rg k 35) (fun ty => ty == 0 || ty == 1) ∧
      CanIssue (on k .x) k .x 0 none [36] ∧ AccessOk (on k .x) k .x [] (rg k 36).ranges ∧ k.lt.sys.bndshape.getLsbD 48 = true ∧ (on k .x).bndMarks 0 k = [] ∧
      (rg k 36).count = k.bnd.length ∧ RgnLegal k (rg k 34) (fun ty => ty == 0) ∧ CanIssue (on k .x) k .x 0 none [] ∧ AccessOk (on k .x) k .x [] []) := by
  refine ⟨⟨can rfl (by decide +kernel), can rfl (by decide +kernel), by decide +kernel, by decide +kernel, by decide +kernel, by decide +kernel, by decide +kernel,
      by decide +kernel, by decide +kernel, rgn_of (by decide +kernel), by decide +kernel, by decide +kernel, free (by decide +kernel)⟩,
    ⟨can rfl (by decide +kernel), by decide +kernel, by decide +kernel, rgn_of (by decide +kernel), free (by decide +kernel), by decide +kernel, by decide +kernel,
      rgn_of (by decide +kernel), can rfl (by decide +kernel), free (by decide +kernel), by decide +kernel, by decide +kernel, by decide +kernel,
      rgn_of (by decide +kernel), can rfl (by decide +kernel), free (by decide +kernel)⟩⟩

/-- `base` with masks that leave element (1, 2) alone, and a region of one element. -/
def masked : Ctx := lit (regs base [(1, rgnWord 0 1 1 0 0), (2, rgnWord 0 2 1 10 0)]) fun l =>
  { l with rowmask := Vector.replicate 4 2, colmask := Vector.replicate 4 4 }

/-- AccumulatorWords: unit 1, the last of the run, and unit 2 after it; units that are full and units that an operation names. -/
theorem witness_accumulator_words :
    CanIssue (on masked .x) masked .x 0xF none [33] ∧ CanIssue (on masked .x) masked .x 0 none [] ∧ RgnLegal masked (rg masked 33) (fun ty => ty == 0) ∧
    (rg masked 33).count = 1 ∧ RgnLegal masked (rg masked 34) (fun ty => ty == 10) ∧ (rg masked 34).count = 2 ∧
    1 + 0 + masked.bndUnits < masked.accCnt ∧ ¬2 + 0 + masked.bndUnits < masked.accCnt ∧ masked.unitsFull [1] = true ∧
    (on masked .x).accMarks 0 masked [1] [(1, 2)] = [] ∧ AccessOk (on masked .x) masked .x [] (rg masked 33).ranges ∧
    AccessOk (on masked .x) masked .x (rg masked 34).ranges [] ∧ AccessOk (on masked .x) masked .x [] [] ∧ masked.mats = [] ∧
    { masked with mats := [{ (default : MatOp) with acc := 1 }] }.unitsFull [1] = false := by
  refine ⟨can rfl (by decide +kernel), can rfl (by decide +kernel), rgn_of (by decide +kernel), by decide +kernel, rgn_of (by decide +kernel), by decide +kernel,
    by decide +kernel, by decide +kernel, by decide +kernel, by decide +kernel, free (by decide +kernel), free (by decide +kernel), free (by decide +kernel), rfl,
    by decide +kernel⟩

/-- `base` with a region of 128 bytes, one SRAM operand of one row, an index 0, an empty register 0 and a full register 1. -/
def tiled : Ctx := { regs base [(1, rgnWord 0x100 128 1 6 0), (2, 0x1000), (3, 0x0000101000000000 + 0x100000000 * 0), (4, 0), (5, rgnWord 0 16384 1 6 0)] with
  tiles := Vector.replicate 8 tile1 |>.setIfInBounds 0 Tile.reset }

/-- TileMoves: the least and the greatest region, an SRAM operand, a register that a load may take, one that a store may read. -/
theorem witness_tile_moves :
    (CanIssue (on tiled .l) tiled .l 0x5 none [33] ∧ RgnLegal tiled (rg tiled 33) (fun ty => ty == 6) ∧ (rg tiled 33).count % 128 = 0 ∧
      RgnLegal tiled (rg tiled 37) (fun ty => ty == 6) ∧ (rg tiled 37).count = 16384 ∧ AccessOk (on tiled .l) tiled .l (rg tiled 33).ranges [] ∧
      (tiled.tile 0).st = .empty ∧ (tiled.tile 1).st = .full ∧ (tiled.tile 1).readers = 0) ∧
    (let o := SramTile.ofWords (src (on tiled .l) tiled .l 34) (src (on tiled .l) tiled .l 35)
     CanIssue (on tiled .l) tiled .l 0 none [36, 34, 34 + 1] ∧ tiled.zeroing = false ∧ 1 ≤ o.rows ∧ o.rows ≤ 128 ∧ 1 ≤ o.cols ∧ o.cols ≤ 128 ∧
      (∀ r < o.rows, o.row 0 r % 16 = 0 ∧ (on tiled .l).sramOk tiled.slice (o.row 0 r) o.cols = true) ∧
      CanIssue (on tiled .s) tiled .s 0 none [36, 34, 34 + 1] ∧ ∀ r < o.rows, (on tiled .s).tileMarks 0 1 (128 * r) (128 * r + o.cols) = []) ∧
    (CanIssue (on tiled .s) tiled .s 0 none [33] ∧ AccessOk (on tiled .s) tiled .s [] (rg tiled 33).ranges ∧ (on tiled .s).tileMarks 0 1 0 128 = []) := by
  refine ⟨⟨can rfl (by decide +kernel), rgn_of (by decide +kernel), by decide +kernel, rgn_of (by decide +kernel), by decide +kernel, free (by decide +kernel),
      by decide +kernel, by decide +kernel, by decide +kernel⟩,
    ⟨can rfl (by decide +kernel), rfl, by decide +kernel, by decide +kernel, by decide +kernel, by decide +kernel, by decide +kernel, can rfl (by decide +kernel),
      by decide +kernel⟩, ⟨can rfl (by decide +kernel), free (by decide +kernel), by decide +kernel⟩⟩

/-- Every condition of CourierWordsQueue on one command, as one test; `room`: a place in ret.co. -/
def queues (k : Ctx) (st : Strm) (kind : CmdKind) (w : CmdWord) (ga gb gc : Word) (inside : Bool) : Bool :=
  let s := on k st
  let c := Cmd.new (issueEnv s k st 0 []) kind w ga gb gc
  let far := ga.toNat % 2 ^ 48
  let near := gb.toNat % 2 ^ 24
  decide (ga.toNat / 2 ^ 62 ≤ 1) && !(kind == .send && (decide (ga.toNat / 2 ^ 62 ≠ 0) || k.paired)) && c.sizesOk && s.slotMatches 0 k (k.slotOf w.slot) c &&
    decide (near % 16 = 0) && decide (far % 16 = 0) && (kind != .qfetch || (!k.bookBusy w.cbk && (k.book w.cbk).loaded)) &&
    (decide (w.seed ≠ 3) || k.seeded w.slot) && (decide (near + c.nearLen ≤ k.spSize) == inside) &&
    (decide (ga.toNat / 2 ^ 62 ≠ 1) || s.sramOk k.slice far c.farLen)

/-- CourierWordsQueue: a fetch of 16 bytes from memory and of SRAM, a quantising fetch, a store that leaves the partition, a CSEND, a block for EPUSH; places
in ret.co and none. -/
theorem witness_courier_words :
    let k := regs eng [(1, 0x1000), (2, 0x10000000), (3, 0x4000000000001000), (4, 0x80000000), (5, 0x1000FFF8), (6, 0x1000FFF0), (7, 0x2000FFF0)]
    let v (n : Spec) : Word := src (on k .l) k .l n
    CanIssue (on k .l) k .l 0x5 (some 32) ([33, 33 + 1] ++ []) ∧ CanIssue (on k .s) k .s 0xA (some 32) ([33, 33 + 1] ++ [35]) ∧
    queues k .l .fetch ⟨0, 1, 1, false, false, 0, false, 0, false⟩ (v 33) (v 34) 0 true = true ∧
    queues k .l .fetch ⟨2, 1, 0, false, false, 0, false, 0, false⟩ (v 35) (v 34) 0 true = true ∧
    queues k .l .qfetch ⟨0, 1, 0, false, false, 0, false, 3, false⟩ (v 33) (v 36) 0 true = true ∧
    queues k .l .store ⟨0, 1, 0, false, false, 0, false, 0, false⟩ (v 33) (v 38) 0 true = true ∧
    queues k .l .store ⟨0, 1, 0, false, false, 0, false, 0, false⟩ (v 33) (v 39) 0 false = true ∧
    queues k .s .send ⟨1, 1, 0, false, false, 0, false, 0, false⟩ (v 33) (v 34) 0 true = true ∧
    RoomIn k .co ∧ k.queuedCmds < 16 ∧ k.atoms = [] ∧ ¬RoomIn (lit k fun l => l.setFifo .co ⟨[], 32⟩) .co ∧
    CanIssue (on k .c) k .c 0 (some 33) [33] ∧ OffOk k 0x1000 32 ∧ AccessOk (on k .c) k .c [(0x1000, 0x1020)] [] ∧
    (CmdWord.ofBlock .fetch 0x80000040).isSome = true ∧ (CmdWord.ofBlock .fetch 0x100000000).isSome = false := by
  refine ⟨can rfl (by decide +kernel), can rfl (by decide +kernel), by decide +kernel, by decide +kernel, by decide +kernel, by decide +kernel, by decide +kernel,
    by decide +kernel, by unfold RoomIn; decide +kernel, by decide +kernel, rfl, by unfold RoomIn; decide +kernel, can rfl (by decide +kernel),
    by unfold OffOk; decide +kernel, free (by decide +kernel), by decide +kernel, by decide +kernel⟩

/-- 10 R305: 16 bytes on slot 0 (period 16, four cycles of 16 bytes) issued at cycle 100 move in cycle 112; the postmark lands two cycles after issue. -/
theorem test_postmark :
    let k := regs eng [(1, 0x1000), (2, 0x10000000)]
    look (exec (.cfetch 0 32 33 0 0 9 0 0 0 0 0) (on k .l)) 0 (fun k => (k.cmds.map fun c => (c.first, c.postmark), k.lt.flights.map (·.land), k.free[0])) =
      some ([(108, 113 + Config.pathLat 4)], [102], 113) := by decide +kernel

/-! What completes, and the steps of the engines (02 to 11) -/

/-- `base` with a result due for g1 that enters q and pushes a token, and one that is not due. -/
def landing : Ctx := lit base fun l => { l with flights := [⟨.x, 100, 0, .g 1, 7, true, [.xs]⟩, ⟨.c, 101, 1, .o 7, 8, true, []⟩] }

/-- ResultsLand: one result due in the present cycle and one in the next; none due. -/
theorem witness_results_land :
    (on landing .c).ctx 0 = some landing ∧ landing.res = .resident ∧ landing.lt.hold ≠ .saving ∧
    landing.lt.flights = [] ++ ⟨.x, 100, 0, .g 1, 7, true, [.xs]⟩ :: [⟨.c, 101, 1, .o 7, 8, true, []⟩] ∧ (100 : Nat) ≤ (on landing .c).cycle ∧
    (∀ g ∈ [] ++ [(⟨.c, 101, 1, .o 7, 8, true, []⟩ : Flight)], (on landing .c).cycle < g.land) ∧ landing.lt.frame = none ∧ [Ctr.xs].Nodup := by
  refine ⟨rfl, rfl, by decide +kernel, rfl, by decide +kernel, by decide +kernel, rfl, by decide⟩

/-- A pending access of X that writes byte 5 of the partition, and one of S due in the next cycle. -/
def pendX : Pend := ⟨.x, 0, 1, [(5, 0xAB, 0x0F)], none, [], [], [], Events.zero, none, [], [], [], [], none, none, false, false, [], [], 0, none, none⟩

/-- `base` with those accesses pending. -/
def pending : Ctx := { base with pends := [pendX, { pendX with strm := .s, due := some 101 }, pendX] }

/-- RegionCompletes: the oldest access of its stream, one not due, one that is not the oldest; one that others contend with and one alone; an
STS behind an LDS. -/
theorem witness_region_completes :
    (on pending .c).ctx 0 = some pending ∧ pending.pends[0]? = some pendX ∧ pendX.quant = false ∧ pendX.load = none ∧ pendX.reads = [] ∧
    (∀ q ∈ pending.pends.take 0, q.strm = pendX.strm → q.quant = true ∨ q.due ≠ none ∧ q.writes = []) ∧ pending.contended (some .x) = true ∧
    { base with pends := [pendX] }.contended (some .x) = false ∧ pending.pends[1]? = some { pendX with strm := .s, due := some 101 } ∧ ¬101 ≤ (on pending .c).cycle ∧
    pending.pends[2]? = some pendX ∧ ¬(∀ q ∈ pending.pends.take 2, q.strm = pendX.strm → q.quant = true ∨ q.due ≠ none ∧ q.writes = []) ∧
    pendX.writes = [] ++ (5, 0xAB, 0x0F) :: [] ∧
    (let k := { base with pends := [{ pendX with strm := .c, due := some 104, writes := [] }, { pendX with strm := .c, due := some 100 }] }
     (∀ q ∈ k.pends.take 1, q.strm = .c → q.quant = true ∨ q.due ≠ none ∧ q.writes = []) ∧ 100 ≤ (on k .c).cycle) := by
  refine ⟨rfl, rfl, rfl, rfl, rfl, by decide +kernel, by decide +kernel, by decide +kernel, rfl, by decide, rfl, by decide +kernel, rfl, by decide +kernel⟩

/-- 05 R158: a masked byte keeps the bits outside its mask. -/
theorem test_masked_byte :
    (match exec (.regionComplete 0 0) ((on { base with pends := [pendX] } .c).setCore 0 { Core.reset with sp := [(5, 0x77)] }) with
     | .next t => (t.core 0).sp
     | _ => []) = [(5, 0x7B)] := by decide +kernel

/-- A context whose X stream has issued VADD of three regions at cycle 100, after which another own or unordered write is noted. -/
def addedThen (st : Option (Strm × Nat)) : Option (List (List (Nat × Byte))) :=
  let k := vecs 5
  let k := (k.setLt { k.lt with ord := 1 }).setStrm .x { k.strm .x with queue := [.lane (rowLane .x 32 (encodeXv (.vadd 0 33 34 35)))], rep := none, vote := none, ready := 100 }
  match step { (on k .x).setCore 0 { Core.reset with sp := [(0x100, 3), (0x200, 100)] } with agenda := [.issue 0 .x] } with
  | .next t =>
    match t.ctx 0 with
    | some k => look (.next (({ t with cycle := 101 }.setCtx 0 { k with past := [(st, 32, [(0x101, 5, 0xFF)])] }).seesLater 0 0)) 0 fun k =>
        k.pends.map fun p => p.writes.map fun w => (w.1, w.2.1)
    | none => none
  | _ => none

/-- 05 R153, R154: an access under way gives the same result again, with what its own stream has written before it. -/
theorem test_sees_later : addedThen (some (.x, 0)) = some [[(0, 103), (1, 105), (2, 100), (3, 100)]] := by decide +kernel

/-- RegionCompletes: a word of X whose access sees later writes, an operation of the quantiser, a batch of the CORDIC unit. -/
theorem witness_sees_later :
    (let k := vecs 5
     let k := k.setStrm .x { k.strm .x with queue := [.lane (rowLane .x 32 (encodeXv (.vadd 0 33 34 35)))], rep := none, vote := none, ready := 100 }
     let p := { pendX with again := some k.lt, saw := some ⟨[], 0, 100⟩ }
     let k := { k with pends := [p] }
     ((on k .x).issuedAgain 0 k p k.lt ⟨[], 0, 100⟩).map (·.2.1) = some [] ∧ (∀ q ∈ k.pends.drop 1, q.strm = p.strm → q.quant = true)) ∧
    (let p := { pendX with quant := true, saw := some ⟨[], 0, 100⟩ }
     let q : QuantOp := default
     let k := { base with pends := [p], quants := [q] }
     k.pends[0]? = some p ∧ p.saw = some ⟨[], 0, 100⟩ ∧ k.quants = q :: [] ∧ q.ord = p.ord ∧ q.waits = false ∧ q.fault = 0) ∧
    (let b : Batch := ⟨[], Events.zero, 0, false, ⟨[], 0, 100⟩⟩
     let k := { base with crds := [{ (default : CrdOp) with ahead := some b }] }
     k.pends.length ≤ 0 ∧ k.crds = { (default : CrdOp) with ahead := some b } :: [] ∧ b.bad = false) := by
  refine ⟨⟨by decide +kernel, by decide +kernel⟩, ⟨rfl, rfl, rfl, rfl, rfl, rfl⟩, ⟨Nat.le_refl 0, rfl, rfl⟩⟩

/-- SequencerWords: a run of context 0; a loop that ends at its pc with passes left, with its last pass; a loop word that fits, one that does not, one of no
passes; scratchpad and SRAM operands; tokens of both directions; a word of the codec before, during and at the end of its cycles. -/
theorem witness_sequencer_words :
    (let s := running base run0 0
     s.ctx s.sel.ctx = some base ∧ (s.core (coreOf s.sel.ctx)).seq.run = some run0 ∧ run0.sa[2].toNat ≠ 0 ∧ (0 : BitVec 4).toNat = run0.loops.length ∧
      base.spSize = 0x10000 ∧ run0.sa[1].toNat % 4 = 0 ∧ (∀ j < 2, 0 ≤ ((0x10 : Nat) : Int) + (j : Nat) * (0x10 * 4) ∧ ((0x10 : Nat) : Int) + (j : Nat) * (0x10 * 4) + 4 ≤ base.spSize) ∧
      s.spMarks 0 base [(0x10, 0x14), (0x50, 0x54)] = [] ∧ base.pends = [] ∧ base.engineWrites = [] ∧ s.sramOk base.slice 0x10 32 = true ∧
      s.sramMarks base.slice 0x10 32 = []) ∧ Admitted base [(0x10, 0x14), (0x50, 0x54)] [] ∧ Admitted base [] [(0x10, 0x20)] ∧
    (let s := running base { run0 with till := 116 } 0
     s.cycle < 116 ∧ run0.till = 0 ∧ 32 / 64 + 16 + s.cycle = 116 ∧ (116 : Nat) ≠ 0 ∧ 116 ≤ { s with cycle := 116 }.cycle ∧
      enlargeBlock 16 (s.sramRead base.slice 0x10 32) = none ∧
      (enlargeBlock 16 (reduceBlock 32 (List.replicate 16 7))).isSome = true) ∧
    (let r := { run0 with loops := [⟨0, 0, 2⟩] }
     r.loops = ⟨0, 0, 2⟩ :: [] ∧ (1 : Nat) < 2 ∧ ¬(0 : BitVec 4).toNat = r.loops.length ∧ (1 : BitVec 4).toNat = r.loops.length) ∧
    (0x10 : Nat) + 8 ≤ 0x20 ∧ Sparse.get base.dtokens 1 = some .seqToCtx ∧ Sparse.get base.dtokens 0 = some .ctxToSeq ∧ Sparse.get base.dtokens 2 = none ∧
    (run0.sa.set 1 3)[1].toNat % 4 ≠ 0 := by
  refine ⟨⟨rfl, rfl, by decide +kernel, by decide +kernel, by decide +kernel, by decide +kernel, by decide +kernel, by decide +kernel, rfl, rfl, by decide +kernel,
    by decide +kernel⟩, (free (s := on base .x) (st := .x) (by decide +kernel)).toAdmitted, (free (s := on base .x) (st := .x) (by decide +kernel)).toAdmitted,
    by decide +kernel, ⟨rfl, by decide, by decide, by decide⟩, by decide, by decide +kernel, by decide +kernel, by decide +kernel, by decide +kernel⟩

/-- 09 R285, R291: the last word of a loop with passes left goes back to its first word. -/
theorem test_sequencer_loop :
    let at_ (o : Host.Outcome State Fault Refusal) := match o with
      | .next t => (t.core 0).seq.run.map fun r => (r.pc, r.loops.map (·.left), r.sa[3])
      | _ => none
    at_ (exec (.txaddi 3 2 0x3FFFF) (running base { run0 with pc := 5, loops := [⟨2, 5, 4⟩] } 0)) = some (2, [3], 0xF) ∧
    at_ (exec (.txaddi 3 2 1) (running base { run0 with pc := 5, loops := [⟨2, 5, 1⟩] } 0)) = some (6, [], 0x11) := by decide +kernel

/-- 09 R298: a word of the codec over a block of 64 bytes holds the sequencer for 17 cycles. -/
theorem test_codec_occupies :
    (match exec (.txcbReduce 3 2 0) (running base { run0 with sa := (run0.sa.set 2 0x100).set 3 0x40 } 0) with
     | .next t => (t.core 0).seq.run.map fun r => (r.pc, r.till)
     | _ => none) = some (0, 116) := by decide +kernel

/-- A line of one C word, NOP. -/
def nopLine : List W32 := [0x10, 0xF8000000, 0, 0, 0, 0, 0, 0]

/-- `base` with C's queue empty and the next line fetched ahead. -/
def arrives (ws : List W32) : Ctx := { lit base (fun l => { l with c := StreamState.reset }) with ahead := [(0x1020, ws, [])] }

/-- A package with the tables of Translation, and nothing cached. -/
def walked : State := { on (sysd base fun r => { r with ptroot := 0x1001 }) .c with mem := tables, tlb := [] }

/-- A walk that ends in this leaf: its page, size, permissions and scrub bit, and the address of its entry. -/
def leafIs (w : Walk) (pa size : Nat) (flags : List Bool) (entry : Nat) : Bool :=
  match w with
  | .leaf pa' size' rd wr ex scrub entry' => pa' == pa && size' == size && [rd, wr, ex, scrub] == flags && entry' == entry
  | _ => false

/-- PathAndMemoryEvents: delivery of a line that conforms and of one that does not; a load's entry; the steps of a walk, and a scrub; a tile's load and the end of its last
read; a barrier due; a window that has ended. -/
theorem witness_path_events :
    ((on (arrives nopLine) .c).ctx 0 = some (arrives nopLine) ∧ (arrives nopLine).mayDeliver = true ∧ (arrives nopLine).pathNext.1 = 0x1020 ∧
      (on (arrives nopLine) .c).fetchLine (arrives nopLine) 0x1020 = .ok nopLine ∧ lineOk nopLine = true ∧
      (∀ st ∈ Strm.all, ((arrives nopLine).strm st).roomFor (lineItems (arrives nopLine).pathNext.2.1 0x1020 nopLine [] st) = true)) ∧
    ((on (arrives [2]) .c).fetchLine (arrives [2]) 0x1020 = .ok [2] ∧ lineOk [2] = false ∧ (arrives [2]).mayDeliver = true) ∧
    (base.res = .resident ∧ (∀ p ∈ base.ahead, p.1 ≠ 0x1000) ∧ (on base .c).fetchLine base 0x1000 = .ok [0, 0, 0, 0, 0, 0, 0, 0]) ∧
    ({ base with loads := [⟨5, [], 0⟩] }.loads = ⟨5, [], 0⟩ :: []) ∧
    (walked.walks = [] ∧ (let w : PageWalk := ⟨0, 0x12345, 0x1001, 90, 99, 3, 0x1000⟩
      { walked with walks := [w] }.walkDue = some w ∧ { walked with walks := [{ w with at_ := 100 }] }.walkDue = none) ∧
     (match walkEntry walked.mem 0x12345 3 0x1000 with
      | .down t0 => t0 == 0x2000
      | _ => false) = true ∧
     (match walkEntry walked.mem 0x12345 0 0x4000 with
      | .ends (.leaf pa size rd wr ex scrub entry) => leafIs (.leaf pa size rd wr ex scrub entry) 0x20000 0x10000 [true, false, false, false] 0x4008
      | _ => false) = true ∧
     (match walkEntry walked.mem 0x12345 3 0x9000 with
      | .ends (.fail lvl) => lvl == 3
      | _ => false) = true) ∧
    (walked.cached 0x1001 0x12345 = none ∧ leafIs (walk walked.mem 0x1001 0x12345) 0x20000 0x10000 [true, false, false, false] 0x4008 = true) ∧
    (leafIs (walk walked.mem 0x1001 0x20000) 0x30000 0x10000 [true, false, false, true] 0x4010 = true ∧ walked.mem.wf = true) ∧
    ({ pendX with load := some (7, [(0, 1)]), writes := [] }.bad = []) ∧ ({ pendX with reads := [(7, true)] }.reads = [(7, true)]) ∧
    (let s := (on base .c).setSlice 0 { Slice.reset with barriers := Slice.reset.barriers.setIfInBounds 15 ⟨1, [0], some 100, 0⟩ }
     ((s.slice 0).barrier 15).release = some 100 ∧ 0 ∈ ((s.slice 0).barrier 15).arrived ∧ (100 : Nat) ≤ s.cycle) ∧
    (let k := sysd base fun r => { r with evopen := r.evopen.setIfInBounds 7 (some 90), evwin := r.evwin.setIfInBounds 7 10 }
     k.lt.sys.evopen[7]? = some (some 90) ∧ k.lt.sys.evwin[7]? = some 10 ∧ 90 + (10 : Word).toNat ≤ (on k .c).cycle) := by
  refine ⟨⟨rfl, by decide +kernel, by decide +kernel, by decide +kernel, by decide +kernel, by decide +kernel⟩,
    ⟨by decide +kernel, by decide +kernel, by decide +kernel⟩, ⟨rfl, by decide, by decide +kernel⟩, rfl, ⟨rfl, by decide +kernel⟩, ⟨by decide +kernel, by decide +kernel⟩, ⟨by decide +kernel, by decide +kernel⟩, rfl, rfl, by decide +kernel,
    ⟨rfl, rfl, by decide +kernel⟩⟩

/-- A matrix operation of two blocks, issued ten cycles ago, on full tile registers, at this point of its binding. -/
def op (b : Bind) : MatOp := { (default : MatOp) with
  issued := 90, afmt := 1, bfmt := 1, rowm := BitVec.allOnes 128, colm := BitVec.allOnes 128, bind := { b with nblk := 2, loaded := true } }

/-- `eng` with that operation at the head of its matrix queue. -/
def busy (b : Bind) : Ctx := { eng with mats := [op b] }

/-- The package with the array of core 0 held and reserved so. -/
def arrayOf (k : Ctx) (a : Arb) : State := (on k .x).setCore 0 { Core.reset with mat := a }

/-- EngineEvents, binding: a free array, one that a context of no lower rank holds, one that a context of lower rank holds; the array frees; a block starts. -/
theorem witness_binding :
    (let k := busy default
     k.headBind .matrix = some { (default : Bind) with nblk := 2, loaded := true } ∧ (arrayOf k Arb.reset).dispatchNext 0 k .matrix = true ∧
      (arrayOf k Arb.reset).headFault 0 k .matrix = 0) ∧
    (let s := { arrayOf (busy default) ⟨some 1, none⟩ with ctxs := [(0, busy default), (1, busy { (default : Bind) with dispatched := true })] }
     s.dispatchNext 0 (busy default) .matrix = true ∧ s.rankOf 0 ≤ s.rankOf 1) ∧
    (let k := { busy default with rank := 1 }
     let s := { arrayOf k ⟨some 1, none⟩ with ctxs := [(0, k), (1, busy { (default : Bind) with dispatched := true })] }
     s.dispatchNext 0 k .matrix = true ∧ s.rankOf 1 < s.rankOf 0) ∧
    (let k := { busy default with rank := 1 }
     let w := busy { (default : Bind) with dispatched := true, waiting := true }
     [none, some 2].all (fun h =>
       let s := { arrayOf k ⟨h, some 1⟩ with ctxs := [(0, k), (1, w), (2, busy { (default : Bind) with dispatched := true })] }
       s.dispatchNext 0 k .matrix && decide (s.rankOf 1 < s.rankOf 0) &&
         match exec (.matrixDispatch 0 .matrix) s with
         | .next t => ((t.core 0).arb .matrix == if h = none then ⟨some 0, none⟩ else ⟨h, some 0⟩) &&
             (((t.ctx 1).bind fun k => k.headBind .matrix).any fun b => b.onLanes && !b.waiting)
         | _ => false) = true) ∧
    (arrayOf base ⟨some 0, none⟩).arraySettled 0 .matrix = false ∧
    (let k := busy { (default : Bind) with dispatched := true }
     let s := arrayOf k ⟨some 0, none⟩
     ({ (default : Bind) with dispatched := true, nblk := 2, loaded := true }).mayStart 100 = true ∧ k.onCore = true ∧ s.newcomer 0 .matrix = false) ∧
    (let b := { (default : Bind) with dispatched := true, running := true, since := 1 }
     (op b).isStrip = false ∧ (busy b).blockEnds .matrix { b with nblk := 2, loaded := true } 100 = true) ∧
    ({ (default : Bind) with isOver := true, ended := 96 }).complete 100 = true ∧ ({ (default : Bind) with isOver := true, ended := 97 }).complete 100 = false ∧
    (arrayOf (busy default) ⟨some 0, none⟩).blockFault 0 (busy default) .matrix = 0 := by
  decide +kernel

/-- EngineEvents, the rest: a strip's step that can be read and one that fails; a boundary that has moved; a batch of CORDIC that may read and its end; a quantiser's operation
that may read and its end; a
run that starts. -/
theorem witness_engine_steps :
    (let m : MatOp := { (default : MatOp) with kind := .tcon, issued := 90, bind := { (default : Bind) with nblk := 1 } }
     let k := { base with mats := [m] }
     (on k .x).stepDue k m = true ∧ (match (on k .x).stripLoad 0 k m with
      | .trap .. => true
      | _ => false) = true) ∧
    (let k := lit base fun l => { l with hold := .move 100 2 }
     k.lt.hold = .move 100 2 ∧ (100 : Nat) ≤ (on k .c).cycle) ∧
    (let b := { (default : Bind) with dispatched := true, running := true, since := 1, nblk := 1, loaded := true }
     let c : CrdOp := { (default : CrdOp) with issued := 1, iters := 4, bind := b }
     let k := { base with crds := [c] }
     ((on k .x).batchReady k c).isSome = true ∧ (on k .x).poison = [] ∧
      (let c := { c with ahead := some ⟨[(5, 0xAB, 0xFF)], Events.zero, 0, false, ⟨[], 0, 100⟩⟩ }
       (on { k with crds := [c] } .x).batchDue { k with crds := [c] } c = true) ∧
      ({ c with bind := { b with running := false, isOver := true, ended := 96 } }).bind.complete 100 = true) ∧
    (let b := { (default : Bind) with isOver := true, ended := 96 }
     let q : QuantOp := { (default : QuantOp) with issued := 1, post := true, tag := 3, bind := b }
     q.bind.complete 100 = true ∧ { pendX with quant := true }.ord = q.ord ∧
      (let q := { q with src := rgnWord 0 32 1 0 0, dst := rgnWord 0x1000 32 1 9 0, waits := true, bind := { (default : Bind) with nblk := 1 } }
       let k := { base with quants := [q], pends := [{ pendX with quant := true, writes := [] }] }
       ((on k .x).quantReady k).isSome = true)) ∧
    (let k := { base with xf := [⟨96, 5, 3, 7, 0, false⟩] }
     k.xfRun = none ∧ ((on k .x).core 0).seq.run = none ∧ (on k .x).seqNext 0 = some (0, 0) ∧ 96 + 4 ≤ (on k .x).cycle ∧ k.pends = []) ∧
    (let k := { base with xf := [⟨96, 5, 3, 7, 0, true⟩] }
     (on k .x).seqNext 0 = some (0, 0) ∧ look (exec (.xfRunStart 0) (on k .x)) 0 (fun k => (k.xf.length, k.lt.faults.map (·.code))) = some (0, [0x13])) := by
  decide +kernel

/-! Couriers, contexts, recovery and the management side (10, 12 to 14, 19) -/

/-- Whether an attempt succeeds. -/
def isOk {α : Type} : Att α → Bool
  | .ok _ => true
  | _ => false

/-- A fetch of 16 bytes from 0x1000 on slot 0. -/
def fetch16 : Cmd := { (default : Cmd) with kind := .fetch, strm := .l, slot := 0, far := 0x1000, len := 16, first := 108, postmark := 600 }

/-- Its one chunk as it has been read: 7 in the first byte. -/
def read16 : Chunk := ⟨wholeWrites 0 (7 :: List.replicate 15 0), ⟨[], 0, 0⟩, 0, [], Events.zero⟩

/-- The package at cycle 112, an occurrence of slot 0, with one command in context 0. -/
def moving (c : Cmd) : State := { on { eng with cmds := [c] } .l with cycle := 112 }

/-- CourierEvents, chunks: a fetch that starts, one that is doomed, one whose chain ended with a fault; one that may read its chunk, one that has read it; a
store that moves its chunk; a chunk that cannot be translated. -/
theorem witness_courier_chunks :
    (let k := { eng with cmds := [fetch16] }
     (moving fetch16).ctx 0 = some k ∧ k.cmds[0]? = some fetch16 ∧ (moving fetch16).chunkDue k 0 fetch16 = true ∧ fetch16.begun = false ∧ fetch16.moved = 0 ∧
      fetch16.doomed = 0 ∧ (k.chainStart fetch16).2 = 0 ∧ fetch16.isFetch = true ∧ k.zeroing = false ∧ k.pends = [] ∧
      (let c := { fetch16 with doomed := 0x13 }
       (moving c).chunkDue { eng with cmds := [c] } 0 c = true ∧ c.doomed ≠ 0)) ∧
    ((lit eng fun l => { l with chain := l.chain.setIfInBounds 0 (some (5, 0x13)) }).chainStart { fetch16 with seed := 3 }).2 ≠ 0 ∧
    (let c := { fetch16 with begun := true }
     let k := { eng with cmds := [c] }
     (moving c).chunkDue k 0 c = true ∧ c.codec = false ∧ c.ahead = none ∧ isOk ((moving c).nextChunk 0 k c) = true ∧
      isOk ((moving c).cmdRead k c.strm c.seen c.dcur c.space (c.far + c.moved) (c.nextMoved - c.moved)) = true) ∧
    (let c := { fetch16 with begun := true, mark := 112, ahead := some read16 }
     let k := { eng with cmds := [c] }
     ({ moving c with cycle := 128 }).chunkDue k 0 c = true ∧ c.ahead = some read16 ∧ c.kind = .fetch) ∧
    (let c := { fetch16 with begun := true, mark := 112, kind := .store, strm := .s, ahead := some { read16 with writes := [] } }
     let k := { eng with cmds := [c] }
     ({ moving c with cycle := 128 }).chunkDue k 0 c = true ∧
      isOk ((moving c).chunkBytes 0 k { c with ahead := none } { read16 with writes := [] }) = true ∧
      isOk ((moving c).outPieces k { c with ahead := none } (c.far + c.moved) (List.replicate 16 7)) = true) ∧
    (let c := { fetch16 with begun := true, far := 0x20000 }
     let k := { eng with cmds := [c] }
     (moving c).chunkDue k 0 c = true ∧ k.res = .resident ∧ (match (moving c).nextChunk 0 k c with
      | .trap code .. => code == 0x09
      | _ => false) = true) := by
  refine ⟨⟨rfl, rfl, by decide +kernel, rfl, rfl, rfl, by decide +kernel, rfl, rfl, rfl, by decide +kernel⟩, by decide +kernel, by decide +kernel,
    by decide +kernel, by decide +kernel, by decide +kernel⟩

/-- 10 R317: a chunk that has been read is moved in its cycle. -/
theorem test_chunk_moves :
    (let c := { fetch16 with begun := true, mark := 112, ahead := some read16 }
     match exec (.courierChunk 0 0) { moving c with cycle := 128 } with
     | .next t => ((t.core 0).sp, (t.ctx 0).map fun k => k.cmds.map fun c => (c.moved, c.final, c.through))
     | _ => ([], none)) = ([(0, 7)], some [(16, 128, true)]) := by decide +kernel

/-- CourierEvents, completion: a fetch and a store at their promised events, a CSEND whose acknowledgement may come; a promise that is missed; a CSEND that
arrives here, one for another package. -/
theorem witness_courier_ends :
    (let c := { fetch16 with begun := true, through := true, final := 112, moved := 16 }
     let k := { eng with cmds := [c] }
     k.cmdDue 0 c (113 + Config.pathLat 4) = true ∧ k.cmdDue 0 c (112 + Config.pathLat 4) = false ∧ c.kind = .fetch) ∧
    (let c := { fetch16 with kind := .store, out := [(0, 0x1000, 0x11000, List.replicate 16 7)], begun := true, through := true, final := 112 }
     ({ eng with cmds := [c] }).cmdDue 0 c (113 + Config.pathLat 4) = true ∧ c.out = [(0, 0x1000, 0x11000, List.replicate 16 7)]) ∧
    (let c := { fetch16 with kind := .send, begun := true, event := true }
     c.kind = .send ∧ c.fault = 0 ∧ eng.onCore = true ∧ (0x13 : Nat) ∈ [0, 0x08, 0x09, 0x0A, 0x13] ∧
      (∀ e ∈ { eng with cmds := [c] }.cmds.take 0, e.kind = .send → e.slot = c.slot → e.pkg ≠ c.pkg) ∧
      ∀ e ∈ { eng with cmds := [c] }.cmds.drop 1, e.slot = c.slot → e.seed ≠ 0 → e.through = false ∧ e.fault = 0) ∧
    (let c := { fetch16 with postmark := 111 }
     eng.onCore = true ∧ c.event = false ∧ c.late = false ∧ c.fault = 0 ∧ c.postmark < (moving c).cycle) ∧
    (let h : SendHeader := ⟨0, 0x1000, 16, 0, 1, false, 0, 4⟩
     let s := (on base .c).setPort 3 { Port.reset with rx := [.header h] }
     (s.port 3).rx = .header h :: [] ∧ h.pkg = s.pkg ∧ h.open_ = false ∧ { h with pkg := 9 }.pkg ≠ s.pkg ∧ (s.port 5).lanes ≠ 0) ∧
    (let h : SendHeader := ⟨0, 0x1000, 16, 0, 1, false, 0, 4⟩
     let r : Recv := ⟨4, h, [], 0, 0, 0, []⟩
     let s := (on base .c).setPort 3 { Port.reset with rx := [.data 4 (List.replicate 64 1)], recvs := [r] }
     (s.port 3).recvs.find? (fun q => q.src == 4) = some r ∧ r.fault = 0 ∧ Sparse.get (s.port 3).transit 4 = none ∧
      Nat.min 4096 (h.len - r.moved) ≤ 64 ∧ h.len ≤ r.moved + 16 ∧ ¬{ h with len := 8192 }.len ≤ r.moved + 4096 ∧
      isOk (s.jobPieces (s.jobRoot 0) (h.far + 0) 16) = true) := by
  refine ⟨by decide +kernel, by decide +kernel, ⟨rfl, rfl, rfl, by decide, by decide, by decide⟩, by decide +kernel, ⟨rfl, rfl, rfl, by decide +kernel, by decide +kernel⟩, by decide +kernel⟩

/-- ContextEvents: a value for each of the kernel's writes; a watchdog; a notice with a handler and without; a budget that has run out; saves that may be
written; a restore; a drowsy context; a context that is halted. -/
theorem witness_context_events :
    ((on base .c).ctx 0 = some base ∧ sysValueOk 0x060 0x1000 = true ∧ (on base .c).kernelWriteOk 0 base 0x060 0x1000 = true ∧ sysValueOk 0x058 0 = true ∧
      (on base .c).kernelWriteOk 0 base 0x058 0 = true ∧ sysValueOk 0x059 64 = true ∧ (on base .c).kernelWriteOk 0 base 0x059 64 = true ∧
      sysValueOk 0x0FF 0 = true ∧ (on base .c).kernelWriteOk 0 base 0x0FF 0 = true ∧ sysValueOk 0x062 0x10 = true ∧
      (on base .c).kernelWriteOk 0 base 0x062 0x10 = true) ∧
    (let k := { sysd base (fun r => { r with wdlimit := 5 }) with wd := 5, rank := 1 }
     let s := { running k run0 0 with ctxs := [(0, k), (1, { base with xf := [⟨96, 0, 0, 0, 0, false⟩], rank := 1 })] }
     s.watchdogDue 0 k = true) ∧
    (base.res = .resident ∧ base.notice = none ∧ base.lt.sys.tvec.getLsbD 0 = false ∧ (faulted 9).lt.sys.tvec.getLsbD 0 = true ∧ (on base .c).kernelDown = false) ∧
    (let k := { sysd base (fun r => { r with savebudget := 10 }) with notice := some 90 }
     k.notice = some 90 ∧ 90 + k.lt.sys.savebudget.toNat % 2 ^ 32 ≤ (on k .c).cycle) ∧
    (let k := { base with res := .saving, saveAt := 100 }
     k.saveReady 100 = true ∧ (on k .c).saveTurn 0 k = true ∧ k.loads = [] ∧ k.atoms = [] ∧ (on k .c).saveBad 0 k true [] = false) ∧
    (let k := lit base fun l => { l with hold := .saving }
     k.saveAt ≤ (on k .c).cycle ∧ k.landingDue (on k .c).cycle = false ∧ (on k .c).saveBad 0 k false [] = false) ∧
    (let k := { base with res := .savedForced }
     let s := { on base .c with ctxs := [(2 ^ 20, k)] }
     s.homeOf k 5 = 0 ∧ s.placeFree 5 0 = true ∧ s.partOk 5 0x1000 k.spSize = true ∧ s.runOk 5 0 2 = true ∧ s.peers 5 = [] ∧ s.saveBad (2 ^ 20) k false [] = false) ∧
    ({ base with halted := true }.halted = true ∧ regOk 33 = true ∧ (15 : Spec).toNat ≤ 15) ∧
    (∀ st ∈ Strm.all, (base.strm st).lastIssue + 4096 < { on base .c with cycle := 4097 }.cycle) ∧ base.lt.flights = [] := by
  refine ⟨⟨rfl, by decide +kernel⟩, by decide +kernel, by decide +kernel, by decide +kernel, by decide +kernel, by decide +kernel, by decide +kernel,
    by decide +kernel, by decide +kernel, rfl⟩

/-- ContextEvents: a context area that is mapped. -/
theorem witness_area_mapped :
    let k := sysd base fun r => { r with ctxarea := 0x100000040 }
    let s := { on k .c with tlb := [⟨0, 0x100000000, 0x40000000, 0x40000000, true, true, true⟩] }
    isOk (s.areaPieces k) = true := by decide +kernel

/-- ContextEvents, a restore: an area that holds what the save wrote of the streams' blocks, with a result in flight and a queued lane. -/
theorem witness_area_kept :
    let k := lit (sysd base fun r => { r with ctxarea := 0x100000040 }) fun l => { l with flights := [⟨.c, 103, 0, .g 1, 7, true, []⟩] }
    let s := { on k .c with tlb := [⟨0, 0x100000000, 0x40000000, 0x40000000, true, true, true⟩] }
    (match s.areaPieces k with
    | .ok ps =>
      let parts := ([.c, .l, .x, .s] : List Strm).flatMap fun st => streamArea (0x800 + 0x800 * st.num) k.saveAt (k.strm st) (k.lt.inFlight st)
      let t := parts.foldl (fun s p => s.putArea 0 ps p.1 p.2) s
      parts.all (fun p => t.getArea ps p.1 p.2.length == p.2) && (queueWords base.lt.c.queue).length == 1 &&
        (t.reread ps k).lt.flights == k.lt.flights
    | _ => false) = true := by decide +kernel

/-- 12 R374: the debugger writes a register of a halted context, and of no other. -/
theorem test_debugger_writes :
    look (exec (.debuggerRead 0 .l (.setReg 33 7)) (on { base with halted := true } .c)) 0 (fun k => k.lt.l.g[1]) = some 7 ∧
    look (exec (.debuggerRead 0 .l (.setReg 33 7)) (on base .c)) 0 (fun k => k.lt.l.g[1]) = some 0 := by decide +kernel

/-- ContextEvents: a slice recalled with its contexts agreed, and one past its deadline. -/
theorem witness_recall :
    (let k := sysd base fun r => { r with recallWord := 0x100000005 }
     (∃ p ∈ (on k .c).ctxs, p.2.slice = 0 ∧ p.2.res = .resident) ∧ ((on k .c).slice 0).recall_ = none ∧
      ∀ p ∈ (on k .c).ctxs, p.2.slice = 0 → p.2.res = .resident → p.2.lt.sys.recallWord.getLsbD 32 = true) ∧
    (let k := { sysd base fun r => { r with recallWord := 0x100000005 } with res := .saving }
     let s := (on k .c).setSlice 0 { Slice.reset with recall_ := some (95, 200) }
     (s.slice 0).recall_ = some (95, 200) ∧ k.res = .saving ∧ 95 + k.lt.sys.recallWord.toNat % 2 ^ 32 ≤ s.cycle) := by
  decide +kernel

/-- A header of the container for some sections (20 R443), and an entry of the section table. -/
def header (count : Nat) : List Byte :=
  leBytes 4 0x4C4E5250 ++ leBytes 2 1 ++ leBytes 2 1 ++ leBytes 2 count ++ leBytes 2 0 ++ leBytes 4 0 ++ leBytes 32 0x6B ++ leBytes 8 64 ++ leBytes 8 0
def secLine (kind off size align : Nat) : List Byte := leBytes 4 kind ++ leBytes 4 0 ++ leBytes 8 off ++ leBytes 8 size ++ leBytes 8 align

/-- A launch of one context of queue 4 on slice 0, with one line of code at 0x1000, mapped by the tables of Translation. -/
def launch1 : LaunchRequest := { (default : LaunchRequest) with
  queue := 4, file := header 1 ++ secLine 5 96 32 5 ++ List.replicate 32 0, sites := [⟨0x1000, [⟨[0x4000], 0x30000⟩]⟩]
  places := [{ (default : Placement) with ctx := 7, spsize := 0x1000, ctxarea := 64, ptroot := 0x1001, params := [5, 6] }] }

/-- The same with a slot 3 of context 0 on path 4, a constant section of three bytes at 0x10000, and a patch of launch word 2 with its second
byte's address. -/
def launch2 : LaunchRequest := { launch1 with
  file := header 4 ++ secLine 5 192 32 5 ++ secLine 0x0D 224 3 4 ++ secLine 0x10 227 16 0 ++ secLine 0x0C 243 16 0 ++ List.replicate 32 0 ++
    [1, 2, 3] ++ leBytes 8 2 ++ leBytes 8 0x101 ++ leBytes 8 (3 * 2 ^ 32) ++ leBytes 8 0x40004
  sites := launch1.sites ++ [⟨0x10000, [⟨[0x4008], 0x20000⟩]⟩] }

/-- The package with queue 4 in slot 0 of cluster 0, queue 5 held. -/
def offices : State := { on base .c with clusters := [(0, { Cluster.reset with slots := [(0, ⟨4, 0, false⟩)], held := [⟨5, 0, false⟩] })] }

/-- LaunchAndOffices: a launch that is placed, with and without a section, one in safelight mode, one on a draining slice; a notify to its queue, to a free slot, one without a slot; a
release; a share to be zeroed. -/
theorem witness_launch :
    (let s := { offices with mem := tables }
     s.mgmt.boot ≠ .safelight ∧ s.mgmt.draining = false ∧ (s.slice 0).drain = .open_ ∧ (s.cluster 0).frozen = false ∧
      ({ launch1 with file := [] } : LaunchRequest).read = none ∧
      [launch1, launch2].all (fun r => r.read.any fun l =>
        (s.takeSlice l).any fun s0 => launchOk l && l.spread 0 && l.twinsOk && s.slotTableOk { l with slots := [] } && l.twins.isEmpty && (s.cluster 0).slots.any (fun q => q.2.queue == l.queue) &&
          (s0.loadImage l).any (fun s1 => l.places.all fun p => s1.placementOk l 0 p)) = true ∧
      launch2.read.any (fun l => l.patches == [⟨2, 1, 1⟩] && (sectionAt l.sections 1).isSome && l.slots == [(0, 3, 0x40004)] &&
        (l.sections.getLast?.any fun c => c.kind == .const && c.relocs.isEmpty && c.pages.length == 1)) = true) ∧
    ({ offices with mgmt := { Mgmt.reset with boot := .safelight } }).mgmt.boot = .safelight ∧
    ((offices.setSlice 0 { Slice.reset with drain := .draining }).slice 0).drain ≠ .open_ ∧
    ((∀ q ∈ (offices.cluster 0).slots, q.2.queue ≠ 4095) ∧ offices.slotFor 0 = some 1) ∧
    (let s := offices.setCluster 0 { Cluster.reset with slots := (List.range 32).map fun n => (n, ⟨n, 0, false⟩) }
     (∀ q ∈ (s.cluster 0).slots, q.2.queue ≠ 4095) ∧ s.slotFor 0 = none) ∧
    (offices.refusing 0 = false ∧ { offices with mgmt := { Mgmt.reset with draining := true } }.refusing 0 = true) ∧
    ((Sparse.get (offices.cluster 0).slots 0).isSome = true ∧ (offices.cluster 0).held = ⟨5, 0, false⟩ :: [] ∧
      (∀ q ∈ Sparse.erase (offices.cluster 0).slots 0, q.2.queue ≠ 5) ∧
      (offices.setCluster 0 { offices.cluster 0 with slots := Sparse.erase (offices.cluster 0).slots 0, held := [] }).slotFor 0 = some 0) ∧
    (let k := { base with zeroing := true, tenant := 3 }
     (Sparse.get ((on k .c).setCore 0 { Core.reset with spTenant := [(0, 2)] } |>.core 0).spTenant 0).any (· != k.tenant) = true) := by
  decide +kernel

/-- 03 R70: a launched context has its launch words in every stream. -/
theorem test_launch_words :
    (match exec (.contextLaunch 0 launch1) { offices with mem := tables } with
     | .next t => (t.ctx 7).map fun k => (Strm.all.map fun st => ((k.strm st).o[1]), k.lt.next)
     | _ => none) = some ([6, 6, 6, 6], some 0x1000) := by decide +kernel

/-- 20 R444, R445, R449, 17 R427: the image's constant section is written into memory, and a patch replaces the launch word that it names. -/
theorem test_launch_section :
    ((launch2.read.bind fun l => State.loadImage { offices with mem := tables } l).map fun t => t.mem.read 0x20000 3) = some [1, 2, 3] ∧
    (launch2.read.map fun l => (launch2.places.map fun p => l.params p)) = some [[5, 6, 0x10001]] := by decide +kernel

/-- 20, A small image: the entries of its synchronisation section and the word of its format section; a kind that is reserved. -/
theorem test_small_image :
    syncPipe 0x00000301 = some .xs ∧ syncCtr 0x00000202 = some .xs ∧ syncPipe 0x00000202 = none ∧
    numbers 8 ([0x33, 0, 0, 0, 0, 0, 0, 0] : List Byte) = [0x33] ∧
    ({ launch1 with file := header 1 ++ secLine 0x11 96 32 5 ++ List.replicate 32 0 } : LaunchRequest).read = none := by decide +kernel

/-- An ADD of C that was issued in cycle 97, and the state whose shadow a rollback brings back. -/
def issued1 (bad : Bool) : Issued := ⟨0x1004, 0x06386200, none, 97, bad⟩
def shadowed (code : Nat) : Ctx := { lit base (fun l => { l with faults := [⟨.c, code, false, true, 0, 0, 0, 0, 0, false, 0, 99, none, [], 0⟩] }) with
  shadow := some base.lt, preSp := [(0, [(5, 0x77)])] }

/-- ErrorsAndRecovery: a word that the checker has yet to match, and one that failed; a rollback for 0x12 and for 0x13; a place in a core and in device memory; the copies of a paired kernel that agree and that do not, the first time and the second; a
restart of the kernel; a VOTE that holds its target. -/
theorem witness_errors :
    locCore (.sp 191 5) = some 191 ∧
    (let k := { base with paired := true, res := .ended }
     let s := { on k .c with ctxs := [(0, k), (192, { k with sig := 1 })] }
     s.ctxs = [(0, k), (192, { k with sig := 1 })] ∧ dieOf 0 = 0 ∧ dieOf 192 = 0 + 1 ∧ k.sig ≠ { k with sig := 1 }.sig ∧ Sparse.get s.mgmt.disagreed 0 = none ∧
      Sparse.get [(0, 1)] 0 = some 1) ∧
    ((on base .c).mgmt.update = none ∧ (on base .c).mgmt.restarting = false ∧ ({ Mgmt.reset with restarting := true, restarts := 1 }).restarts = 1) ∧
    (let k := base.setStrm .c { base.strm .c with vote := some ⟨0, 0x7C000000, none, true, none, false⟩ }
     (on k .c).ctx 0 = some k ∧ k.res = .resident ∧ (k.strm .c).vote.isSome = true ∧ ((∀ c, Loc.dev 5 ≠ .copy c) ∧ ∀ l, Loc.dev 5 ≠ .residue l) ∧
      locCtx (.dev 5) = none) ∧
    (let i := issued1 false
     let k := lit base fun l => { l with c := { l.c with recent := [i] } }
     (k.strm .c).recent = [i] ∧ i.bad = false ∧ (on k .c).cycle < i.cycle + 4 ∧ checked .c i.word i.cont = true) ∧
    (let i := issued1 true
     let k := lit base fun l => { l with c := { l.c with recent := [i] } }
     k.res = .resident ∧ i.cycle + 4 ≤ 101 ∧ k.mismatchDue 101 = some (.c, i) ∧ k.mismatchDue 100 = none) ∧
    ((shadowed 0x12).shadow = some base.lt ∧ ((on (shadowed 0x12) .c).undoes 0 (shadowed 0x12)).isSome = true ∧
      ((on (shadowed 0x13) .c).undoes 0 (shadowed 0x13)).isSome = true) := by
  refine ⟨by decide, ⟨rfl, by decide, by decide, by decide +kernel, by decide +kernel, by decide⟩, by decide +kernel,
    ⟨rfl, rfl, rfl, ⟨by simp, by simp⟩, by decide⟩, by decide +kernel, by decide +kernel, ⟨rfl, by decide +kernel, by decide +kernel⟩⟩

/-- 04 R136: a copy that is outvoted is counted and changes nothing else. -/
theorem test_vote_corrected :
    (let k := base.setStrm .c { base.strm .c with vote := some ⟨0, 0x7C000000, none, true, none, false⟩ }
     match exec (.softError (.copy 0) true) (on k .c) with
     | .next t => (t.core 0).rel.vt
     | _ => 0) = 1 := by decide +kernel

/-- 13 R385: a line read from a marked word of device memory brings the mark to the lanes of that word, and to no others. -/
theorem test_code_line_marked :
    (let s := { on base .c with poison := [.dev (0x11008 / 8)] }
     (s.lineBad base 0x1000, (lineItems base.lt.c 0x1000 [0, 0, 0, 0, 0, 0, 0, 0] (s.lineBad base 0x1000) .c).map fun i => match i with
       | .lane l => (l.addr, l.bad)
       | .mark _ => (0, false))) = ([0x1008], (lineItems base.lt.c 0x1000 [0, 0, 0, 0, 0, 0, 0, 0] [] .c).map fun i => match i with
       | .lane l => (l.addr, decide (0x1008 ≤ l.addr ∧ l.addr < 0x1010))
       | .mark _ => (0, false)) := by decide +kernel

/-- 13 R383: a rollback brings back the pre-image of the scratchpad. -/
theorem test_rollback_restores :
    (match undo 0 ((on (shadowed 0x12) .c).setCore 0 { Core.reset with sp := [(5, 1), (512, 2)] }) with
     | .next t => (t.core 0).sp
     | _ => []) = [(5, 0x77), (512, 2)] := by decide +kernel

/-- Device memory with a table at 0x1000 that maps the page at 0 to 0x10000, and the page at 0x10000, pending scrub, to 0x20000. -/
def hostMem : Memory :=
  [(0x1000, 0x2001), (0x2000, 0x3001), (0x3000, 0x4001), (0x4000, 0x1000F), (0x4008, 0x2002F)].foldl
    (fun (m : Memory) p => Memory.writeNat m p.1 8 p.2) []

/-- A package whose kernel has set the roots of the host's table and of root port 0, and the mapping of the contact sheet. -/
def hosted : State :=
  { State.reset with mem := hostMem, mgmt := { Mgmt.reset with roots := [(0, 0x1001), (1, 0x1001)], sheetMap := some 0x70000 } }

/-- HostAndManagement, accesses of outside parties: an address that its table maps, to a page that is not scrub-pending and to one that is; where the table
gives no translation; the scrub of a page of root port 0's table; the contact sheet's mapping at its ends. -/
theorem witness_outside :
    hosted.hostPieces 0 false 0x100 64 = some ([(0x10100, 64)], false) ∧ hosted.hostPieces 0 true 0x100 64 = some ([(0x10100, 64)], false) ∧
    hosted.hostPieces 0 true 0x10100 64 = some ([(0x20100, 64)], true) ∧ hosted.hostPieces 0 true 0x20000 64 = none ∧
    State.reset.hostPieces 0 false 0x100 64 = none ∧
    (Sparse.get hosted.mgmt.roots 1 = some 0x1001 ∧ hosted.ctx (768 + 1) = none ∧
      walk hosted.mem 0x1001 0x10100 = .leaf 0x20000 0x10000 true true false true 0x4008 ∧ hosted.mem.wf = true ∧ 0x4008 < 0x20000) ∧
    hosted.mgmt.sheetMap = some 0x70000 ∧ State.reset.mgmt.sheetMap = none ∧ (0x70001 : Word).getLsbD 0 = true := by
  refine ⟨by decide +kernel, by decide +kernel, by decide +kernel, by decide +kernel, by decide +kernel,
    ⟨rfl, by decide +kernel, by decide +kernel, by decide +kernel, by decide⟩, rfl, rfl, by decide⟩

/-- HostAndManagement: the window open and closed; ports with both lanes, with an injector armed; a boot with an image; a heartbeat that comes and one that
does not; an update; a staged image; a slice that has drained; power and temperature at their bounds. -/
theorem witness_management :
    ((on base .c).windowOpen .kernel = true ∧ sysOk 0x064 = true ∧ sysOk 0x067 = false ∧ sysValueOk 0x064 1 = true ∧
      (on base .c).windowOpen .host = false) ∧
    ((State.reset.port 63).lanes = 2 ∧ (State.reset.port 63).injector = none ∧
      ((State.reset.setPort 0 { Port.reset with injector := some ⟨1, 511, 90⟩ }).port 0).injector = some ⟨1, 511, 90⟩) ∧
    (4096 * 128 + 0x320 = 0x80000 + 0x800 * 0 + 8 * 0x64 ∧ (0x64 : Nat) < 256) ∧
    (let s := { State.reset with mgmt := { Mgmt.reset with imageA := some default } }
     s.mgmt.boot = .rom ∧ s.mgmt.powered = true ∧ s.mgmt.failcnt = 0 ∧ s.mgmt.image s.mgmt.active = some default ∧ s.mgmt.arb ≤ (default : Image).version) ∧
    ({ Mgmt.reset with waiting := some 100 }).waiting = some 100 ∧ ({ Mgmt.reset with update := some ⟨0, some 90, 0⟩ }).update = some ⟨0, some 90, 0⟩ ∧
    (let s := { on base .c with mgmt := { Mgmt.reset with update := some ⟨0, none, 0⟩ } }
     s.mgmt.update = some ⟨0, none, 0⟩ ∧ s.updateDue = true ∧ s.mgmt.restarting = false ∧ s.mgmt.stagedOk = false) ∧
    ({ Mgmt.reset with staging := some default }).staging = some (default : Image) ∧
    (let s := State.reset.setSlice 23 { Slice.reset with drain := .draining }
     (s.slice 23).drain = .draining ∧ ∀ p ∈ s.ctxs, p.2.slice = 23 → s.occupies p = false) ∧
    (Mgmt.reset.cap < 2200001 ∧ ¬Mgmt.reset.cap < 2200000 ∧ (105 : Nat) ≤ 105 ∧ (115 : Nat) ≤ 115) := by
  refine ⟨by decide +kernel, by decide +kernel, by decide, ⟨rfl, rfl, rfl, rfl, by decide⟩, rfl, rfl, by decide +kernel, rfl, by decide +kernel, by decide⟩

/-- HostAndManagement: the start of a new kernel, for an image that is good and known, once its time has come. -/
theorem witness_update_starts (h : Config.sigOk default = true) :
    (let s := { on base .c with mgmt := { Mgmt.reset with imageB := some default, update := some ⟨0, none, 0⟩ }, cycle := Config.updateDelay 0 }
     s.mgmt.stagedOk = true ∧ s.updateDue = true) := by
  simp [Mgmt.stagedOk, Mgmt.image, Mgmt.reset, h, State.updateDue]

/-- MailboxAndAttestation: a request in each standing; arguments at their bounds; the responder before and after its algorithms. -/
theorem witness_mailbox :
    ((on base .c).kernelBusy = false ∧ { on base .c with mgmt := { Mgmt.reset with restarting := true } }.kernelBusy = true ∧
      { on base .c with mgmt := { Mgmt.reset with boot := .safelight } }.kernelBusy = false ∧ (⟨1, true⟩ : Mbx).auth = true ∧
      (⟨1, false⟩ : Mbx).auth = false ∧ (on base .c).placed 0 = true ∧ (on base .c).placed 1 = false ∧
      (decide ((1000000 : Nat) < 1000000) || decide ((2200000 : Nat) < 2200000)) = false) ∧
    ({ Mgmt.reset with asked := [(.host, Vector.replicate 8 0x32, 7)] }).asked = (.host, Vector.replicate 8 0x32, 7) :: [] ∧
    ({ Mgmt.reset with version := true, algorithms := true }).algorithms = true := by
  refine ⟨by decide +kernel, rfl, rfl⟩

/-- WordFrame: a word of each stream and a context that issues it. -/
theorem witness_frame :
    (on base .c).sel.seq = false ∧ (on base .c).ctx (on base .c).sel.ctx = some base ∧ WordOf .c (.add 32 33 34) ∧ WordOf .l (.lxsNop 5) ∧
    WordOf .x (.vadd 0xF 33 34 35) ∧ WordOf .s (.stt 0 33 0 0) ∧ pushesEngine (.add 32 33 34) = false ∧ returnsFromTrap (.add 32 33 34) = false ∧
    (look (exec (.add 32 33 34) (on base .c)) 0 fun _ => true) = some true := by
  refine ⟨rfl, rfl, by unfold WordOf; decide, by unfold WordOf; decide, by unfold WordOf; decide, by unfold WordOf; decide, rfl, rfl, by decide +kernel⟩

/-! Worked examples of the spec -/

/-- 10, "A promise on a shared slot": the postmarks 2256 and 2452. -/
theorem test_promise_on_shared_slot :
    let sl : Slot := ⟨4, 0, 2, 256, 0, 64⟩
    schedule sl 1008 16384 = (1008, 1856, 2256) ∧ schedule sl 1856 256 = (1856, 2052, 2452) := by decide +kernel

/-- 10 R313: the running checksum of 1, 2, 3, 4 is 26; its successor's over four words of 0x10 is 0x290, and 0x298 with one bit flipped. -/
theorem test_checksum :
    checksum 4 0 [1, 0, 0, 0, 2, 0, 0, 0, 3, 0, 0, 0, 4, 0, 0, 0] = 26 ∧
    checksum 4 26 [0x10, 0, 0, 0, 0x10, 0, 0, 0, 0x10, 0, 0, 0, 0x10, 0, 0, 0] = 0x290 ∧
    checksum 4 26 [0x11, 0, 0, 0, 0x10, 0, 0, 0, 0x10, 0, 0, 0, 0x10, 0, 0, 0] = 0x298 := by decide +kernel

/-- 09 R297: a block of four bytes and 60 zeros reduces to 6 bytes, and enlarges again only to its own size. -/
theorem test_codec :
    let raw : List Byte := [1, 2, 3, 4] ++ List.replicate 60 0
    let red := reduceBlock 80 raw
    red.take 14 = [0x40, 0, 0, 0, 6, 0, 0, 0, 3, 1, 2, 3, 4, 0xBA] ∧ red.length = 80 ∧ (red.drop 14).all (· == 0) = true ∧
    enlargeBlock 64 red = some raw ∧ enlargeBlock 48 red = none := by decide +kernel

/-- 06 R195: FP16 2^-14 and -2^-15 give 2^-15, which flush makes +0 with one underflow and one inexact event. -/
theorem test_fp16_flush :
    let x := (Ex.add false (fp16.decode 0x0400) (fp16.decode 0x8200)).1
    fp16.round .rne false false x false = (0x0200, 0) ∧ fp16.round .rne true false x false = (0, evUnderflow ||| evInexact) := by decide +kernel

/-- 06, the worked fold: two blocks into a compensated element that holds 1.0. -/
theorem test_compensated_fold :
    let t1 := (Ex.add false (.fin false 1 (-24)) (.fin false 1 (-30))).1
    (foldPair 0x3F800000 0 t1).1 = (0x3F800001, 0xB37C0000) ∧ (foldPair 0x3F800001 0xB37C0000 (.fin false 1 (-24))).1 = (0x3F800002, 0xB3FE0000) := by
  decide +kernel

/-- 06 R210: class 3 with threshold 3 crosses when its window's count goes from 2 to 4, and traps once. -/
theorem test_event_window :
    let r := { SysRegs.reset with evthr := Vector.replicate 8 3, evwin := Vector.replicate 8 100, evctl := 0x40 }
    let a := r.addEvents 500 3 2
    (a.1.evopen[3], a.1.evcnt[3], a.2.1) = (some 500, 2, false) ∧ ((a.1.addEvents 560 3 2).1.evcnt[3], (a.1.addEvents 560 3 2).2.1) = (4, true) ∧
    a.1.windowDue 600 3 = true ∧ a.1.windowDue 599 3 = false := by decide +kernel

/-- 05 R164: VADDS over INT8 [100, -100, 5] and [100, -100, -7]. -/
theorem test_vadds_example :
    let k := regs base [(1, rgnWord 0 3 1 5 0), (2, rgnWord 0x100 3 1 5 0), (3, rgnWord 0x200 3 1 5 0)]
    written (.vadds 0 33 34 35) k [(0x100, 100), (0x101, 0x9C), (0x102, 5), (0x200, 100), (0x201, 0x9C), (0x202, 0xF9)] =
      some [[(0, 127), (1, 0x80), (2, 0xFE)]] := by decide +kernel

end Sys2Proof.Tests
end

section
/-! The scalar arithmetic of C against the bit-vector operations, and the three-operand words (03 R90, R91). -/

namespace Sys2Proof.Machine

open Sys2Proof

/-! The upper half of a product (03 R90) -/

/-- Bits 127:64 of an integer taken to 128 bits are its quotient by 2^64. -/
theorem extractLsb'_ofInt_high (p : Int) : (BitVec.ofInt 128 p).extractLsb' 64 64 = BitVec.ofInt 64 (p / 2 ^ 64) := by
  apply BitVec.eq_of_toNat_eq
  rw [BitVec.extractLsb'_toNat, BitVec.toNat_ofInt, BitVec.toNat_ofInt, Nat.shiftRight_eq_div_pow]
  omega

theorem mulHigh_eq_extractLsb' (x y : Word) : mulHigh x y = (x.signExtend 128 * y.signExtend 128).extractLsb' 64 64 := by
  rw [BitVec.signExtend, BitVec.signExtend, ← BitVec.ofInt_mul, extractLsb'_ofInt_high, mulHigh]

theorem setWidth_eq_ofInt (x : Word) : x.setWidth 128 = BitVec.ofInt 128 x.toNat := by
  rw [BitVec.ofInt_natCast, BitVec.ofNat_toNat]

theorem mulHighU_eq_extractLsb' (x y : Word) : mulHighU x y = (x.setWidth 128 * y.setWidth 128).extractLsb' 64 64 := by
  rw [setWidth_eq_ofInt, setWidth_eq_ofInt, ← BitVec.ofInt_mul, extractLsb'_ofInt_high, mulHighU, ← BitVec.ofInt_natCast]
  norm_cast

/-! Quotients and remainders (03 R91) -/

/-- The truncated quotient, cut to 64 bits: −2^63 by −1 included. -/
theorem ofInt_tdiv_eq_sdiv (x y : Word) : BitVec.ofInt 64 (x.toInt.tdiv y.toInt) = x.sdiv y := by
  rw [← BitVec.toInt_inj, BitVec.toInt_ofInt, BitVec.toInt_sdiv]

theorem ofInt_tmod_eq_sub_mul_sdiv (x y : Word) : BitVec.ofInt 64 (x.toInt.tmod y.toInt) = x - y * x.sdiv y := by
  rw [Int.tmod_def, Int.sub_eq_add_neg, BitVec.ofInt_add, BitVec.ofInt_neg, BitVec.ofInt_mul, BitVec.ofInt_toInt, BitVec.ofInt_toInt,
    ofInt_tdiv_eq_sdiv, ← BitVec.sub_eq_add_neg]

theorem divS_eq_sdiv (x y : Word) : divS x y = if y = 0 then BitVec.allOnes 64 else x.sdiv y := by
  rw [divS, ofInt_tdiv_eq_sdiv]

theorem remS_eq_sub_mul_sdiv (x y : Word) : remS x y = if y = 0 then x else x - y * x.sdiv y := by
  rw [remS, ofInt_tmod_eq_sub_mul_sdiv]

theorem divU_eq_div (x y : Word) : divU x y = if y = 0 then BitVec.allOnes 64 else x / y := by
  rw [divU, ← BitVec.udiv_def]

theorem ofNat_mod_eq_sub_mul_div (x y : Word) : BitVec.ofNat 64 (x.toNat % y.toNat) = x - y * (x / y) := by
  apply eq_sub_of_add_eq
  calc BitVec.ofNat 64 (x.toNat % y.toNat) + y * (x / y)
      = BitVec.ofNat 64 (x.toNat % y.toNat + y.toNat * (x.toNat / y.toNat)) := by
        rw [BitVec.ofNat_add, BitVec.ofNat_mul, BitVec.ofNat_toNat, BitVec.setWidth_eq, BitVec.udiv_def]
    _ = x := by rw [Nat.mod_add_div, BitVec.ofNat_toNat, BitVec.setWidth_eq]

theorem remU_eq_sub_mul_div (x y : Word) : remU x y = if y = 0 then x else x - y * (x / y) := by
  rw [remU, ofNat_mod_eq_sub_mul_div]

/-! Minimum, maximum and comparison (03 R90) -/

/-- Where equal operands have equal answers, `<` and `≤` choose alike. -/
theorem ite_lt_eq_ite_le {α β : Type} [LinearOrder β] {f : α → β} (hf : f.Injective) {x y u v : α} (he : x = y → u = v) :
    (if f x < f y then u else v) = if f x ≤ f y then u else v := by
  rcases lt_trichotomy (f x) (f y) with h | h | h
  · rw [if_pos h, if_pos h.le]
  · rw [he (hf h), ite_self, ite_self]
  · rw [if_neg h.not_gt, if_neg h.not_ge]

theorem minS_eq_ite_toInt (x y : Word) : minS x y = if x.toInt ≤ y.toInt then x else y := by
  simp only [minS, BitVec.slt_iff_toInt_lt]
  exact ite_lt_eq_ite_le (fun _ _ => BitVec.eq_of_toInt_eq) id

theorem maxS_eq_ite_toInt (x y : Word) : maxS x y = if x.toInt ≤ y.toInt then y else x := by
  simp only [maxS, BitVec.slt_iff_toInt_lt]
  exact ite_lt_eq_ite_le (fun _ _ => BitVec.eq_of_toInt_eq) Eq.symm

theorem minU_eq_ite_toNat (x y : Word) : minU x y = if x.toNat ≤ y.toNat then x else y :=
  ite_lt_eq_ite_le (f := BitVec.toNat) (fun _ _ => BitVec.eq_of_toNat_eq) id

theorem maxU_eq_ite_toNat (x y : Word) : maxU x y = if x.toNat ≤ y.toNat then y else x :=
  ite_lt_eq_ite_le (f := BitVec.toNat) (fun _ _ => BitVec.eq_of_toNat_eq) Eq.symm

/-- A comparison's result is 1 where the condition that it decides holds, and 0 elsewhere. -/
theorem ofBool_eq_ite {c : Bool} {p : Prop} [Decidable p] (h : c = true ↔ p) : ofBool c = if p then 1 else 0 := by
  simp only [ofBool, h]

theorem ofBool_bne_eq_ite (x y : Word) : ofBool (x != y) = if x = y then 0 else 1 := by
  rw [ofBool_eq_ite bne_iff_ne, ite_not]

/-! The three-operand words -/

/-- A word whose meaning is a register result delivers the value of its function at what the word sees. -/
theorem delivers_of_exec_eq_issueReg {s : State} {k : Ctx} {st : Strm} {t : Tok} {d : Spec} {srcs : List Spec} {i : Instr} {lat : Nat}
    {f : Env → Word} {v : Word} (h : CanIssue s k st t (some d) srcs) (hi : exec i s = issueReg st t d srcs lat f s)
    (hv : f (issueEnv s k st t srcs) = v) : Delivers s k st t d lat v (exec i s) := by
  rw [hi, ← hv]
  exact issueReg_ready h

/-- Settles O5: each word is a register result by the model's own arithmetic, which agrees with R90 and R91. The words whose function is
the rule's own hold by definition; the others by the laws above. -/
theorem cThreeOperandResults : Obligations.CThreeOperandResults := by
  intro s k d a b h x y n gives
  have calu {i : Instr} {lat : Nat} {f : Env → Word} {v : Word} (hi : exec i s = issueReg .c 0 d [a, b] lat f s)
      (hv : f (issueEnv s k .c 0 [a, b]) = v) : gives i lat v := delivers_of_exec_eq_issueReg h hi hv
  exact ⟨
    -- ADD, SUB, MUL
    calu rfl rfl, calu rfl rfl, calu rfl rfl,
    -- the upper halves, and the divide group
    calu rfl (mulHigh_eq_extractLsb' x y), calu rfl (mulHighU_eq_extractLsb' x y),
    calu rfl (divS_eq_sdiv x y), calu rfl (divU_eq_div x y), calu rfl (remS_eq_sub_mul_sdiv x y), calu rfl (remU_eq_sub_mul_div x y),
    -- AND, OR, XOR, ANDN and the shifts
    calu rfl rfl, calu rfl rfl, calu rfl rfl, calu rfl rfl, calu rfl rfl, calu rfl rfl, calu rfl rfl, calu rfl rfl, calu rfl rfl,
    -- the choices and comparisons
    calu rfl (minS_eq_ite_toInt x y), calu rfl (maxS_eq_ite_toInt x y), calu rfl (minU_eq_ite_toNat x y), calu rfl (maxU_eq_ite_toNat x y),
    calu rfl (ofBool_eq_ite beq_iff_eq), calu rfl (ofBool_bne_eq_ite x y),
    calu rfl (ofBool_eq_ite BitVec.slt_iff_toInt_lt), calu rfl (ofBool_eq_ite BitVec.ult_iff_toNat_lt),
    calu rfl (ofBool_eq_ite BitVec.sle_iff_toInt_le), calu rfl (ofBool_eq_ite BitVec.ule_iff_toNat_le)⟩

end Sys2Proof.Machine
end

section
/-! Calls and returns of the C stream (04 R131, R133). -/

namespace Sys2Proof.Machine

open Sys2Proof

/-! C's last word of a line, and its retirement -/

theorem LastInLine.lane_eq {k : Ctx} {l : Lane} (h : LastInLine k l) : k.lane .c = l := by
  have hq : (k.strm .c).queue = [.lane l] := h.queue
  rw [Ctx.lane, hq, headLane, Option.getD_some]

theorem LastInLine.cLine_eq {k : Ctx} {l : Lane} (h : LastInLine k l) : k.cLine = l.addr / 32 * 32 := by rw [Ctx.cLine, h.lane_eq]

theorem StreamState.passHead_of_queue_nil {ss : StreamState} (h : ss.queue = []) : ss.passHead = ss := by
  cases ss
  cases h
  rfl

theorem StreamState.passHead_of_queue_lane {ss : StreamState} {l : Lane} (h : ss.queue = [.lane l]) : ss.passHead = ss := by
  cases ss
  cases h
  rfl

@[simp] theorem StreamState.retire_frame (ss : StreamState) (c n : Nat) : (ss.retire c n).frame = ss.frame := by
  unfold StreamState.retire; dsimp only; split <;> (try split) <;> rfl

/-- The last word of a line leaves the queue empty, or stays alone in it while a REP repeats it. -/
theorem StreamState.retire_queue_of_lane {ss : StreamState} {l : Lane} (h : ss.queue = [.lane l]) (c n : Nat) :
    (ss.retire c n).queue = [] ∨ (ss.retire c n).queue = [.lane l] := by
  have hd : dropLane ss.queue = [] := by rw [h, dropLane]
  unfold StreamState.retire
  dsimp only
  split
  · split
    · exact .inr h
    · exact .inl hd
  · exact .inl hd

/-- C passes no mark as the last word of a line retires, so it stays in its frame. -/
theorem Ctx.retire_lt_c_frame_of_lane {k : Ctx} {l : Lane} (h : k.lt.c.queue = [.lane l]) (c n : Nat) :
    (k.retire .c c n .none).lt.c.frame = k.lt.c.frame := by
  have e : (k.lt.c.retire c n).passHead = k.lt.c.retire c n := by
    rcases StreamState.retire_queue_of_lane h c n with hq | hq
    · exact StreamState.passHead_of_queue_nil hq
    · exact StreamState.passHead_of_queue_lane hq
  calc (k.retire .c c n .none).lt.c.frame = (k.lt.c.retire c n).passHead.frame := rfl
    _ = k.lt.c.frame := by rw [e, StreamState.retire_frame]

/-! The path moved to another frame -/

@[simp] theorem Ctx.markAll_lt_c (k : Ctx) (m : Mark) : (k.markAll m).lt.c = k.lt.c := rfl
@[simp] theorem Ctx.markAll_lt_next (k : Ctx) (m : Mark) : (k.markAll m).lt.next = k.lt.next := rfl
@[simp] theorem Ctx.markAll_lt_rstack (k : Ctx) (m : Mark) : (k.markAll m).lt.rstack = k.lt.rstack := rfl
@[simp] theorem Ctx.markAll_lt_depth (k : Ctx) (m : Mark) : (k.markAll m).lt.depth = k.lt.depth := rfl

/-- The path goes on at a line in the frame of another call depth, with this return stack; L, X and S come to the frame on their own
paths (04 R119, R131). -/
def Ctx.moveFrame (k : Ctx) (stack : List Nat) (depth target : Nat) : Ctx :=
  let f : Frame := ⟨depth, k.lt.c.frame.hnd⟩
  (k.setLt { k.lt with rstack := stack, depth := depth, next := some target, c := { k.lt.c with frame := f } }).markAll (.frame f)

/-- C's path stands at a line of the frame of a call depth, in or out of a trap handler as before, with a return stack. -/
def StandsAt (k k' : Ctx) (stack : List Nat) (depth target : Nat) : Prop :=
  k'.lt.next = some target ∧ k'.lt.rstack = stack ∧ k'.lt.depth = depth ∧ k'.lt.c.frame = ⟨depth, k.lt.c.frame.hnd⟩

/-- A word at the end of its line whose body moves the path to another frame. -/
theorem issues_moveFrame {s : State} {k : Ctx} {l : Lane} {srcs : List Spec} {body : Env → Att Done} {stack : List Nat}
    {depth target : Nat} (h : CanIssue s k .c 0 none srcs) (hl : LastInLine k l)
    (hb : body (issueEnv s k .c 0 srcs) = .ok ⟨s, (k.syncTake .c 0 srcs).moveFrame stack depth target, 2, .none⟩) :
    Issues s .c 2 (issue .c 0 none srcs body s) fun k' => StandsAt k k' stack depth target := by
  refine issues_of h hb ⟨?_, ?_, ?_, ?_⟩
  · rw [Ctx.retire_lt_next]; rfl
  · rw [Ctx.retire_lt_rstack]; rfl
  · rw [Ctx.retire_lt_depth]; rfl
  · have hq : ((k.syncTake .c 0 srcs).moveFrame stack depth target).lt.c.queue = [.lane l] := by
      simpa [Ctx.moveFrame] using hl.queue
    rw [Ctx.retire_lt_c_frame_of_lane hq]
    simp [Ctx.moveFrame]

/-! CALL and CALLI -/

theorem Env.transferOk_iff (e : Env) (target : Nat) :
    e.transferOk target = true ↔ (e.k0.lane .c).later = false ∧ target % 32 = 0 := by simp [Env.transferOk]

/-- The body of CALL and CALLI once the target is known. -/
def Env.callLine (e : Env) (target : Nat) : Att Done := if e.transferOk target then e.call target else .fault 0x02

theorem Env.callLine_of_not_transferOk {e : Env} {target : Nat} (h : (e.k0.lane .c).later = true ∨ target % 32 ≠ 0) :
    e.callLine target = .fault 0x02 := by
  rw [Env.callLine, if_neg]
  rw [Env.transferOk_iff]
  rintro ⟨h1, h2⟩
  rcases h with h | h
  · rw [h1] at h; cases h
  · exact h h2

section
variable {e : Env} {target : Nat} (hok : e.transferOk target = true)
include hok

theorem Env.callLine_of_greatest_depth (hd : e.k.lt.depth = 65535) : e.callLine target = .fault 0x02 := by
  rw [Env.callLine, if_pos hok, Env.call]
  exact if_pos hd

theorem Env.callLine_of_full (hd : e.k.lt.depth ≠ 65535) (hr : e.k.lt.rstack.length = 16) : e.callLine target = .fault 0x19 := by
  rw [Env.callLine, if_pos hok, Env.call]
  exact (if_neg hd).trans (if_pos hr)

theorem Env.callLine_of_room (hd : e.k.lt.depth ≠ 65535) (hr : e.k.lt.rstack.length ≠ 16) :
    e.callLine target =
      .ok ⟨e.s, e.k.moveFrame ((e.k0.cLine + 32) :: e.k.lt.rstack) (e.k.lt.depth + 1) target, 2, .none⟩ := by
  rw [Env.callLine, if_pos hok, Env.call]
  exact (if_neg hd).trans (if_neg hr)

end

/-- What a word does that calls the line at `target`, at the end of its line and elsewhere (04 R131, R133). -/
structure CallsLine (s : State) (k : Ctx) (l : Lane) (target : Nat) (o : Host.Outcome State Fault Refusal) : Prop where
  room : LastInLine k l → target % 32 = 0 → k.lt.depth ≠ 65535 → k.lt.rstack.length ≠ 16 →
    Issues s .c 2 o fun k' => StandsAt k k' ((l.addr / 32 * 32 + 32) :: k.lt.rstack) (k.lt.depth + 1) target
  full : LastInLine k l → target % 32 = 0 → k.lt.depth ≠ 65535 → k.lt.rstack.length = 16 → Raises s k .c 0x19 o
  deep : LastInLine k l → target % 32 = 0 → k.lt.depth = 65535 → Raises s k .c 0x02 o
  elsewhere : k.lane .c = l → (l.later = true ∨ target % 32 ≠ 0) → Raises s k .c 0x02 o

theorem callsLine_of_body {s : State} {k : Ctx} {srcs : List Spec} {body : Env → Att Done} {target : Nat}
    {l : Lane} (h : CanIssue s k .c 0 none srcs)
    (hb : k.lane .c = l → body (issueEnv s k .c 0 srcs) = (issueEnv s k .c 0 srcs).callLine target) :
    CallsLine s k l target (issue .c 0 none srcs body s) := by
  have hok (hl : LastInLine k l) (ht : target % 32 = 0) : (issueEnv s k .c 0 srcs).transferOk target = true := by
    rw [Env.transferOk_iff]
    exact ⟨(congrArg Lane.later hl.lane_eq).trans hl.last, ht⟩
  have hdepth : (issueEnv s k .c 0 srcs).k.lt.depth = k.lt.depth := Ctx.syncTake_lt_depth ..
  have hstack : (issueEnv s k .c 0 srcs).k.lt.rstack = k.lt.rstack := Ctx.syncTake_lt_rstack ..
  constructor
  case room =>
    intro hl ht hd hr
    refine issues_moveFrame h hl ?_
    rw [hb hl.lane_eq, Env.callLine_of_room (hok hl ht) (hdepth ▸ hd) (hstack ▸ hr), hdepth, hstack, ← hl.cLine_eq]
    rfl
  case full =>
    intro hl ht hd hr
    exact raises_of h ((hb hl.lane_eq).trans (Env.callLine_of_full (hok hl ht) (hdepth ▸ hd) (hstack ▸ hr)))
  case deep =>
    intro hl ht hd
    exact raises_of h ((hb hl.lane_eq).trans (Env.callLine_of_greatest_depth (hok hl ht) (hdepth ▸ hd)))
  case elsewhere =>
    rintro rfl hbad
    exact raises_of h ((hb rfl).trans (Env.callLine_of_not_transferOk hbad))

/-- The target of a format B word, where the sum stays an address (02 R40). -/
theorem Env.target_eq {e : Env} {o : BitVec 22} {target : Nat} (h : ((e.k0.lane .c).addr : Int) + 4 * o.toInt = target)
    (ht : target < 2 ^ 64) : e.target o = target := by
  calc e.target o = ((target : Int) % 2 ^ 64).toNat := by rw [Env.target, h]; rfl
    _ = target := by omega

theorem wbits_low (v : Word) (n : Nat) : wbits v n 0 = v.toNat % 2 ^ (n + 1) := by simp [wbits, bits]

theorem callsLine_of_call {s : State} {k : Ctx} {l : Lane} {o : BitVec 22} {target : Nat} (h : CanIssue s k .c 0 none [])
    (ht : (l.addr : Int) + 4 * o.toInt = target) (hlt : target < 2 ^ 64) : CallsLine s k l target (exec (.call o) s) := by
  refine callsLine_of_body (body := fun e => e.callLine (e.target o)) h ?_
  rintro rfl
  exact congrArg _ (Env.target_eq ht hlt)

theorem callsLine_of_calli {s : State} {k : Ctx} {l : Lane} {a : Spec} {target : Nat} (h : CanIssue s k .c 0 none [a])
    (ht : (src s k .c a).toNat % 2 ^ 48 = target) : CallsLine s k l target (exec (.calli a) s) := by
  refine callsLine_of_body (body := fun e => e.callLine (wbits (e.rd a) 47 0)) h fun _ => ?_
  exact congrArg _ ((wbits_low _ 47).trans ht)

/-! RET -/

/-- The body of RET. -/
def Env.ret (e : Env) : Att Done :=
  if (e.k0.lane .c).later then .fault 0x02
  else if e.k.lt.c.innermost.isSome then .fault 0x04
  else if e.k.lt.depth = 0 then .fault 0x02
  else match e.k.lt.rstack with
    | [] => .fault 0x19
    | t :: rest => .ok ⟨e.s, e.k.moveFrame rest (e.k.lt.depth - 1) t, 2, .none⟩

theorem exec_ret (s : State) : exec .ret s = issue .c 0 none [] Env.ret s := rfl

section
variable {e : Env} (hl : (e.k0.lane .c).later = false)
include hl

theorem Env.ret_of_level (hi : e.k.lt.c.innermost ≠ none) : e.ret = .fault 0x04 := by
  simp [Env.ret, hl, Option.isSome_iff_ne_none.2 hi]

variable (hi : e.k.lt.c.innermost = none)
include hi

theorem Env.ret_of_depth_zero (hd : e.k.lt.depth = 0) : e.ret = .fault 0x02 := by
  simp [Env.ret, hl, hi, hd]

theorem Env.ret_of_empty (hd : e.k.lt.depth ≠ 0) (hr : e.k.lt.rstack = []) : e.ret = .fault 0x19 := by
  simp [Env.ret, hl, hi, hd, hr]

theorem Env.ret_of_entry {t : Nat} {rest : List Nat} (hd : e.k.lt.depth ≠ 0) (hr : e.k.lt.rstack = t :: rest) :
    e.ret = .ok ⟨e.s, e.k.moveFrame rest (e.k.lt.depth - 1) t, 2, .none⟩ := by
  simp [Env.ret, hl, hi, hd, hr]

end

/-- Settles O16: CALL and CALLI move the path down to a new frame and RET moves it up again, each by one case of its body for each
condition; a launched context holds no entry. -/
theorem cCallsAndReturn : Obligations.CCallsAndReturn := by
  refine ⟨?_, ?_, fun l n p c => ⟨rfl, rfl⟩⟩
  · intro s k l o a target entered calls
    have calls_of {i : Instr} (h : CallsLine s k l target (exec i s)) : calls i :=
      ⟨fun hl ht => ⟨h.room hl ht, h.full hl ht, h.deep hl ht⟩, h.elsewhere⟩
    exact ⟨fun h ht hlt => calls_of (callsLine_of_call h ht hlt), fun h ht => calls_of (callsLine_of_calli h ht)⟩
  · intro s k l h hl
    have hlast : ((issueEnv s k .c 0 []).k0.lane .c).later = false := (congrArg Lane.later hl.lane_eq).trans hl.last
    rw [exec_ret]
    refine ⟨fun hi hd t rest hr => ?_, fun hi => ?_, fun hi hd => ?_, fun hi hd hr => ?_⟩
    · obtain ⟨k', hk', hready, hnext, hstack, hdepth, hframe⟩ := issues_moveFrame h hl (Env.ret_of_entry hlast hi hd hr)
      exact ⟨k', hk', hready, hnext, hstack, hdepth ▸ Nat.sub_one_add_one hd, hframe⟩
    · exact raises_of h (Env.ret_of_level hlast hi)
    · exact raises_of h (Env.ret_of_depth_zero hlast hi hd)
    · exact raises_of h (Env.ret_of_empty hlast hi hd hr)

end Sys2Proof.Machine
end

section
/-! The loop-control registers and the oldest entry of the return stack (04 R126 to R128). -/

namespace Sys2Proof.Machine

open Sys2Proof

/-! Fields of a packed word -/

/-- A bit of a packed word is the Boolean that stands at its place. -/
theorem getLsbD_ofNat_of_div_mod {v i : Nat} {b : Bool} (h : v / 2 ^ i % 2 = b.toNat) (hi : i < 64) :
    (BitVec.ofNat 64 v).getLsbD i = b := by
  rw [BitVec.getLsbD_ofNat, Nat.testBit_eq_decide_div_mod_eq, h, decide_eq_true hi, Bool.true_and]
  cases b <;> rfl

theorem extractLsb'_ofNat_toNat {v : Nat} (h : v < 2 ^ 64) (i n : Nat) :
    ((BitVec.ofNat 64 v).extractLsb' i n).toNat = v / 2 ^ i % 2 ^ n := by
  rw [BitVec.extractLsb'_toNat, BitVec.toNat_ofNat, Nat.mod_eq_of_lt h, Nat.shiftRight_eq_div_pow]

/-- The bits from `i` on are zero of a number below `2 ^ i`. -/
theorem ofNat_ushiftRight_eq_zero {v i : Nat} (h : v < 2 ^ i) (h64 : v < 2 ^ 64) : BitVec.ofNat 64 v >>> i = 0 := by
  apply BitVec.eq_of_toNat_eq
  rw [BitVec.toNat_ushiftRight, BitVec.toNat_ofNat, Nat.mod_eq_of_lt h64, Nat.shiftRight_eq_div_pow, Nat.div_eq_of_lt h]
  rfl

/-! What each selector gives -/

/-- lcN.ctl of a level (04 R127); `linked`: the format table is linked to it. -/
def Lvl.control (r : Lvl) (linked : Bool) : Nat :=
  1 + r.piped.toNat * 2 + (if r.piped then (r.stages - 1) * 2 ^ 2 else 0) + (r.lines - 1) * 2 ^ 5 + r.exit.toNat * 2 ^ 11 +
    r.map.isSome.toNat * 2 ^ 12 + linked.toNat * 2 ^ 13 + r.frame.depth * 2 ^ 16 + r.frame.hnd.toNat * 2 ^ 32

/-- The format table is linked to level `n` (12 R363). -/
def Ctx.linksLevel (k : Ctx) (n : Nat) : Bool := decide (wbits k.lt.sys.ftlink 1 0 = n)

theorem toNat_mul_eq_ite (b : Bool) (w : Nat) : b.toNat * w = if b then w else 0 := by
  cases b
  · exact Nat.zero_mul w
  · exact Nat.one_mul w

theorem Strm.num_lt (st : Strm) : st.num < 4 := by cases st <;> decide

section
variable (k : Ctx) {n : Nat} (hn : n ≤ 2)
include hn

theorem lctlRead_count : lctlRead k n = BitVec.ofNat 64 ((k.lt.c.view n).elim 0 Lvl.count) := by
  rw [lctlRead, if_pos hn]
  cases k.lt.c.view n <;> rfl

theorem lctlRead_control_none (h : k.lt.c.view n = none) : lctlRead k (4 + n) = 0 := by
  rw [lctlRead, if_neg (by omega), if_pos (by omega), Nat.add_sub_cancel_left, h]

theorem lctlRead_control_some {r : Lvl} (h : k.lt.c.view n = some r) :
    lctlRead k (4 + n) = BitVec.ofNat 64 (r.control (k.linksLevel n)) := by
  rw [lctlRead, if_neg (by omega), if_pos (by omega), Nat.add_sub_cancel_left, h]
  -- kept abstract: the kernel must not unfold it as it compares the two numbers
  generalize BitVec.ofNat 64 = word
  dsimp only
  simp only [Lvl.control, Ctx.linksLevel, toNat_mul_eq_ite, decide_eq_true_eq]

theorem lctlRead_body : lctlRead k (8 + n) = BitVec.ofNat 64 ((k.lt.c.view n).elim 0 fun r => r.first % 2 ^ 48) := by
  rw [lctlRead, if_neg (by omega), if_neg (by omega), if_pos (by omega), Nat.add_sub_cancel_left]
  cases k.lt.c.view n <;> rfl

theorem lctlRead_index (st : Strm) : lctlRead k (0x10 + 4 * n + st.num) = BitVec.ofNat 64 ((k.strm st).index n) := by
  have hst := Strm.num_lt st
  have hlv : (0x10 + 4 * n + st.num - 16) / 4 = n := by omega
  have hs : (0x10 + 4 * n + st.num - 16) % 4 = st.num := by omega
  rw [lctlRead, if_neg (by omega), if_neg (by omega), if_neg (by omega), if_neg (by omega), if_neg (by omega), if_pos (by omega), hlv, hs]
  cases st <;> rfl

end

theorem lctlRead_rot (k : Ctx) :
    lctlRead k 0x0C = BitVec.ofNat 64 (k.lt.c.rot.toNat + k.lt.l.rot.toNat * 2 ^ 4 + k.lt.x.rot.toNat * 2 ^ 8 + k.lt.s.rot.toNat * 2 ^ 12) := by
  simp [lctlRead]

theorem lctlRead_rsctl (k : Ctx) : lctlRead k 0x0E = BitVec.ofNat 64 (k.lt.rstack.length + k.lt.depth * 2 ^ 16) := by
  simp [lctlRead]

/-! The fields level by level -/

/-- A level whose stages, lines and depth fit their fields of lcN.ctl. -/
structure Lvl.Sized (r : Lvl) : Prop where
  stages : r.stages ≤ 8
  lines  : r.lines ≤ 64
  depth  : r.frame.depth < 2 ^ 16

/-- The fields of lcN.ctl at their places (04 R127). -/
structure Lvl.ControlFields (r : Lvl) (linked : Bool) (v : Word) : Prop where
  active : v.getLsbD 0 = true
  kind   : v.getLsbD 1 = r.piped
  stages : r.piped = true → (v.extractLsb' 2 3).toNat = r.stages - 1
  lines  : (v.extractLsb' 5 6).toNat = r.lines - 1
  exit   : v.getLsbD 11 = r.exit
  map    : v.getLsbD 12 = r.map.isSome
  linked : v.getLsbD 13 = linked
  depth  : (v.extractLsb' 16 16).toNat = r.frame.depth
  hnd    : v.getLsbD 32 = r.frame.hnd

theorem Lvl.Sized.controlFields {r : Lvl} (h : r.Sized) (linked : Bool) : r.ControlFields linked (BitVec.ofNat 64 (r.control linked)) := by
  obtain ⟨hs, hl, hd⟩ := h
  have hstages : (if r.piped then (r.stages - 1) * 2 ^ 2 else 0) ≤ 7 * 2 ^ 2 := by split <;> omega
  have hfour : (if r.piped then (r.stages - 1) * 2 ^ 2 else 0) % 4 = 0 := by split <;> omega
  have hp := Bool.toNat_lt r.piped
  have he := Bool.toNat_lt r.exit
  have hm := Bool.toNat_lt r.map.isSome
  have hf := Bool.toNat_lt linked
  have hh := Bool.toNat_lt r.frame.hnd
  have h64 : r.control linked < 2 ^ 64 := by rw [Lvl.control]; omega
  constructor
  case stages =>
    intro hpiped
    rw [extractLsb'_ofNat_toNat h64, Lvl.control, if_pos hpiped]
    omega
  case active => exact getLsbD_ofNat_of_div_mod (by rw [Lvl.control, Bool.toNat_true]; omega) (by decide)
  case lines | depth => rw [extractLsb'_ofNat_toNat h64, Lvl.control]; omega
  case kind | exit | map | linked | hnd => exact getLsbD_ofNat_of_div_mod (by rw [Lvl.control]; omega) (by decide)

theorem Ctx.linksLevel_eq_true_iff (k : Ctx) (n : Nat) :
    k.linksLevel n = true ↔ (k.lt.sys.ftlink.extractLsb' 0 2).toNat = n := by
  simp [Ctx.linksLevel, wbits, bits, BitVec.extractLsb'_toNat]

/-- lcN.cnt, lcN.body and lcN.ctl of an active level (04 R127). -/
theorem level_fields {k : Ctx} {n : Nat} (hn : n ≤ 2) {r : Lvl} (hr : k.lt.c.view n = some r) (hcount : r.count < 2 ^ 32)
    (hfirst : r.first < 2 ^ 48) (hsized : r.Sized) :
    (lctlRead k n).toNat = r.count ∧ (lctlRead k (8 + n)).toNat = r.first ∧ r.ControlFields (k.linksLevel n) (lctlRead k (4 + n)) := by
  rw [lctlRead_count k hn, lctlRead_body k hn, lctlRead_control_some k hn hr, hr, Option.elim_some, Option.elim_some]
  refine ⟨Nat.mod_eq_of_lt (by omega), ?_, hsized.controlFields _⟩
  rw [BitVec.toNat_ofNat]
  omega

theorem lctlRead_of_inactive {k : Ctx} {n : Nat} (hn : n ≤ 2) (hr : k.lt.c.view n = none) :
    lctlRead k n = 0 ∧ lctlRead k (4 + n) = 0 ∧ lctlRead k (8 + n) = 0 := by
  rw [lctlRead_count k hn, lctlRead_body k hn, hr]
  exact ⟨rfl, lctlRead_control_none k hn hr, rfl⟩

/-! Indices, rotation bases and rsctl -/

theorem StreamState.index_eq_elim (ss : StreamState) (n : Nat) : ss.index n = (ss.view n).elim 0 Lvl.idx := by
  rw [StreamState.index, StreamState.view]
  cases ss.views[n]?.getD none <;> rfl

theorem rot_fields (k : Ctx) :
    let v := lctlRead k 0x0C
    (∀ st : Strm, v.extractLsb' (4 * st.num) 4 = (k.strm st).rot) ∧ v >>> 16 = 0 := by
  have hc := k.lt.c.rot.isLt
  have hl := k.lt.l.rot.isLt
  have hx := k.lt.x.rot.isLt
  have hs := k.lt.s.rot.isLt
  rw [lctlRead_rot]
  refine ⟨fun st => ?_, ofNat_ushiftRight_eq_zero (by omega) (by omega)⟩
  apply BitVec.eq_of_toNat_eq
  rw [extractLsb'_ofNat_toNat (by omega)]
  cases st
  all_goals
    dsimp only [Strm.num, Ctx.strm, Light.strm]
    omega

theorem rsctl_fields {k : Ctx} (hr : k.lt.rstack.length ≤ 16) (hd : k.lt.depth < 2 ^ 16) :
    let v := lctlRead k 0x0E
    (v.extractLsb' 0 5).toNat = k.lt.rstack.length ∧ v.extractLsb' 5 11 = 0 ∧ (v.extractLsb' 16 16).toNat = k.lt.depth ∧ v >>> 32 = 0 := by
  have h64 : k.lt.rstack.length + k.lt.depth * 2 ^ 16 < 2 ^ 64 := by omega
  rw [lctlRead_rsctl]
  refine ⟨?_, ?_, ?_, ofNat_ushiftRight_eq_zero (by omega) h64⟩
  · rw [extractLsb'_ofNat_toNat h64]
    omega
  · apply BitVec.eq_of_toNat_eq
    rw [extractLsb'_ofNat_toNat h64]
    show _ = 0
    omega
  · rw [extractLsb'_ofNat_toNat h64]
    omega

theorem index_field {k : Ctx} {n : Nat} (hn : n ≤ 2) (st : Strm) {r : Lvl} (hr : (k.strm st).view n = some r) (hi : r.idx < 2 ^ 32) :
    ((lctlRead k (0x10 + 4 * n + st.num)).extractLsb' 0 32).toNat = r.idx ∧ lctlRead k (0x10 + 4 * n + st.num) >>> 32 = 0 := by
  have e : lctlRead k (0x10 + 4 * n + st.num) = BitVec.ofNat 64 r.idx := by rw [lctlRead_index k hn, StreamState.index_eq_elim, hr]; rfl
  rw [e, extractLsb'_ofNat_toNat (by omega)]
  exact ⟨by omega, ofNat_ushiftRight_eq_zero hi (by omega)⟩

theorem index_of_inactive {k : Ctx} {n : Nat} (hn : n ≤ 2) (st : Strm) (hr : (k.strm st).view n = none) :
    lctlRead k (0x10 + 4 * n + st.num) = 0 := by
  rw [lctlRead_index k hn, StreamState.index_eq_elim, hr]
  rfl

/-! The oldest entry of the return stack -/

/-- The return stack and the call depth. -/
def Light.returns (l : Light) : List Nat × Nat := (l.rstack, l.depth)

@[simp] theorem Light.setStrm_returns (l : Light) (st : Strm) (v : StreamState) : (l.setStrm st v).returns = l.returns := by
  cases st <;> rfl

theorem Light.good_returns (l : Light) (r : RegPlace) : (l.good r).returns = l.returns := by
  unfold Light.good
  split <;> rfl

theorem Light.shiftMarks_returns (l : Light) (st : Strm) : (l.shiftMarks st).returns = l.returns := by
  unfold Light.shiftMarks
  split <;> rfl

@[simp] theorem Light.landMarks_returns (l : Light) (f : Flight) : (l.landMarks f).returns = l.returns := by
  unfold Light.landMarks
  dsimp only
  split <;> split <;> simp only [Light.good_returns, Light.shiftMarks_returns]

theorem Light.pushDone_returns (l : Light) (ord : Nat) (c : Ctr) : (l.pushDone ord c).returns = l.returns := by
  unfold Light.pushDone
  dsimp only
  split
  · rfl
  · split <;> rfl

@[simp] theorem Light.pushDone_foldl_returns (l : Light) (ord : Nat) (cs : List Ctr) :
    (cs.foldl (fun l c => l.pushDone ord c) l).returns = l.returns := by
  induction cs generalizing l with
  | nil => rfl
  | cons c cs ih => rw [List.foldl_cons, ih, Light.pushDone_returns]

theorem Light.pushBottom_returns (l : Light) (a : Nat) : (l.pushBottom a).returns = (l.returns.1 ++ [a], l.returns.2) := rfl

/-- A write of rsbot that lands puts an oldest entry in. -/
theorem Ctx.landOne_rsbot_returns (k : Ctx) {f : Flight} (h : f.tgt = .rsbot) :
    (k.landOne f).lt.returns = (k.lt.rstack ++ [f.val.toNat % 2 ^ 48], k.lt.depth) := by
  simp only [Ctx.landOne, h, Ctx.setLt_lt, Ctx.setStrm_eq, Light.pushDone_foldl_returns, Light.pushBottom_returns, Light.landMarks_returns,
    Light.setStrm_returns]
  rw [wbits_low, Light.returns]

/-! LWR -/

/-- The write of a read-only selector changes nothing but the queue. -/
theorem lwr_issuesAs {s : State} {k : Ctx} {a : Spec} (sel : BitVec 6) (h : CanIssue s k .c 0 none [a]) :
    IssuesAs s .c 1 (k.syncTake .c 0 [a]) (exec (.lwr a sel) s) :=
  issuesAs_of (body := fun e => e.done e.k) h rfl

/-- A return entry that LWR of rsbot takes, while the stack holds `n` entries (04 R128). -/
def EntryLegal (v : Word) (n : Nat) : Prop := v.toNat % 32 = 0 ∧ v.toNat < 2 ^ 48 ∧ n ≠ 16

theorem not_entryLegal_iff (v : Word) (n : Nat) : ¬EntryLegal v n ↔ wbits v 4 0 ≠ 0 ∨ wbits v 63 48 ≠ 0 ∨ n = 16 := by
  have hv := v.isLt
  simp only [EntryLegal, wbits, bits]
  omega

/-- The body of LWR of rsbot. -/
def Env.lwrRsbot (a : Spec) (e : Env) : Att Done :=
  if wbits (e.rd a) 4 0 ≠ 0 ∨ wbits (e.rd a) 63 48 ≠ 0 ∨ e.k.lt.rstack.length = 16 then .fault 0x02
  else e.done (e.k.fly .c (landAt e.s.cycle e.k0 .c 1) .rsbot (e.rd a) false [])

theorem exec_lwrRsbot (a : Spec) (s : State) : exec (.lwrRsbot a) s = issue .c 0 none [a] (Env.lwrRsbot a) s := rfl

section
variable {s : State} {k : Ctx} {a : Spec} (h : CanIssue s k .c 0 none [a])
include h

theorem lwrRsbot_sends (hv : EntryLegal (src s k .c a) k.lt.rstack.length) :
    Sends s k .c 1 .rsbot (src s k .c a) [] (exec (.lwrRsbot a) s) := by
  have hb : Env.lwrRsbot a (issueEnv s k .c 0 [a]) =
      .ok ⟨s, (k.syncTake .c 0 [a]).fly .c (landAt s.cycle k .c 1) .rsbot (src s k .c a) false [], 1, .none⟩ := by
    have hstack : (issueEnv s k .c 0 [a]).k.lt.rstack = k.lt.rstack := Ctx.syncTake_lt_rstack ..
    exact if_neg fun hbad => (not_entryLegal_iff ..).2 (hstack ▸ hbad) hv
  rw [exec_lwrRsbot]
  exact issues_of h hb (by simp [Ctx.fly])

theorem lwrRsbot_raises (hv : ¬EntryLegal (src s k .c a) k.lt.rstack.length) : Raises s k .c 0x02 (exec (.lwrRsbot a) s) := by
  have hb : Env.lwrRsbot a (issueEnv s k .c 0 [a]) = .fault 0x02 := by
    have hstack : (issueEnv s k .c 0 [a]).k.lt.rstack = k.lt.rstack := Ctx.syncTake_lt_rstack ..
    exact if_pos (hstack ▸ (not_entryLegal_iff ..).1 hv)
  rw [exec_lwrRsbot]
  exact raises_of h hb

end

/-! LRD of rsbot -/

/-- What LRD of rsbot gives of a return stack. -/
def oldestEntry (stack : List Nat) : Word := stack.getLast?.elim 0 fun a => BitVec.ofNat 64 (a % 2 ^ 48)

/-- The oldest entry taken out of the return stack. -/
def Ctx.dropOldest (k : Ctx) : Ctx := k.setLt { k.lt with rstack := k.lt.rstack.dropLast }

/-- The body of LRD of rsbot. -/
def Env.lrdRsbot (d : Spec) (e : Env) : Att Done :=
  e.done (({ e with k := e.k.dropOldest } : Env).result d 1 (oldestEntry e.k.lt.rstack) e.push)

theorem exec_lrdRsbot (d : Spec) (s : State) : exec (.lrdRsbot d) s = issue .c 0 (some d) [] (Env.lrdRsbot d) s := by
  refine congrArg (issue .c 0 (some d) [] · s) (funext fun e => ?_)
  dsimp only [Env.lrdRsbot, oldestEntry]
  cases e.k.lt.rstack.getLast? <;> rfl

section
variable {s : State} {k : Ctx} {d : Spec} (h : CanIssue s k .c 0 (some d) [])
include h

theorem lrdRsbot_delivers : Delivers s k .c 0 d 1 (oldestEntry k.lt.rstack) (exec (.lrdRsbot d) s) := by
  rw [exec_lrdRsbot]
  exact issues_of h rfl (by simp [Env.result, Ctx.fly, Ctx.dropOldest, issueEnv])

theorem lrdRsbot_drops : Issues s .c 1 (exec (.lrdRsbot d) s) fun k' =>
    k'.lt.rstack = k.lt.rstack.dropLast ∧ k'.lt.depth = k.lt.depth := by
  rw [exec_lrdRsbot]
  exact issues_of h rfl (by simp [Env.result, Ctx.fly, Ctx.dropOldest, issueEnv])

end

/-- Settles O18: LWR and LRD of rsbot by the cases of their bodies, the landing of an entry by what a landing leaves of the return stack, and
each field by its place in the number that its selector packs. -/
theorem cLoopRegisters : Obligations.CLoopRegisters := by
  refine ⟨?_, ?_, ?_, fun k => ⟨rot_fields k, rsctl_fields⟩⟩
  · intro s k d a sel
    refine ⟨fun h => ⟨lwr_issuesAs sel h, lwrRsbot_sends h, lwrRsbot_raises h⟩, fun h => ⟨fun rest t hr => ?_, fun hr => ?_⟩⟩
    · have hd := lrdRsbot_delivers h
      have hs := lrdRsbot_drops h
      simp only [hr, oldestEntry, List.getLast?_concat, List.dropLast_concat] at hd hs
      exact ⟨hd, hs⟩
    · have hd := lrdRsbot_delivers h
      have hs := lrdRsbot_drops h
      rw [hr] at hd hs
      exact ⟨hd, hs⟩
  · intro k f hf
    exact Prod.mk.inj (k.landOne_rsbot_returns hf)
  · intro k n hn
    refine ⟨?_, lctlRead_of_inactive hn, fun st => ⟨fun r hr hi => index_field hn st hr hi, index_of_inactive hn st⟩⟩
    intro r hr hcount hfirst _ hs hl _ hd
    obtain ⟨hcnt, hbody, hc⟩ := level_fields hn hr hcount hfirst ⟨hs, hl, hd⟩
    have hlink : (lctlRead k (4 + n)).getLsbD 13 = true ↔ (k.lt.sys.ftlink.extractLsb' 0 2).toNat = n := by
      rw [hc.linked, k.linksLevel_eq_true_iff]
    exact ⟨hcnt, hbody, hc.active, hc.kind, hc.stages, hc.lines, hc.exit, hc.map, hlink, hc.depth, hc.hnd⟩

end Sys2Proof.Machine
end

section
/-! Reads of a byte memory by its bytes, and where the elements of a region lie (05 R148, R154). -/

namespace Sys2Proof.Machine

open Sys2Proof

/-! What a read of a memory in canonical form gives -/

/-- Below rising numbers, the cells that a read skips are those below its address. -/
theorem Sparse.dropWhile_lt_eq_filter {α : Type} (m : Sparse α) (a : Nat) (h : Sparse.wf m = true) :
    (m.dropWhile fun p => p.1 < a) = m.filter fun p => a ≤ p.1 := by
  induction m with
  | nil => rfl
  | cons p rest ih =>
    obtain ⟨n, b⟩ := p
    obtain ⟨hlt, hrest⟩ := (Sparse.wf_cons n b rest).1 h
    by_cases hn : n < a
    · rw [List.dropWhile_cons_of_pos (by simpa using hn), List.filter_cons_of_neg (by simpa using hn), ih hrest]
    · have hall : ∀ p ∈ (n, b) :: rest, decide (a ≤ p.1) = true := by
        intro p hp
        rcases List.mem_cons.1 hp with rfl | hp
        · simpa using hn
        · have := hlt p hp
          exact decide_eq_true (by omega)
      rw [List.dropWhile_cons_of_neg (by simpa using hn), List.filter_eq_self.2 hall]

theorem Memory.get_eq_zero_of_lt (m : Memory) {a : Nat} (h : ∀ p ∈ m, a < p.1) : m.get a = 0 := by
  rw [Memory.get, Sparse.get_none m a fun p hp => (h p hp).ne']
  rfl

theorem map_range_succ_add {β : Type} (f : Nat → β) (a n : Nat) :
    (List.range (n + 1)).map (fun i => f (a + i)) = f a :: (List.range n).map fun i => f (a + 1 + i) := by
  simp [List.range_succ_eq_map, Function.comp_def, Nat.add_assoc, Nat.add_comm 1]

theorem Memory.readFrom_eq_map_get (n a : Nat) (m : Memory) (hm : Sparse.wf m = true) (ha : ∀ p ∈ m, a ≤ p.1) :
    Memory.readFrom n a m = (List.range n).map fun i => m.get (a + i) := by
  induction n generalizing a m with
  | zero => rfl
  | succ n ih =>
    match m with
    | [] => simp [Memory.readFrom, Memory.get]
    | (x, b) :: rest =>
      obtain ⟨hlt, hrest⟩ := (Sparse.wf_cons x b rest).1 hm
      rw [Memory.readFrom, map_range_succ_add (Memory.get _)]
      split
      next hx =>
        subst hx
        have hne (i : Nat) : x + 1 + i ≠ x := by omega
        rw [ih (x + 1) rest hrest hlt]
        simp [Memory.get, Sparse.get, hne]
      next hx =>
        have habove : ∀ p ∈ (x, b) :: rest, a < p.1 := by
          have hax : a < x := lt_of_le_of_ne (ha (x, b) List.mem_cons_self) (Ne.symm hx)
          simpa [hax] using fun y c hy => hax.trans (hlt (y, c) hy)
        rw [ih (a + 1) _ hm habove, Memory.get_eq_zero_of_lt _ habove]

/-- A read gives the bytes from its address on (00 R8). -/
theorem Memory.read_eq_map_get (m : Memory) (a n : Nat) (h : m.wf = true) :
    m.read a n = (List.range n).map fun i => m.get (a + i) := by
  have hm := ((Memory.wf_iff m).1 h).1
  rw [Memory.read, Sparse.dropWhile_lt_eq_filter m a hm,
    Memory.readFrom_eq_map_get n a _ (Sparse.wf_filter m _ hm) fun p hp => by simpa using (List.mem_filter.1 hp).2]
  refine List.map_congr_left fun i _ => ?_
  rw [Memory.get, Sparse.get_filter m (fun x => decide (a ≤ x)), if_pos (by simp), Memory.get]

theorem Memory.length_read (m : Memory) (a n : Nat) (h : m.wf = true) : (m.read a n).length = n := by
  simp [Memory.read_eq_map_get m a n h]

theorem Memory.read_add (m : Memory) (a n k : Nat) (h : m.wf = true) : m.read a (n + k) = m.read a n ++ m.read (a + n) k := by
  simp only [Memory.read_eq_map_get m _ _ h, List.range_add, List.map_append, List.map_map, Function.comp_def, Nat.add_assoc]

/-- A run of bytes, cut into elements, holds what reads of the elements give one by one. -/
theorem chunksOf_read (m : Memory) (a e n : Nat) (h : m.wf = true) :
    chunksOf e n (m.read a (n * e)) = (List.range n).map fun j => leNat (m.read (a + j * e) e) := by
  induction n generalizing a with
  | zero => rfl
  | succ n ih =>
    have hlen := m.length_read a e h
    have hshift (j : Nat) : a + (j + 1) * e = a + e + j * e := by rw [Nat.succ_mul]; omega
    rw [Nat.succ_mul, Nat.add_comm (n * e), m.read_add a e (n * e) h, chunksOf, List.take_left' hlen, List.drop_left' hlen, ih,
      List.range_succ_eq_map, List.map_cons, List.map_map]
    simp [Function.comp_def, hshift]

/-! Where an element lies (05 R148) -/

/-- The chunk of `lin` within its run, where a layout moves it. -/
theorem layoutOff_eq {layout : Nat} (h : layout ≤ 2) (lin : Nat) : layoutOff layout lin =
    lin / 512 * 512 + lin % 16 + 16 *
      (if layout = 0 then lin / 16 % 32 else if layout = 1 then (lin / 16 % 32) ^^^ (lin / 512 % 32)
        else (lin / 16 % 32 + lin / 512 % 32) % 32) := by
  have hsplit (a b c : Nat) : a + b * 16 + c = a + c + 16 * b := by omega
  match layout, h with
  | 0, _ => exact hsplit ..
  | 1, _ => exact hsplit ..
  | 2, _ => exact hsplit ..

theorem layoutOff_zero (lin : Nat) : layoutOff 0 lin = lin := by
  rw [layoutOff_eq (Nat.zero_le 2), if_pos rfl]
  omega

theorem Rgn.off_of_lin {r : Rgn} {j lin : Nat} (h : r.lin j = lin) : r.off j = layoutOff r.layout lin := by
  rw [Rgn.off, h, Int.toNat_natCast]

/-- Under stride 1 and layout LIN the elements lie one after the other. -/
theorem Rgn.off_of_packed {r : Rgn} (hs : r.stride = 1) (hl : r.layout = 0) (j : Nat) : r.off j = r.base + j * elemSize r.ty := by
  have hlin : r.lin j = (r.base + j * elemSize r.ty : Nat) := by rw [Rgn.lin, hs, mul_one]; norm_cast
  rw [Rgn.off_of_lin hlin, hl, layoutOff_zero]

/-! What a region holds (05 R154) -/

theorem State.view_of_quiet (s : State) {id : Nat} {k : Ctx} (st : Strm) (hp : k.pends = []) (he : k.engineWrites = []) :
    s.view id k st = ⟨k.spBase, (s.core (coreOf id)).sp, [], s.free⟩ := by
  simp [State.view, State.viewBy, hp, he]

theorem View.bytes_of_no_others {v : View} (h : v.others = []) (idx off n : Nat) : v.bytes idx off n = v.mem.read (v.base + off) n := by
  rw [View.bytes, h]
  rfl

/-- A view in which no one else writes gives each element of a byte type where it lies, however the region is read. -/
theorem View.elems_of_no_others {v : View} {r : Rgn} (ho : v.others = []) (hm : v.mem.wf = true) (ht : subByte r.ty = false) :
    v.elems r = (List.range r.count).map fun j => leNat (v.mem.read (v.base + r.off j) (elemSize r.ty)) := by
  by_cases hpacked : r.stride = 1 ∧ r.layout = 0
  · obtain ⟨hs, hl⟩ := hpacked
    simp [View.elems, ht, ho, hs, hl, chunksOf_read _ _ _ _ hm, Rgn.off_of_packed hs hl, Nat.add_assoc]
  · have hslow : (r.stride == 1 && r.layout == 0) = false := by simpa using hpacked
    simp [View.elems, ht, Bool.and_assoc, hslow, View.bytes_of_no_others ho]

/-- Settles O39: the offset by the layout's own formula; the elements by what a view without pending writes gives, where a packed region,
read as one run of bytes, holds the same elements as its reads one by one. -/
theorem regionElements : Obligations.RegionElements := by
  intro s id k st r _ hbyte hlayout
  refine ⟨fun j _ lin hlin => ?_, fun hp he hm => ?_⟩
  · rw [Rgn.off_of_lin hlin, layoutOff_eq hlayout]
  · rw [s.view_of_quiet st hp he]
    exact View.elems_of_no_others rfl hm hbyte

end Sys2Proof.Machine
end
